-- ==== Sys2Proof/Word.lean ====
section
/-! DEFINITION. The plainest words of the part: bytes, register words, and one 16-bit write of the memory port.
All desk memory fields are little-endian (00_scope.md, Desk memory). Numbers of which the manual only counts or
compares (days, cents, indices, sequence numbers) are `Nat`, brought into their width where they are written. -/

namespace Sys2Proof

/-- One byte of desk memory, of a line frame or of a dot line. -/
abbrev Byte := BitVec 8

/-- One of the five host registers, "32 bits wide and … read and written as whole words" (R193). -/
abbrev RegWord := BitVec 32

/-- One 16-bit write through the memory port (R205): the address and the word written. -/
structure WordWrite where
  addr : Nat
  word : Nat
  deriving DecidableEq, Repr

end Sys2Proof
end

