-- ==== Sys2Proof/Config.lean ====
section
/-! DEFINITION. What an installation fixes: the constants of the manual that several chapters share, and the values
the manual leaves open: the frequency of SYSCLK (log entry 9), when a page is handed over (log entry 37), and the
stop bit of a lost octet (log entry 38). -/

namespace Sys2Proof.Config

/-- The frequency of SYSCLK in Hz. The manual's rules use it (R40, R161) and never give it; 16 MHz in its notes is an
example. It has no body: no proof can learn a value of it (log entry 9, DESIGN CHOICE, safe). -/
opaque sysclkHz : Nat

/-- Whether the journal writer answers the `n`-th request for a page after the TAKEN's own step, so that a RELEASE_PAGES may come
first (R172 lets either come first). It has no body: no proof can learn a value of it (log entry 37, DESIGN CHOICE, safe). -/
opaque answersLater : Nat → Bool

/-- Whether the octet that the receive holding queue loses carries a FRAMING error (R163, R164). It has no body: no proof can learn
a value of it (log entry 38, DESIGN CHOICE, safe). -/
opaque lostFraming : Nat → Bool

/-- What a byte of desk memory reads as before anything has been written to it (log entry 4, DESIGN CHOICE, unsafe). -/
def blankByte : Byte := 0

/-- The null record index (00_scope.md, Identifiers). -/
def nullIndex : Nat := 0xFFFF

/-- The magic word of the anchor block (R196). -/
def anchorMagic : Nat := 0x5A310410

/-- The reserve: the last 64 entries of journal room (R90, R91). -/
def reserve : Nat := 64

/-- The last day number (00_scope.md, Dates and times). -/
def lastDay : Nat := 65535

/-- The bound of the fines owed, in cents (R51, R76). -/
def maxFines : Nat := 999999

/-- Greatest item number (00_scope.md, Identifiers). -/
def maxItem : Nat := 9999999999

/-- Greatest borrower number (00_scope.md, Identifiers). -/
def maxBorrower : Nat := 99999999

end Sys2Proof.Config
end

