-- ==== Sys2Proof/Syntax.lean ====
section
/-! DEFINITION. The commands: one constructor per row of spec/opcode_table.json, in the table's order. The table gives
its rows no operands; an operand below is what the step takes from outside the part (a register value, the wand, the level
of a pin, the ticks that have passed). Log entries 3, 6, 7, 10 and 11 say what the model's own operands stand for. -/

namespace Sys2Proof

/-- The counts the part keeps in groups of the anchor block: the line group (R166, R169), the printer group (R179) and the
upload report (R167, R171, R172, R173). -/
inductive GroupCount where
  | lineErrors | startsSkipped | slipsPrinted | slipsLost | pagesSent | pagesTaken | applied | ignored | dropped | retries
  | stray
  deriving DecidableEq, Repr

/-- Work of one client of the memory port that an ANCHOR write or a loss of power can find begun and not finished (R37, R55,
R61, R158; log entry 7, DESIGN CHOICE). -/
inductive Work where
  /-- The engine's transaction, its fault record included (R61, R65), or the anchoring in progress (R195). -/
  | engine
  /-- The slate writer's outcome, or its counter mirror (R37, R19). -/
  | slateOutcome | counterMirror
  /-- The frees of RELEASE_PAGES (step 3 of R158). -/
  | freedPages
  /-- The one access that makes a page SENDING, FREE after its TAKEN, or FULL again (R155, R172, R175). -/
  | pageSending | pageTaken | pageKept
  /-- A count of a group (R55, R177, R179). -/
  | count (c : GroupCount)
  /-- The upload's end reason, and its whole report at the cut (R170, R175). -/
  | reportEnd (code : Fin 5) | uploadReport
  /-- The reason word and the result count of the current order (step 3 of R200). -/
  | orderFields (reason : BitVec 16) (count : BitVec 32)
  /-- The end of an END order with the close of its list, or a close TOO_LONG (R201). -/
  | endList | tooLong
  /-- The fault record of a rejected post, or of a list that has left the window (R197, R199, R201). -/
  | postFault (address : RegWord) | listFault
  /-- The entries of a report in a HALTED desk (R202). -/
  | haltedReport
  deriving DecidableEq, Repr

/-- An octet on LINE_RX (log entry 11, DESIGN CHOICE). `bits`: the 7th, 8th and 9th samples of each bit time, from the start bit to
the stop bit (R163). `changes`: changes of the parity setting since the octet began (R161). -/
structure OctetSamples where
  bits : List (BitVec 3)
  changes : Nat
  deriving DecidableEq, Repr

/-- One whole and indivisible step of the part (95_what_each_step_holds.md). -/
inductive Instr where
  /-- POWER_ON. `stopped`: the work then in progress, each with the 16-bit writes it had made when power failed (R61, log
  entries 6 and 7, DESIGN CHOICE). -/
  | powerOn (stopped : List (Work × Nat))
  /-- ANCHOR_WRITE of `value`. `stopped` as for POWER_ON. -/
  | anchorWrite (value : RegWord) (stopped : List (Work × Nat))
  | anchoringEnd
  | worklistWrite (value : RegWord)
  | noticeWrite (value : RegWord)
  | ceilingWrite (value : RegWord)
  | stateWrite (value : RegWord)
  /-- ELEMENT_END on wand line `wand`, `ticks` wand ticks after the channel's last event (R1, log entry 3, DESIGN CHOICE). -/
  | elementEnd (wand : Fin 4) (ticks : Nat)
  /-- QUIET_ZONE_BEGIN on channel `wand`, `ticks` wand ticks after the channel's last event (R4, log entry 3, DESIGN CHOICE). -/
  | quietZoneBegin (wand : Fin 4) (ticks : Nat)
  | decodeComplete (wand : Fin 4)
  | repeatTimerExpire (station : Fin 4)
  | counterMirrorWrite
  | slateOutcomeWrite
  | outcomeBufferEnter (station : Fin 4)
  | idleDeadlineExpire (station : Fin 4)
  | toneStepEnd (station : Fin 4)
  | engineGrant
  | sessionOpen
  | sessionRefresh
  | noBorrower
  | wrongLabel
  | checkout
  | renewal
  | returnItem
  | borrowerInquiry
  | itemInquiry
  | listStart
  | orderTakeUp
  | endList
  | setStationMode
  | modeChangeFinish
  | keyedLabel
  | keyedLabelEnter
  | formatTables
  | addBorrower
  | updateBorrower
  | removeBorrower
  | setBlock
  | clearBlock
  | payFine
  | adjustFine
  | declareLost
  | withdraw
  | release
  | setClock
  | placeHold
  | cancelHold
  | reportOverdue
  | reportBorrowerLoans
  | reportHoldShelf
  | reloadRules
  | reloadSettings
  | releasePages
  | pagesReleased
  | printText
  | startUpload
  | abortUpload
  | clockSecond
  | daySweepStep
  | centerNotice
  | uploadStarted
  | uploadEnded
  | frameSent
  | takenFrame
  | refusedFrame
  | noticeFrame
  | finishedFrame
  | strayFrame
  | frameDiscard
  | frameGapTimeout
  | receiveQueueOverrun
  | replyTimeout
  | noticeTimeout
  /-- LINE_RDY_CHANGE to level `high`. -/
  | lineRdyChange (high : Bool)
  | lineDownTimeout
  | dotLineRendered
  | dotLineStart
  | dotLineFed
  /-- PAPER_SENSOR_CHANGE to level `high` (paper present). -/
  | paperSensorChange (high : Bool)
  | paperTimerExpire
  /-- OCTET_RECEIVED. `taken`: octets the frame receiver takes from the holding queue by the end of the step (R164, log entry 10,
  DESIGN CHOICE). -/
  | octetReceived (octet : OctetSamples) (taken : Nat)
  | tonePeriodEnd (station : Fin 4)
  deriving DecidableEq, Repr

end Sys2Proof
end

