-- ==== Sys2Proof/Decode.lean ====
section
/-! DEFINITION. The command a word spells. The part has no decoder of words: spec/opcode_table.json gives none of its rows any
bits (every "fields" list is empty), so no word spells a command (log entry 32, DESIGN CHOICE). -/

namespace Sys2Proof

/-- The command that the `nbits` low bits of `w` spell: none, for no row of the table has bits. -/
def decodeTableWord (_nbits _w : Nat) : Option Instr := none

end Sys2Proof
end

