-- ==== Sys2Proof/WellFormed.lean ====
section
/-! DEFINITION. Which terms of `Instr` describe something the part's surroundings can do. Only OCTET_RECEIVED carries
operands that can be out of shape; every register value, level and tick count is possible. The meanings are total and do not
rely on these checks. -/

namespace Sys2Proof

/-- An octet on LINE_RX has a start bit, eight data bits, a parity bit when parity is EVEN or ODD, and a stop bit
(R162, R163): 10 or 11 bit times. -/
def octetBitsWf (bits : List (BitVec 3)) : Bool := bits.length == 10 || bits.length == 11

/-- The receive holding queue holds up to four octets (R164), so at most four are taken in one step. -/
def octetTakenWf (taken : Nat) : Bool := decide (taken ≤ 4)

/-- The shape checks of a command. -/
def Instr.wellFormed : Instr → Bool
  | .octetReceived octet taken => octetBitsWf octet.bits && octetTakenWf taken
  | _ => true

end Sys2Proof
end

