-- ==== Sys2Proof/Machine/State.lean ====
section
/-! DEFINITION. Everything the manual gives the part, as plain data, and the machine at power-on. Each structure names the
rule that lists its fields; INVENTORY.md, State, gives every field's reset value with its source. -/

namespace Sys2Proof.Machine

/-! ## Stops -/

/-- The part never stops in the host's sense: its table, slot and journal faults send the desk to HALTED, a next state
(R65, R194). The one constructor is raised by no meaning (log entry 34, DESIGN CHOICE); it is safe, since it never occurs. -/
inductive Fault where
  /-- An access at `addr`, outside the 24-bit desk memory. The checks of R64, R196, R199 and R202 rule it out. Safe. -/
  | noSuchAddress (addr : Nat)
  deriving DecidableEq, Repr

/-- Commands without a meaning. Raised only by an arm of `exec` that has none; no arm is left (log entry 34, DESIGN CHOICE). Safe. -/
inductive Refusal where
  | notModelled (mnemonic : String)
  deriving DecidableEq, Repr

/-! ## Desk memory -/

/-- Desk memory as address and byte pairs: addresses strictly rising, no byte equal to what an unlisted address reads as
(`Memory.wf` in Machine/Ops.lean). -/
abbrev Memory := List Host.Cell

/-! ## Codes shared by several blocks -/

/-- The desk state (R194). -/
inductive DeskState where
  | unanchored | anchoring | opened | halted
  deriving DecidableEq, Repr

/-- The reasons STATE and the fault record show (R206). -/
inductive StateReason where
  | none | detached | badMagic | badVersion | badWindow | outsideWindow | misaligned | badPageCount
  | commitSlot | tableHeader | tableWindow | tableIndex | tableChain | tableRecord | tableBucket | tableFreeList | tableShelf
  | journalShape | postAddress | listWindow
  deriving DecidableEq, Repr

/-- The reasons of slates, orders and journal marks (00_scope.md, Reasons; codes in R206). -/
inductive Reason where
  | noBorrower | unknownBorrower | notLoanable | borrowerBlocked | loanLimit | onLoanElsewhere | heldForOther | itemLost
  | itemWithdrawn | renewLimit | holdsWaiting | tableFull | journalFull | clockUnset | deskHalted | wrongLabel | stationClosed
  | duplicate | holdLimit | holdsNotAllowed | holdingOwnLoan | hasLoans | hasHolds | hasFines | hasLost | notFound | busy
  | checkedOut | returned | renewed | notOnLoan | alreadyOnHoldShelf | sessionOpened | sessionClosed | inquiryBorrower
  | inquiryItem | discarded
  deriving DecidableEq, Repr

/-- The outcomes of an order's outcome word (00_scope.md, Outcome codes; R206). -/
inductive OrderOutcome where
  | pending | done | doneTruncated | refused | skipped | limit | badOrder | halted | abandoned
  deriving DecidableEq, Repr

/-- The twelve notice causes, in the order of their numbers (R204). -/
inductive Cause where
  | halted | memoryFault | journalLow | printerStopped | uploadEnded | listDone | postLost | stationOutcome | slipPrinted
  | dayChanged | holdShelfChanged | lineError
  deriving DecidableEq, Repr

/-- Who asked for a transaction (R84, R206). -/
inductive Requester where
  | station (i : Fin 4) | order | sweep | center
  deriving DecidableEq, Repr

/-- A table, as the fault record names it (R206). -/
inductive TableName where
  | item | borrower
  deriving DecidableEq, Repr

/-- A day and a minute of day taken together (00_scope.md, Terms). -/
structure Stamp where
  day : Nat
  minute : Nat
  deriving DecidableEq, Repr

/-- An effective block set (R67). -/
structure Blocks where
  manual : Bool
  center : Bool
  lost : Bool
  fines : Bool
  expired : Bool
  deriving DecidableEq, Repr

/-- Flags of a due stamp or of a session entry (R30, R123, R180). -/
structure DueFlags where
  hourLoan : Bool
  clamped : Bool
  limited : Bool
  renewed : Bool
  holdFulfilled : Bool
  deriving DecidableEq, Repr

/-! ## Labels and wand channels (chapter 1) -/

inductive LabelKind where
  | item | borrower
  deriving DecidableEq, Repr

inductive Direction where
  | forward | reversed
  deriving DecidableEq, Repr

inductive LabelTag where
  | wand | keyed
  deriving DecidableEq, Repr

/-- A label in a slot or in flight (R23). The reference a keyed label holds to its order is the running list's current
order, since one executor runs one order at a time (R33, R200). -/
structure Label where
  kind : LabelKind
  number : Nat
  direction : Direction
  tag : LabelTag
  deriving DecidableEq, Repr

inductive ElementKind where
  | bar | space
  deriving DecidableEq, Repr

structure Element where
  kind : ElementKind
  width : Nat
  deriving DecidableEq, Repr

/-- The capture state (R5). -/
inductive CaptureState where
  | settling | quiet | capturing
  deriving DecidableEq, Repr

/-- The decoder (R12); DECODING, it works on the oldest complete sweep. -/
inductive DecoderState where
  | idle | decoding
  deriving DecidableEq, Repr

/-- Kinds of misread a decode can end in (R12). -/
inductive Misread where
  | format | character | speed | check
  deriving DecidableEq, Repr

/-- The six counters of a channel (R19). -/
structure WandCounters where
  format : Nat
  character : Nat
  speed : Nat
  check : Nat
  noise : Nat
  repeated : Nat
  deriving DecidableEq, Repr

/-- One wand channel (R22). `complete` are the sweeps followed by a boundary mark, oldest first; `inCapture` the widths
pushed of the sweep in capture. Together they are the element queue. -/
structure Channel where
  level : ElementKind
  counter : Nat
  last : Option Element
  mergePending : Bool
  capture : CaptureState
  complete : List (List Nat)
  inCapture : List Nat
  decoder : DecoderState
  counters : WandCounters
  mirrorPending : Bool
  deriving DecidableEq, Repr

/-! ## Stations (chapter 2) -/

inductive Mode where
  | closed | checkout | returning | renew | inquiry
  deriving DecidableEq, Repr

/-- The session borrower: a number and its record index (R23). -/
structure Session where
  number : Nat
  index : Nat
  deriving DecidableEq, Repr

/-- One entry of the session item list (R23, R30). -/
structure SessionItem where
  item : Nat
  due : Stamp
  flags : DueFlags
  deriving DecidableEq, Repr

/-- The states of an item (R48); FREE marks a record on the free list. -/
inductive ItemState where
  | free | onShelf | onLoan | onHoldShelf | lost | withdrawn
  deriving DecidableEq, Repr

/-- The outcome fields of a slate (R35). `keyed`: the KEYED_LABEL order running ends when this outcome has been written. -/
structure SlateOutcome where
  refused : Bool
  reason : Reason
  borrower : Nat
  item : Nat
  due : Stamp
  fine : Nat
  blocks : Blocks
  itemState : Option ItemState
  sessionItems : Nat
  slipLost : Bool
  keyed : Bool
  deriving DecidableEq, Repr

/-- What the producer of a waiting outcome does once it has entered the buffer (R36): step 6 of R26; nothing more; step 3 of
R33 with the result count and mode of the order; or the end of a KEYED_LABEL at a CLOSED station. -/
inductive Producer where
  | completion | idleClose | modeChange (count : Nat) (mode : Mode) | keyedClosed
  deriving DecidableEq, Repr

/-- A step of a tone pattern (R40); `hz` 0 is a gap. -/
structure ToneStep where
  hz : Nat
  ms : Nat
  deriving DecidableEq, Repr

/-- The period and the duty of a tone period, in SYSCLK periods (R40). -/
structure ToneOutput where
  period : Nat
  duty : Nat
  deriving DecidableEq, Repr

/-- A tone generator (R40): silent when `output` is absent; `steps` from the step that sounds; `next` a pattern that takes
over at the period's end; `stopping` a stop at the period's end. -/
structure ToneGen where
  output : Option ToneOutput
  steps : List ToneStep
  next : Option (List ToneStep)
  stopping : Bool
  deriving DecidableEq, Repr

/-- A station context (R23), with the repeat check of R20. Timers hold the time they were armed with: the idle deadline
in seconds, the repeat timer in milliseconds. -/
structure Station where
  mode : Mode
  session : Option Session
  items : List SessionItem
  slot : Option Label
  inFlight : Option Label
  deadline : Option Nat
  buffer : Option SlateOutcome
  waiting : List (SlateOutcome × Producer)
  sequence : Nat
  closedScans : Nat
  modeWait : Bool
  lastLabel : Option (LabelKind × Nat)
  repeatTimer : Option Nat
  tone : ToneGen
  deriving DecidableEq, Repr

/-- The slate writer's turns (R37): the station each search begins at. -/
structure SlateWriter where
  outcomeTurn : Fin 4
  mirrorTurn : Fin 4
  deriving DecidableEq, Repr

/-! ## Rules, settings and clock (chapters 6 and 11) -/

inductive PolicyKind where
  | none | days | hours
  deriving DecidableEq, Repr

structure PolicyEntry where
  kind : PolicyKind
  period : Nat
  renewLimit : Nat
  fineRate : Nat
  fineCap : Nat
  grace : Nat
  deriving DecidableEq, Repr

structure BorrowerClass where
  loanLimit : Nat
  holdLimit : Nat
  fineBlockLimit : Nat
  deriving DecidableEq, Repr

/-- Open and close minute of a weekday (R113). -/
structure DayHours where
  openMinute : Nat
  closeMinute : Nat
  deriving DecidableEq, Repr

/-- The on-chip copy of the rules (R113): 128 policy entries, 8 borrower classes, 16 item classes, 100 class map entries,
and the calendar. -/
structure Rules where
  policy : List PolicyEntry
  classes : List BorrowerClass
  holdsAllowed : List Bool
  classMap : List Nat
  baseDay : Nat
  closedSet : BitVec 512
  weekly : List DayHours
  deriving DecidableEq, Repr

inductive DateOrder where
  | dmy | mdy | ymd
  deriving DecidableEq, Repr

inductive Parity where
  | none | even | odd
  deriving DecidableEq, Repr

/-- Every on-chip value of the settings block (R203). `slipFlags`: bit i for station i. -/
structure Settings where
  prescale : Nat
  glitchLimit : Nat
  quietLimit : Nat
  repeatWindow : Nat
  sessionTimeout : Nat
  slipFlags : BitVec 4
  dateOrder : DateOrder
  separator : Nat
  pickupDays : Nat
  uploadMinute : Nat
  divisor : Nat
  parity : Parity
  replyTimeout : Nat
  tries : Nat
  branch : Nat
  strobeWidth : Nat
  stepPeriod : Nat
  header1 : List Nat
  header2 : List Nat
  footer : List Nat
  deriving DecidableEq, Repr

/-- The desk clock (R108). -/
structure Clock where
  day : Nat
  minute : Nat
  second : Nat
  isSet : Bool
  deriving DecidableEq, Repr

/-! ## What anchoring took from the anchor block -/

/-- The window and the addresses of the anchor block (R196, R206), as read at the first anchoring step (log entry 12, DESIGN CHOICE). -/
structure Geometry where
  pageCount : Nat
  windowBase : Nat
  windowUnits : Nat
  itemTable : Nat
  borrowerTable : Nat
  pageTable : Nat
  rulesArea : Nat
  settingsBlock : Nat
  slateArea : Nat
  font : Nat
  deriving DecidableEq, Repr

/-- The desk: its state, the STATE reason and the ANCHOR register (R193, R194). -/
structure Desk where
  state : DeskState
  reason : StateReason
  anchor : Nat
  deriving DecidableEq, Repr

/-- The notice unit (R204). -/
structure NoticeUnit where
  flags : BitVec 12
  ceiling : Nat
  deriving DecidableEq, Repr

/-! ## Work lists (chapter 11) -/

/-- An order block as read (R206). Report fields and halves of operands are computed from `item`, `a` and `b`. -/
structure Order where
  kind : Nat
  stopOnRefusal : Bool
  item : Nat
  borrower : Nat
  a : Nat
  b : Nat
  deriving DecidableEq, Repr

/-- What the order taken up waits for (R200): its owner's step; a grant; the engine's result; a station's label in flight
(R33); the slot (R34); the slate writer (R34); the outcome buffer (R36); the engine's hold (R115); the cut (R170); the upload's
IDLE with the result count (R176); the grant or the result of a PAGES_RELEASED mark (R158). -/
inductive OrderWait where
  | owner | grant | engine | flight | slot | slate | buffer | hold | cut
  | uploadIdle (count : Nat)
  | markGrant (pages last : Nat)
  | mark (pages : Nat)
  deriving DecidableEq, Repr

/-- The order taken up and not yet ended; `stamp` is the clock reading when it was taken up (R202). -/
structure TakenOrder where
  order : Order
  wait : OrderWait
  stamp : Option Stamp
  deriving DecidableEq, Repr

/-- The running list (R198, R201). `address` is the block taken up, or the next one when none is. -/
structure RunningList where
  start : Nat
  address : Nat
  taken : Nat
  stopped : Bool
  current : Option TakenOrder
  deriving DecidableEq, Repr

/-- An abandoned list (R201): its start and its first order without an outcome, none when its END had its outcome. -/
structure AbandonedList where
  start : Nat
  address : Option Nat
  deriving DecidableEq, Repr

/-- The work list executor (R198). -/
structure Executor where
  slot : Option Nat
  running : Option RunningList
  prefetched : Option (List Byte)
  pointer : Nat
  abandoned : Option AbandonedList
  deriving DecidableEq, Repr

/-! ## Journal (chapter 8) -/

inductive PageState where
  | free | filling | full | sending
  deriving DecidableEq, Repr

/-- A page as the writer's view holds it (R147). -/
structure Page where
  address : Nat
  state : PageState
  first : Nat
  count : Nat
  deriving DecidableEq, Repr

/-- The journal writer's on-chip view (R147, R148). -/
structure Journal where
  pages : List Page
  oldest : Option Nat
  newest : Option Nat
  filling : Option Nat
  nextSequence : Nat
  nextPage : Nat
  room : Nat
  cutCount : Nat
  deriving DecidableEq, Repr

/-! ## Decision engine and day sweep (chapters 5 and 7) -/

inductive EngineState where
  | idle | busy | held
  deriving DecidableEq, Repr

inductive Background where
  | sweep | center
  deriving DecidableEq, Repr

/-- The fields of a NOTICE frame (R167, R206). -/
structure CenterNotice where
  borrower : Nat
  action : Nat
  origin : Nat
  day : Nat
  deriving DecidableEq, Repr

/-- The kind of a transaction, fixed at its grant (R25, R85, R90). `sessionOpen` carries whether it is preceded by a close
(R27); `pagesReleased` the pages released and the last sequence released (R158). -/
inductive TxnKind where
  | sessionOpen (closes : Bool)
  | sessionRefresh | noBorrower | wrongLabel | checkout | renewal | returnItem | borrowerInquiry | itemInquiry
  | order (o : Order)
  | pagesReleased (pages last : Nat)
  | sweepStep
  | notice (n : CenterNotice)
  | uploadStarted | uploadEnded
  deriving DecidableEq, Repr

/-- The current transaction (R84): with what it took at its grant, the stamp, the rules in force (R88), whether the desk
was HALTED, the journal room its gates compare (R90), and whether a station then had a label pending or in flight (R56). -/
structure Txn where
  requester : Requester
  kind : TxnKind
  label : Option Label
  stamp : Option Stamp
  rules : Rules
  halted : Bool
  room : Nat
  busy : Bool
  deriving DecidableEq, Repr

/-- The decision engine (R84); `holdAsked`: the calendar waits for HELD (R88). -/
structure Engine where
  state : EngineState
  current : Option Txn
  pointer : Fin 6
  background : Background
  holdAsked : Bool
  deriving DecidableEq, Repr

inductive SweepState where
  | idle | running | deferred
  deriving DecidableEq, Repr

/-- The day sweep (R139); `inEngine`: its last step has not been handed back (R141). -/
structure Sweep where
  state : SweepState
  changed : Bool
  inEngine : Bool
  deriving DecidableEq, Repr

/-! ## Center line (chapter 9) -/

inductive UploadState where
  | idle | opening | sending | closing | receivingNotices | ending
  deriving DecidableEq, Repr

inductive EndReason where
  | ok | noReply | noFinish | lineDown | aborted | running
  deriving DecidableEq, Repr

/-- A frame the part sends (R167): what its payload is formed from. A PAGE frame's entries are read as it is sent (R172). -/
inductive PartFrame where
  | opening (branch startDay startMinute cut pages : Nat)
  | page (address first count : Nat)
  | closing (last : Nat)
  deriving DecidableEq, Repr

/-- A request of the center line for an upload mark (R85, R154). -/
inductive MarkRequest where
  | absent | standing | granted
  deriving DecidableEq, Repr

/-- The held notice and whether it has been granted (R168). -/
structure HeldNotice where
  notice : CenterNotice
  granted : Bool
  deriving DecidableEq, Repr

/-- The upload state machine (R168). The timers hold the seconds they were armed with. `asking`: the next page has been asked for
and not yet handed over (R172). -/
structure Upload where
  state : UploadState
  frame : Option PartFrame
  asking : Bool
  sends : Nat
  replyTimer : Option Nat
  noticeTimer : Option Nat
  held : Option HeldNotice
  finishedNoted : Bool
  watch : Bool
  endReason : EndReason
  cutMade : Bool
  startStamp : Stamp
  cutSequence : Nat
  startedMark : MarkRequest
  endedMark : MarkRequest
  deriving DecidableEq, Repr

/-- A completed octet in the holding queue, with its error marks (R163, R164). -/
structure RxOctet where
  octet : Byte
  framing : Bool
  parity : Bool
  deriving DecidableEq, Repr

/-- A frame being assembled (R166): octets taken after the lead, kind, length, at most 16 payload octets (R167), the CRC
register over what it covers (R165), the first CRC octet, and the OVERRUN mark (R164). -/
structure PartialFrame where
  taken : Nat
  kind : Byte
  length : Nat
  payload : List Byte
  crc : BitVec 16
  crcHigh : Byte
  overrun : Bool
  deriving DecidableEq, Repr

/-- A good frame (R167). -/
structure RxFrame where
  kind : Byte
  length : Nat
  payload : List Byte
  deriving DecidableEq, Repr

/-- The frame receiver (R166): HUNTING, inside a frame, or stopped with a frame that is handed to the upload state machine
or discarded by a step of its own (R167, FRAME_DISCARD). -/
inductive FrameReceiver where
  | hunting
  | inside (p : PartialFrame)
  | good (f : RxFrame)
  | faulty
  deriving DecidableEq, Repr

/-- The frame being transmitted, and how many of its octets the transmitter has begun (R162). -/
structure Transmission where
  frame : PartFrame
  begun : Nat
  deriving DecidableEq, Repr

/-- The UART and the frame receiver (R161 to R166). `pastParity`: the parities in force before the present one since the last
octet was received, newest first. `octet`: the levels of the octet in progress, the one on LINE_TX first, empty between octets;
`sent`: the octets begun of the frame being sent or last sent, each as its levels. -/
structure Line where
  ready : Bool
  waitHigh : Bool
  pastParity : List Parity
  queue : List RxOctet
  receiver : FrameReceiver
  transmission : Option Transmission
  octet : List Bool
  sent : List (List Bool)
  deriving DecidableEq, Repr

/-! ## Printer (chapter 10) -/

inductive SlipKind where
  | dueDate | hold | reshelve | text
  deriving DecidableEq, Repr

/-- A slip record (R180). -/
structure Slip where
  kind : SlipKind
  station : Option (Fin 4)
  stamp : Option Stamp
  borrower : Nat
  entries : List SessionItem
  holdBorrower : Nat
  deadline : Nat
  text : List (List Nat)
  deriving DecidableEq, Repr

inductive PrinterState where
  | idle | printing | paperOut
  deriving DecidableEq, Repr

inductive BufferState where
  | empty | filling | ready | shifting
  deriving DecidableEq, Repr

/-- A dot-line buffer (R186) and its 48 bytes. -/
structure DotBuffer where
  state : BufferState
  bytes : List Byte
  deriving DecidableEq, Repr

/-- The composer's position (R178): the slip counted from the head of the queue, its dot line, and the text line formed. -/
structure Composer where
  slip : Nat
  line : Nat
  text : List Nat
  deriving DecidableEq, Repr

/-- The slip printer (R178, R186, R187, R189). `head`: the dots latched, in the order they are shifted on PR_DATA, the leftmost
dot first. -/
structure Printer where
  paper : Bool
  queue : List Slip
  state : PrinterState
  composer : Composer
  buffers : Vector DotBuffer 2
  renderNext : Fin 2
  printNext : Fin 2
  fed : Nat
  head : List Bool
  strobe : Option Nat
  step : Option Nat
  paperTimer : Option Nat
  deriving DecidableEq, Repr

/-! ## The whole part -/

/-- The state of the GLD-410 with its desk memory; and, the model's own, the queue of commands that wait (first in, first out) and
the number of free choices made so far (log entries 37 and 38, DESIGN CHOICE). -/
structure State where
  pending : List Instr
  choices : Nat
  mem : Memory
  desk : Desk
  geometry : Geometry
  settings : Settings
  rules : Rules
  clock : Clock
  notices : NoticeUnit
  channels : Vector Channel 4
  stations : Vector Station 4
  writer : SlateWriter
  engine : Engine
  sweep : Sweep
  journal : Journal
  executor : Executor
  upload : Upload
  line : Line
  printer : Printer
  deriving DecidableEq, Repr

/-! ## Power-on values -/

/-- A stamp field with nothing in it. -/
def Stamp.zero : Stamp := { day := 0, minute := 0 }

/-- The empty block set. -/
def Blocks.empty : Blocks := { manual := false, center := false, lost := false, fines := false, expired := false }

/-- No flags. -/
def DueFlags.empty : DueFlags :=
  { hourLoan := false, clamped := false, limited := false, renewed := false, holdFulfilled := false }

def WandCounters.zero : WandCounters := { format := 0, character := 0, speed := 0, check := 0, noise := 0, repeated := 0 }

/-- A channel at power-on (R22); the line level is log entry 8, DESIGN CHOICE. -/
def Channel.reset : Channel :=
  { level := .space, counter := 0, last := none, mergePending := false, capture := .settling, complete := [], inCapture := [],
    decoder := .idle, counters := .zero, mirrorPending := false }

def ToneGen.silent : ToneGen := { output := none, steps := [], next := none, stopping := false }

/-- A station context at power-on (R20, R23). -/
def Station.reset : Station :=
  { mode := .closed, session := none, items := [], slot := none, inFlight := none, deadline := none, buffer := none,
    waiting := [], sequence := 0, closedScans := 0, modeWait := false, lastLabel := none, repeatTimer := none, tone := .silent }

/-- A policy entry that lends nothing (R113). -/
def PolicyEntry.nothing : PolicyEntry :=
  { kind := .none, period := 0, renewLimit := 0, fineRate := 0, fineCap := 0, grace := 0 }

/-- The rules copy at power-on (R113). -/
def Rules.reset : Rules :=
  { policy := List.replicate 128 .nothing
    classes := List.replicate 8 { loanLimit := 0, holdLimit := 0, fineBlockLimit := 0 }
    holdsAllowed := List.replicate 16 false
    classMap := List.replicate 100 0
    baseDay := 0
    closedSet := 0
    weekly := List.replicate 7 { openMinute := 0, closeMinute := 0 } }

/-- A text setting of 24 spaces (R187). -/
def blankText : List Nat := List.replicate 24 32

/-- The settings at power-on (R2, R23, R110, R127, R129, R161, R187). -/
def Settings.reset : Settings :=
  { prescale := 0, glitchLimit := 0, quietLimit := 65535, repeatWindow := 0, sessionTimeout := 600, slipFlags := 0,
    dateOrder := .dmy, separator := 46, pickupDays := 7, uploadMinute := 65535, divisor := 4095, parity := .none,
    replyTimeout := 30, tries := 3, branch := 0, strobeWidth := 500, stepPeriod := 2500,
    header1 := blankText, header2 := blankText, footer := blankText }

def Clock.reset : Clock := { day := 0, minute := 0, second := 0, isSet := false }

/-- Nothing taken from an anchor block yet (log entry 12, DESIGN CHOICE). -/
def Geometry.zero : Geometry :=
  { pageCount := 0, windowBase := 0, windowUnits := 0, itemTable := 0, borrowerTable := 0, pageTable := 0, rulesArea := 0,
    settingsBlock := 0, slateArea := 0, font := 0 }

def Desk.reset : Desk := { state := .unanchored, reason := .none, anchor := 0 }

def NoticeUnit.reset : NoticeUnit := { flags := 0, ceiling := 16 }

def Engine.reset : Engine := { state := .idle, current := none, pointer := 0, background := .sweep, holdAsked := false }

def Sweep.reset : Sweep := { state := .idle, changed := false, inEngine := false }

/-- The empty view (R147). -/
def Journal.empty : Journal :=
  { pages := [], oldest := none, newest := none, filling := none, nextSequence := 0, nextPage := 0, room := 0, cutCount := 0 }

def Executor.reset : Executor := { slot := none, running := none, prefetched := none, pointer := 0, abandoned := none }

/-- The upload state machine at power-on and after a desk restart (R168, R176). -/
def Upload.reset : Upload :=
  { state := .idle, frame := none, asking := false, sends := 0, replyTimer := none, noticeTimer := none, held := none,
    finishedNoted := false, watch := false, endReason := .ok, cutMade := false, startStamp := .zero, cutSequence := 0, startedMark := .absent,
    endedMark := .absent }

/-- The line at power-on (R162 to R166); LINE_RDY is log entry 8, DESIGN CHOICE. -/
def Line.reset : Line :=
  { ready := false, waitHigh := false, pastParity := [], queue := [], receiver := .hunting, transmission := none, octet := [],
    sent := [] }

/-- A dot line of blanks. -/
def blankDots : List Byte := List.replicate 48 0

def DotBuffer.cleared : DotBuffer := { state := .empty, bytes := blankDots }

def Composer.cleared : Composer := { slip := 0, line := 0, text := [] }

/-- The printer at power-on (R178); PR_PAPER is log entry 8, DESIGN CHOICE. -/
def Printer.reset : Printer :=
  { paper := false, queue := [], state := .idle, composer := .cleared, buffers := Vector.replicate 2 .cleared, renderNext := 0,
    printNext := 0, fed := 0, head := List.replicate 384 false, strobe := none, step := none, paperTimer := none }

/-- The part right after power-on, before any command and before the host has written desk memory (R194 and the rules named
above). -/
def State.reset : State :=
  { pending := []
    choices := 0
    mem := []
    desk := .reset
    geometry := .zero
    settings := .reset
    rules := .reset
    clock := .reset
    notices := .reset
    channels := Vector.replicate 4 .reset
    stations := Vector.replicate 4 .reset
    writer := { outcomeTurn := 0, mirrorTurn := 0 }
    engine := .reset
    sweep := .reset
    journal := .empty
    executor := .reset
    upload := .reset
    line := .reset
    printer := .reset }

end Sys2Proof.Machine
end

