-- ==== Sys2Proof/Machine/Flags.lean ====
section
/-! DEFINITION. Codes and flag words: every code of R206 and the tables it points to (R204 for the causes, R175 for the end
reasons), the block set byte, the due flags byte and the flags word of a journal entry. -/

namespace Sys2Proof.Machine

/-- A flag at bit `n`. -/
def bitOf (b : Bool) (n : Nat) : Nat := if b then 2 ^ n else 0

/-- Bit `n` of a number read from desk memory. -/
def hasBit (v n : Nat) : Bool := v / 2 ^ n % 2 == 1

/-- Desk state in STATE bits 0–1 (R206). -/
def DeskState.code : DeskState → Nat
  | .unanchored => 0 | .anchoring => 1 | .opened => 2 | .halted => 3

/-- Reason codes of STATE and the fault record (R206). -/
def StateReason.code : StateReason → Nat
  | .none => 0 | .detached => 1 | .badMagic => 2 | .badVersion => 3 | .badWindow => 4 | .outsideWindow => 5
  | .misaligned => 6 | .badPageCount => 7 | .commitSlot => 16 | .tableHeader => 17 | .tableWindow => 18 | .tableIndex => 19
  | .tableChain => 20 | .tableRecord => 21 | .tableBucket => 22 | .tableFreeList => 23 | .tableShelf => 24
  | .journalShape => 25 | .postAddress => 32 | .listWindow => 33

/-- Printer state in STATE bits 3–4 (R206). -/
def PrinterState.code : PrinterState → Nat
  | .idle => 0 | .printing => 1 | .paperOut => 2

/-- Upload state in STATE bits 5–7 (R206). -/
def UploadState.code : UploadState → Nat
  | .idle => 0 | .opening => 1 | .sending => 2 | .closing => 3 | .receivingNotices => 4 | .ending => 5

/-- Reason codes of slates, order blocks and marks (R206). -/
def Reason.code : Reason → Nat
  | .noBorrower => 1 | .unknownBorrower => 2 | .notLoanable => 3 | .borrowerBlocked => 4 | .loanLimit => 5
  | .onLoanElsewhere => 6 | .heldForOther => 7 | .itemLost => 8 | .itemWithdrawn => 9 | .renewLimit => 10
  | .holdsWaiting => 11 | .tableFull => 12 | .journalFull => 13 | .clockUnset => 14 | .deskHalted => 15 | .wrongLabel => 16
  | .stationClosed => 17 | .duplicate => 18 | .holdLimit => 19 | .holdsNotAllowed => 20 | .holdingOwnLoan => 21
  | .hasLoans => 22 | .hasHolds => 23 | .hasFines => 24 | .hasLost => 25 | .notFound => 26 | .busy => 27
  | .checkedOut => 64 | .returned => 65 | .renewed => 66 | .notOnLoan => 67 | .alreadyOnHoldShelf => 68
  | .sessionOpened => 69 | .sessionClosed => 70 | .inquiryBorrower => 71 | .inquiryItem => 72 | .discarded => 73

/-- The code of a reason field, 0 when there is none. -/
def reasonCode : Option Reason → Nat
  | none => 0
  | some r => r.code

/-- Outcome codes of an outcome word's low byte (R206). -/
def OrderOutcome.code : OrderOutcome → Nat
  | .pending => 0 | .done => 1 | .doneTruncated => 2 | .refused => 3 | .skipped => 4 | .limit => 5 | .badOrder => 6
  | .halted => 7 | .abandoned => 8

/-- Cause numbers (R204). -/
def Cause.number : Cause → Nat
  | .halted => 0 | .memoryFault => 1 | .journalLow => 2 | .printerStopped => 3 | .uploadEnded => 4 | .listDone => 5
  | .postLost => 6 | .stationOutcome => 7 | .slipPrinted => 8 | .dayChanged => 9 | .holdShelfChanged => 10 | .lineError => 11

/-- Requester codes of journal entries and the fault record (R206). -/
def Requester.code : Requester → Nat
  | .station i => i.val | .order => 4 | .sweep => 5 | .center => 6

/-- Requester of the fault record, 255 for none (R206). -/
def requesterCode : Option Requester → Nat
  | none => 255
  | some r => r.code

/-- Table of the fault record (R206). -/
def tableCode : Option TableName → Nat
  | none => 0
  | some .item => 1
  | some .borrower => 2

/-- Item state codes (R206). -/
def ItemState.code : ItemState → Nat
  | .free => 0 | .onShelf => 1 | .onLoan => 2 | .onHoldShelf => 3 | .lost => 4 | .withdrawn => 5

/-- The item state a code names, or none when the code is not one of the defined values (R64). -/
def ItemState.ofCode : Nat → Option ItemState
  | 0 => some .free | 1 => some .onShelf | 2 => some .onLoan | 3 => some .onHoldShelf | 4 => some .lost
  | 5 => some .withdrawn
  | _ => none

/-- The item state byte of a slate, 0 where R35 names none. -/
def itemStateCode : Option ItemState → Nat
  | none => 0
  | some i => i.code

/-- Page state codes (R206). -/
def PageState.code : PageState → Nat
  | .free => 0 | .filling => 1 | .full => 2 | .sending => 3

/-- The page state a code names, or none (check 1 of R159). -/
def PageState.ofCode : Nat → Option PageState
  | 0 => some .free | 1 => some .filling | 2 => some .full | 3 => some .sending
  | _ => none

/-- End reason codes (R175, R206). -/
def EndReason.code : EndReason → Nat
  | .ok => 0 | .noReply => 1 | .noFinish => 2 | .lineDown => 3 | .aborted => 4 | .running => 5

/-- The mode a SET_STATION_MODE operand names (R206). -/
def Mode.ofCode : Nat → Option Mode
  | 0 => some .closed | 1 => some .checkout | 2 => some .returning | 3 => some .renew | 4 => some .inquiry
  | _ => none

/-- The block set byte (R206). -/
def Blocks.code (b : Blocks) : Nat :=
  bitOf b.manual 0 + bitOf b.center 1 + bitOf b.lost 2 + bitOf b.fines 3 + bitOf b.expired 4

/-- Whether an effective block set is non-empty (R68). -/
def Blocks.any (b : Blocks) : Bool := b.manual || b.center || b.lost || b.fines || b.expired

/-- Kinds of journal entry (R153; codes in R206). -/
inductive EntryKind where
  | checkout | returned | renew | pay | fineAdjust | holdPlaced | holdCancelled | holdExpired | lost | withdrawn | released
  | borrowerAdded | borrowerChanged | borrowerRemoved | blockSet | blockCleared | centerBlock | centerClear | clockSet
  | tablesFormatted | uploadStarted | uploadEnded | pagesReleased
  deriving DecidableEq, Repr

/-- Kind codes of journal entries (R206). -/
def EntryKind.code : EntryKind → Nat
  | .checkout => 1 | .returned => 2 | .renew => 3 | .pay => 4 | .fineAdjust => 5 | .holdPlaced => 6 | .holdCancelled => 7
  | .holdExpired => 8 | .lost => 9 | .withdrawn => 10 | .released => 11 | .borrowerAdded => 12 | .borrowerChanged => 13
  | .borrowerRemoved => 14 | .blockSet => 15 | .blockCleared => 16 | .centerBlock => 17 | .centerClear => 18 | .clockSet => 19
  | .tablesFormatted => 20 | .uploadStarted => 21 | .uploadEnded => 22 | .pagesReleased => 23

/-- The flags of a journal entry (R153). -/
structure EntryFlags where
  reversed : Bool := false
  keyed : Bool := false
  hourLoan : Bool := false
  clamped : Bool := false
  limited : Bool := false
  holdFulfilled : Bool := false
  renewed : Bool := false
  trapped : Bool := false
  found : Bool := false
  overdue : Bool := false
  unset : Bool := false
  promoted : Bool := false
  reshelved : Bool := false
  deriving DecidableEq, Repr

/-- The flags word of a journal entry (R206). -/
def EntryFlags.code (f : EntryFlags) : Nat :=
  bitOf f.reversed 0 + bitOf f.keyed 1 + bitOf f.hourLoan 2 + bitOf f.clamped 3 + bitOf f.limited 4 + bitOf f.holdFulfilled 5
    + bitOf f.renewed 6 + bitOf f.trapped 7 + bitOf f.found 8 + bitOf f.overdue 9 + bitOf f.unset 10 + bitOf f.promoted 11
    + bitOf f.reshelved 12

/-- REVERSED and KEYED as the label gives them (R95). -/
def EntryFlags.ofLabel (l : Label) : EntryFlags :=
  { reversed := l.tag == .wand && l.direction == .reversed, keyed := l.tag == .keyed }

end Sys2Proof.Machine
end

