-- ==== Sys2Proof/Machine/Ops.lean ====
section
/-! DEFINITION. The operations every block shares: desk memory by bytes and by 16-bit writes (R205), the change-count
protocol (R55), the window test, the notice unit (R204), the register reads (R193), and the named updates of the state. The
part takes no processor's exception; what stands in its place, entry to HALTED, is `enterHalted` in Machine/Engine.lean over
`faultRecordWrites` below. -/

namespace Sys2Proof.Machine

open Config

/-! ## Desk memory -/

/-- The byte at `a`; an unlisted address reads `Config.blankByte` (log entry 4, DESIGN CHOICE). -/
def Memory.read8 : Memory → Nat → Byte
  | [], _ => blankByte
  | (b, v) :: m, a => if a = b then v else Memory.read8 m a

/-- `m` with the byte at `a` set, in canonical form. -/
def Memory.write8 : Memory → Nat → Byte → Memory
  | [], a, v => if v = blankByte then [] else [(a, v)]
  | (b, w) :: m, a, v =>
    if a < b then (if v = blankByte then (b, w) :: m else (a, v) :: (b, w) :: m)
    else if a = b then (if v = blankByte then m else (a, v) :: m)
    else (b, w) :: Memory.write8 m a v

/-- The canonical form: addresses strictly rising, no entry equal to what an unlisted address reads as. -/
def Memory.wf : Memory → Bool
  | [] => true
  | (a, v) :: m =>
    v != blankByte && (match m with | [] => true | (b, _) :: _ => decide (a < b)) && Memory.wf m

/-- A 16-bit field, low byte at the lower address (00_scope.md, Desk memory). -/
def Memory.read16 (m : Memory) (a : Nat) : Nat := (m.read8 a).toNat + 256 * (m.read8 (a + 1)).toNat

/-- A 32-bit field. -/
def Memory.read32 (m : Memory) (a : Nat) : Nat := m.read16 a + 65536 * m.read16 (a + 2)

/-- A 64-bit field (item numbers, R206). -/
def Memory.read64 (m : Memory) (a : Nat) : Nat := m.read32 a + 4294967296 * m.read32 (a + 4)

/-- A one-byte field as a number. -/
def Memory.readByte (m : Memory) (a : Nat) : Nat := (m.read8 a).toNat

/-- One 16-bit access that writes (R205). -/
def Memory.writeWord (m : Memory) (w : WordWrite) : Memory :=
  (m.write8 w.addr (BitVec.ofNat 8 w.word)).write8 (w.addr + 1) (BitVec.ofNat 8 (w.word / 256))

/-- A run of accesses, first to last. -/
def Memory.apply (m : Memory) : List WordWrite → Memory
  | [] => m
  | w :: ws => (m.writeWord w).apply ws

/-- Bytes `a`, `a + 1`, … -/
def Memory.bytes (m : Memory) (a : Nat) : Nat → List Byte
  | 0 => []
  | n + 1 => m.read8 a :: m.bytes (a + 1) n

/-- Writes of consecutive words in ascending address order. -/
def putWords (a : Nat) : List Nat → List WordWrite
  | [] => []
  | w :: ws => { addr := a, word := w % 65536 } :: putWords (a + 2) ws

/-- The words of a 32-bit field, low half first. -/
def words32 (n : Nat) : List Nat := [n % 65536, n / 65536 % 65536]

/-- The words of a 64-bit field, low half first. -/
def words64 (n : Nat) : List Nat := words32 n ++ words32 (n / 4294967296)

/-- A word made of two one-byte fields, the one at the lower address first. -/
def bytePair (lo hi : Nat) : Nat := lo % 256 + 256 * (hi % 256)

/-- A signed value as its 32-bit field holds it (R153, R206). -/
def signed32 (v : Int) : Nat := (v % 4294967296).toNat

/-- A 32-bit field read as signed (R206, ADJUST_FINE). -/
def ofSigned32 (n : Nat) : Int := if n % 4294967296 < 2147483648 then (n % 4294967296 : Nat) else (n % 4294967296 : Nat) - 4294967296

/-! ## Saturation and change counts -/

/-- A 16-bit count that stays at 65535 (R1, R19, R38, R154, R166, R177, R197). -/
def sat16 (n : Nat) : Nat := min n 65535

/-- A 32-bit count or sequence that wraps (R151, R179, R201). -/
def wrap32 (n : Nat) : Nat := n % 4294967296

/-- The opening write of a group outside a commit: an odd count is written unchanged (R55). -/
def openingCount (c : Nat) : Nat := if c % 2 = 0 then (c + 1) % 65536 else c

/-- The closing write of a group outside a commit (R55). -/
def closingCount (c : Nat) : Nat := (openingCount c + 1) % 65536

/-- The writes of a counter group or the fault record outside a commit, with its count taken from desk memory (R55). -/
def groupWrites (m : Memory) (a : Nat) (body : List WordWrite) : List WordWrite :=
  { addr := a, word := openingCount (m.read16 a) } :: (body ++ [{ addr := a, word := closingCount (m.read16 a) }])

/-! ## Window -/

/-- The first address past the window (R196). -/
def Geometry.windowEnd (g : Geometry) : Nat := g.windowBase + g.windowUnits * 65536

/-- `len` bytes at `a` lie wholly within the window. -/
def Geometry.inWindow (g : Geometry) (a len : Nat) : Bool := decide (g.windowBase ≤ a) && decide (a + len ≤ g.windowEnd)

/-! ## Places in the anchor block (R206) -/

def offJournal : Nat := 0x30
def offList : Nat := 0x40
def offLine : Nat := 0x50
def offPrinter : Nat := 0x60
def offReport : Nat := 0x70
def offFault : Nat := 0x90
def offSlot : Nat := 0xB0

/-! ## Named updates of the state -/

def State.withMem (s : State) (v : Memory) : State := { s with mem := v }
def State.withDesk (s : State) (v : Desk) : State := { s with desk := v }
def State.withGeometry (s : State) (v : Geometry) : State := { s with geometry := v }
def State.withSettings (s : State) (v : Settings) : State := { s with settings := v }
def State.withRules (s : State) (v : Rules) : State := { s with rules := v }
def State.withClock (s : State) (v : Clock) : State := { s with clock := v }
def State.withNotices (s : State) (v : NoticeUnit) : State := { s with notices := v }
def State.withChannels (s : State) (v : Vector Channel 4) : State := { s with channels := v }
def State.withStations (s : State) (v : Vector Station 4) : State := { s with stations := v }
def State.withWriter (s : State) (v : SlateWriter) : State := { s with writer := v }
def State.withEngine (s : State) (v : Engine) : State := { s with engine := v }
def State.withSweep (s : State) (v : Sweep) : State := { s with sweep := v }
def State.withJournal (s : State) (v : Journal) : State := { s with journal := v }
def State.withExecutor (s : State) (v : Executor) : State := { s with executor := v }
def State.withUpload (s : State) (v : Upload) : State := { s with upload := v }
def State.withLine (s : State) (v : Line) : State := { s with line := v }
def State.withPrinter (s : State) (v : Printer) : State := { s with printer := v }
def State.withPending (s : State) (v : List Instr) : State := { s with pending := v }
def State.withChoices (s : State) (v : Nat) : State := { s with choices := v }

/-- A run of 16-bit writes by the part. -/
def State.writeAll (s : State) (ws : List WordWrite) : State := s.withMem (s.mem.apply ws)

/-- The writes of a group of the anchor block at offset `off` (R55). -/
def State.groupWrites (s : State) (off : Nat) (body : List WordWrite) : List WordWrite :=
  Machine.groupWrites s.mem (s.desk.anchor + off) body

/-- The write of a group of the anchor block at offset `off` (R55). -/
def State.writeGroup (s : State) (off : Nat) (body : List WordWrite) : State := s.writeAll (s.groupWrites off body)

/-- A field of the anchor block. -/
def State.anchor16 (s : State) (off : Nat) : Nat := s.mem.read16 (s.desk.anchor + off)

def State.anchor32 (s : State) (off : Nat) : Nat := s.mem.read32 (s.desk.anchor + off)

def State.channel (s : State) (i : Fin 4) : Channel := s.channels.get i

def State.setChannel (s : State) (i : Fin 4) (c : Channel) : State := s.withChannels (s.channels.set i c)

def State.station (s : State) (i : Fin 4) : Station := s.stations.get i

def State.setStation (s : State) (i : Fin 4) (t : Station) : State := s.withStations (s.stations.set i t)

/-! ## Desk and clock -/

/-- The desk states in which the part works on desk memory's structures: OPEN and HALTED (R84, R179, R194). -/
def State.attached (s : State) : Bool := s.desk.state == .opened || s.desk.state == .halted

/-- The clock reading, absent while the set flag is clear (R108). -/
def State.reading (s : State) : Option Stamp :=
  if s.clock.isSet then some { day := s.clock.day, minute := s.clock.minute } else none

/-- One stamp is later than another (00_scope.md, Dates and times). -/
def Stamp.later (a b : Stamp) : Bool := decide (b.day < a.day) || (a.day == b.day && decide (b.minute < a.minute))

/-! ## Notice unit (R204) -/

/-- Sets the flag of a cause; a cause already set stays set. -/
def State.raise (s : State) (c : Cause) : State :=
  s.withNotices { s.notices with flags := s.notices.flags ||| (1#12 <<< c.number) }

/-- Raises a cause when a condition holds. -/
def State.raiseIf (s : State) (b : Bool) (c : Cause) : State := if b then s.raise c else s

/-- Clears the flag of number `n`, 0..11. -/
def NoticeUnit.clear (u : NoticeUnit) (n : Nat) : NoticeUnit := { u with flags := u.flags &&& ~~~(1#12 <<< n) }

/-- The lowest number from `n` on, of `k` numbers, whose flag is set and which lies below CEILING. -/
def NoticeUnit.lowest (u : NoticeUnit) (n : Nat) : Nat → Option Nat
  | 0 => none
  | k + 1 => if u.flags.getLsbD n && decide (n < u.ceiling) then some n else u.lowest (n + 1) k

/-- What a read of NOTICE returns: the most urgent pending enabled cause, or 16 (R204). A read clears nothing. -/
def State.readNotice (s : State) : Nat := (s.notices.lowest 0 12).getD 16

/-- NOTICE_OUT: asserted exactly when some pending cause has a number below CEILING (R204). -/
def State.noticeOut (s : State) : Bool := (s.notices.lowest 0 12).isSome

/-! ## Register reads (R193) -/

def State.readAnchor (s : State) : Nat := s.desk.anchor

def State.readWorklist (s : State) : Nat := s.executor.slot.getD 0

def State.readCeiling (s : State) : Nat := s.notices.ceiling

/-- The STATE register (R193, layout in R206). Bits 9 to 15, which R206 does not name, read 0 like the byte it does not name (log
entry 36, DESIGN CHOICE). -/
def State.readState (s : State) : Nat :=
  s.desk.state.code + bitOf s.clock.isSet 2 + 8 * s.printer.state.code + 32 * s.upload.state.code
    + bitOf s.executor.running.isSome 8 + 65536 * s.desk.reason.code

/-! ## Fault record -/

/-- What the fault record says of an event (R197). -/
structure FaultNote where
  reason : StateReason
  table : Option TableName
  index : Option Nat
  address : Nat
  requester : Option Requester
  deriving DecidableEq, Repr

/-- The body of the fault record from its offset 2: every field, with the fault count raised by 1 (R197, R206). -/
def faultRecordBody (m : Memory) (a : Nat) (n : FaultNote) (reading : Option Stamp) : List WordWrite :=
  putWords (a + 2)
    ([n.reason.code, bytePair (tableCode n.table) (requesterCode n.requester), n.index.getD nullIndex] ++ words32 n.address
      ++ [(reading.getD .zero).day, (reading.getD .zero).minute, sat16 (m.read16 (a + 16) + 1)]
      ++ List.replicate 7 0)

/-- The writes of the fault record, whole under its change count (R55, R197). -/
def State.faultWrites (s : State) (n : FaultNote) : List WordWrite :=
  s.groupWrites offFault (faultRecordBody s.mem (s.desk.anchor + offFault) n s.reading)

/-- The fault record is written (R197). -/
def State.writeFault (s : State) (n : FaultNote) : State := s.writeAll (s.faultWrites n)

end Sys2Proof.Machine
end

