-- ==== Sys2Proof/Machine/Operands.lean ====
section
/-! DEFINITION. The operand forms: order blocks with every field R206 gives them, table headers, item and borrower records,
journal entries, commit images and slates, each read from desk memory and written to it in the layouts of R206. Values a host
has written outside a field's range are taken as R66 gives. -/

namespace Sys2Proof.Machine

open Config

/-! ## Order blocks -/

/-- A byte of a block given as 32 bytes. -/
def blockByte (b : List Byte) (i : Nat) : Nat := (b.getD i 0).toNat

def block16 (b : List Byte) (i : Nat) : Nat := blockByte b i + 256 * blockByte b (i + 1)

def block32 (b : List Byte) (i : Nat) : Nat := block16 b i + 65536 * block16 b (i + 2)

/-- The operands of an order block (R206). -/
def Order.ofBlock (b : List Byte) : Order :=
  { kind := blockByte b 4
    stopOnRefusal := hasBit (blockByte b 5) 0
    item := block32 b 12 + 4294967296 * block32 b 16
    borrower := block32 b 20
    a := block32 b 24
    b := block32 b 28 }

/-- Report fields: target address, capacity and mode (R206). -/
def Order.target (o : Order) : Nat := o.item % 4294967296
def Order.capacity (o : Order) : Nat := o.item / 4294967296 % 65536
def Order.reportMode (o : Order) : Nat := o.item / 281474976710656 % 256

/-- The low and high halves of a 32-bit operand (R206). -/
def lowHalf (n : Nat) : Nat := n % 65536
def highHalf (n : Nat) : Nat := n / 65536 % 65536

/-- Order kinds (R206). -/
def kindEnd : Nat := 0
def kindSetStationMode : Nat := 1
def kindKeyedLabel : Nat := 2
def kindFormatTables : Nat := 3
def kindAddBorrower : Nat := 4
def kindUpdateBorrower : Nat := 5
def kindRemoveBorrower : Nat := 6
def kindSetBlock : Nat := 7
def kindClearBlock : Nat := 8
def kindPayFine : Nat := 9
def kindAdjustFine : Nat := 10
def kindDeclareLost : Nat := 11
def kindWithdraw : Nat := 12
def kindRelease : Nat := 13
def kindSetClock : Nat := 14
def kindReloadRules : Nat := 15
def kindPlaceHold : Nat := 16
def kindCancelHold : Nat := 17
def kindReleasePages : Nat := 18
def kindStartUpload : Nat := 19
def kindAbortUpload : Nat := 20
def kindPrintText : Nat := 21
def kindReloadSettings : Nat := 22
def kindReportOverdue : Nat := 23
def kindReportBorrowerLoans : Nat := 24
def kindReportHoldShelf : Nat := 25

/-- The kinds of the three reports (R202). -/
def Order.isReport (o : Order) : Bool := decide (23 ≤ o.kind) && decide (o.kind ≤ 25)

/-- The orders the decision engine carries out (R85, R205); the reports are its only in OPEN. -/
def Order.isEngines (o : Order) : Bool :=
  (decide (3 ≤ o.kind) && decide (o.kind ≤ 14)) || o.kind == kindPlaceHold || o.kind == kindCancelHold

/-- Orders carried out in a HALTED desk as in an OPEN one: END, RELOAD_RULES and the reports (R200). -/
def Order.runsHalted (o : Order) : Bool := o.kind == kindEnd || o.kind == kindReloadRules || o.isReport

/-- An item number in its range (00_scope.md, Identifiers). -/
def itemInRange (n : Nat) : Bool := decide (1 ≤ n) && decide (n ≤ maxItem)

/-- A borrower number in its range. -/
def borrowerInRange (n : Nat) : Bool := decide (1 ≤ n) && decide (n ≤ maxBorrower)

/-! ## Table headers (R43) -/

structure Header where
  count : Nat
  capacity : Nat
  exponent : Nat
  records : Nat
  freeHead : Nat
  shelfHead : Nat
  shelfTail : Nat
  shelfCount : Nat
  deriving DecidableEq, Repr

def Header.read (m : Memory) (a : Nat) : Header :=
  { count := m.read16 a, capacity := m.read16 (a + 2), exponent := m.readByte (a + 4), records := m.read16 (a + 6),
    freeHead := m.read16 (a + 8), shelfHead := m.read16 (a + 10), shelfTail := m.read16 (a + 12),
    shelfCount := m.read16 (a + 14) }

def Header.words (h : Header) : List Nat :=
  [h.count, h.capacity, bytePair h.exponent 0, h.records, h.freeHead, h.shelfHead, h.shelfTail, h.shelfCount]

/-! ## Item records (R48, R50) -/

structure HoldEntry where
  borrower : Nat
  placed : Nat
  deriving DecidableEq, Repr

/-- An item record; `state` is none when the state byte is not one of the defined values (R64). -/
structure ItemRecord where
  count : Nat
  state : Option ItemState
  itemClass : Nat
  number : Nat
  borrower : Nat
  due : Stamp
  loanDay : Nat
  renewCount : Nat
  hourLoan : Bool
  clamped : Bool
  queue : List HoldEntry
  deadline : Nat
  shelfNext : Nat
  chainNext : Nat
  deriving DecidableEq, Repr

/-- The first `n` hold entries from address `a` (R50). -/
def readQueue (m : Memory) (a : Nat) : Nat → List HoldEntry
  | 0 => []
  | n + 1 => { borrower := m.read16 a, placed := m.read16 (a + 2) } :: readQueue m (a + 4) n

/-- Reads an item record; a class above 15 is taken as 15 and a queue count above 6 as 6 (R66). -/
def ItemRecord.read (m : Memory) (a : Nat) : ItemRecord :=
  { count := m.read16 a
    state := ItemState.ofCode (m.readByte (a + 2))
    itemClass := min (m.readByte (a + 3)) 15
    number := m.read64 (a + 4)
    borrower := m.read16 (a + 12)
    due := { day := m.read16 (a + 14), minute := m.read16 (a + 16) }
    loanDay := m.read16 (a + 18)
    renewCount := m.readByte (a + 20)
    hourLoan := hasBit (m.readByte (a + 21)) 0
    clamped := hasBit (m.readByte (a + 21)) 1
    queue := readQueue m (a + 32) (min (m.readByte (a + 22)) 6)
    deadline := m.read16 (a + 24)
    shelfNext := m.read16 (a + 26)
    chainNext := m.read16 (a + 28) }

/-- An entry place beyond the queue: a null index and day 0 (R50). -/
def HoldEntry.vacant : HoldEntry := { borrower := nullIndex, placed := 0 }

/-- The words of six entry places (R50). -/
def queueWords (q : List HoldEntry) : List Nat :=
  (q.take 6 ++ List.replicate (6 - q.length) HoldEntry.vacant).flatMap fun e : HoldEntry => [e.borrower, e.placed]

/-- The 32 words of an item record; bytes R206 does not name are 0. -/
def ItemRecord.words (r : ItemRecord) : List Nat :=
  [r.count, bytePair (itemStateCode r.state) r.itemClass] ++ words64 r.number
    ++ [r.borrower, r.due.day, r.due.minute, r.loanDay, bytePair r.renewCount (bitOf r.hourLoan 0 + bitOf r.clamped 1),
        bytePair r.queue.length 0, r.deadline, r.shelfNext, r.chainNext, 0]
    ++ queueWords r.queue ++ [0, 0, 0, 0]

/-- The index of the head borrower, null on an empty queue (log entry 16, DESIGN CHOICE). -/
def ItemRecord.head (r : ItemRecord) : Nat := (r.queue.head?.map HoldEntry.borrower).getD nullIndex

/-- The record as R47 frees it; its chain-next index becomes the present free-list head. -/
def ItemRecord.freed (r : ItemRecord) (freeHead : Nat) : ItemRecord :=
  { count := r.count, state := some .free, itemClass := 0, number := 0, borrower := nullIndex, due := .zero, loanDay := 0,
    renewCount := 0, hourLoan := false, clamped := false, queue := [], deadline := 0, shelfNext := nullIndex,
    chainNext := freeHead }

/-- The state-dependent fields as R48 gives them for every state but ON_LOAN and ON_HOLD_SHELF. -/
def ItemRecord.cleared (r : ItemRecord) (st : ItemState) (borrower : Nat) : ItemRecord :=
  { r with state := some st, borrower := borrower, due := .zero, loanDay := 0, renewCount := 0, hourLoan := false,
           clamped := false, deadline := 0, shelfNext := nullIndex }

/-! ## Borrower records (R51) -/

/-- A borrower record; `inUse` is none when the use byte is not one of the defined values (R64). -/
structure BorrowerRecord where
  count : Nat
  inUse : Option Bool
  cls : Nat
  number : Nat
  expiry : Nat
  activity : Nat
  fines : Nat
  loans : Nat
  holds : Nat
  lost : Nat
  manual : Option Nat
  center : Option (Nat × Nat)
  chainNext : Nat
  deriving DecidableEq, Repr

def useOfCode : Nat → Option Bool
  | 0 => some false | 1 => some true
  | _ => none

/-- Reads a borrower record; a class above 7 is taken as 7 (R66). -/
def BorrowerRecord.read (m : Memory) (a : Nat) : BorrowerRecord :=
  { count := m.read16 a
    inUse := useOfCode (m.readByte (a + 2))
    cls := min (m.readByte (a + 3)) 7
    number := m.read32 (a + 4)
    expiry := m.read16 (a + 8)
    activity := m.read16 (a + 10)
    fines := m.read32 (a + 12)
    loans := m.readByte (a + 16)
    holds := m.readByte (a + 17)
    lost := m.readByte (a + 18)
    manual := if hasBit (m.readByte (a + 19)) 0 then some (m.readByte (a + 20)) else none
    center := if hasBit (m.readByte (a + 19)) 1 then some (m.read16 (a + 22), m.read16 (a + 24)) else none
    chainNext := m.read16 (a + 26) }

/-- The 24 words of a borrower record; an absent block holds 0 in its fields (R69). -/
def BorrowerRecord.words (r : BorrowerRecord) : List Nat :=
  [r.count, bytePair (if r.inUse = some true then 1 else 0) r.cls] ++ words32 r.number ++ [r.expiry, r.activity]
    ++ words32 r.fines
    ++ [bytePair r.loans r.holds, bytePair r.lost (bitOf r.manual.isSome 0 + bitOf r.center.isSome 1),
        bytePair (r.manual.getD 0) 0, (r.center.getD (0, 0)).1, (r.center.getD (0, 0)).2, r.chainNext]
    ++ List.replicate 10 0

/-- The record as R47 frees it. -/
def BorrowerRecord.freed (r : BorrowerRecord) (freeHead : Nat) : BorrowerRecord :=
  { count := r.count, inUse := some false, cls := 0, number := 0, expiry := 0, activity := 0, fines := 0, loans := 0,
    holds := 0, lost := 0, manual := none, center := none, chainNext := freeHead }

/-! ## Places of the tables (R42) -/

def itemSize : Nat := 64
def borrowerSize : Nat := 48

/-- Address of a bucket word. -/
def bucketAddress (table bucket : Nat) : Nat := table + 16 + 2 * bucket

/-- Address of record `i` of a table with exponent `b` and records of `size` bytes (R42). -/
def recordAddress (table b size i : Nat) : Nat := table + 16 + 2 * 2 ^ b + i * size

/-- Length of a table's extent (R42). -/
def extentLength (b size capacity : Nat) : Nat := 16 + 2 ^ (b + 1) + capacity * size

/-! ## Journal entries (R153) and commit images (R58) -/

/-- A journal entry without its sequence number. -/
structure EntryBody where
  kind : EntryKind
  source : Requester
  flags : EntryFlags
  stamp : Stamp
  borrower : Nat
  item : Nat
  value1 : Nat
  value2 : Nat
  deriving DecidableEq, Repr

/-- The 16 words of a journal entry (R206). -/
def EntryBody.words (e : EntryBody) (seq : Nat) : List Nat :=
  words32 seq ++ [bytePair e.kind.code e.source.code, e.flags.code, e.stamp.day, e.stamp.minute] ++ words32 e.borrower
    ++ words64 e.item ++ words32 e.value1 ++ words32 e.value2

/-- One image of the commit slot: the words of a COUNTED image begin with the target's final change count (R58). -/
structure Image where
  target : Nat
  counted : Bool
  words : List Nat
  deriving DecidableEq, Repr

/-! ## Slates (R35, R206) -/

/-- Address of slate `i`. -/
def slateAddress (g : Geometry) (i : Fin 4) : Nat := g.slateArea + 48 * i.val

/-- The words of every outcome field, from offset 2 to offset 27 (R35). -/
def SlateOutcome.words (o : SlateOutcome) : List Nat :=
  [bytePair (if o.refused then 3 else o.reason.code) (if o.refused then o.reason.code else 0)] ++ words32 o.borrower
    ++ words64 o.item ++ [o.due.day, o.due.minute] ++ words32 o.fine
    ++ [bytePair o.blocks.code (itemStateCode o.itemState), bytePair o.sessionItems (bitOf o.slipLost 0)]

end Sys2Proof.Machine
end

