-- ==== Sys2Proof/Machine/Calendar.lean ====
section
/-! DEFINITION. The calendar's arithmetic (chapter 6): open days and minutes, due stamps, fines, pickup deadlines, printed
dates and times, and the copies of the rules area and of the settings block with their clamping (R114, R203). -/

namespace Sys2Proof.Machine

open Config

/-! ## Open days and minutes -/

/-- The weekday of a day, Monday 0 to Sunday 6 (00_scope.md, Dates and times). -/
def weekday (d : Nat) : Nat := (d + 5) % 7

def Rules.hours (r : Rules) (d : Nat) : DayHours := r.weekly.getD (weekday d) { openMinute := 0, closeMinute := 0 }

/-- Day `d` lies in the span of the closed set and belongs to it (R113, R117). -/
def Rules.isClosedDay (r : Rules) (d : Nat) : Bool :=
  decide (r.baseDay ≤ d) && decide (d ≤ r.baseDay + 511) && r.closedSet.getLsbD (d - r.baseDay)

/-- Day `d` is open (R117). -/
def Rules.isOpen (r : Rules) (d : Nat) : Bool :=
  decide ((r.hours d).openMinute < (r.hours d).closeMinute) && !r.isClosedDay d

/-- The first open day among `d`, …, `d + n`, the walk ending at day 65535 (R118, forward search). -/
def Rules.forwardSearch (r : Rules) (d : Nat) : Nat → Option Nat
  | 0 => if r.isOpen d then some d else none
  | n + 1 => if r.isOpen d then some d else if d ≥ lastDay then none else r.forwardSearch (d + 1) n

/-- The latest day among `a`, …, `a + n` for which `p` holds (R118, backward search). -/
def latestDay (p : Nat → Bool) (a : Nat) : Nat → Option Nat
  | 0 => if p a then some a else none
  | n + 1 => if p (a + (n + 1)) then some (a + (n + 1)) else latestDay p a n

/-- The number of open days among `u + 1`, …, `u + n` (R118, count). -/
def Rules.countOpen (r : Rules) (u : Nat) : Nat → Nat
  | 0 => 0
  | n + 1 => r.countOpen u n + (if r.isOpen (u + (n + 1)) then 1 else 0)

/-! ## Entries taken from the rules (R116) -/

def Rules.policyEntry (r : Rules) (itemClass borrowerClass : Nat) : PolicyEntry :=
  r.policy.getD (min itemClass 15 * 8 + min borrowerClass 7) .nothing

def Rules.borrowerClass (r : Rules) (c : Nat) : BorrowerClass :=
  r.classes.getD (min c 7) { loanLimit := 0, holdLimit := 0, fineBlockLimit := 0 }

def Rules.allowsHolds (r : Rules) (itemClass : Nat) : Bool := r.holdsAllowed.getD (min itemClass 15) false

/-- The class map entry for an item number's first two digits. -/
def Rules.classOfNumber (r : Rules) (number : Nat) : Nat := r.classMap.getD (number / 100000000) 0

/-! ## Due stamps -/

/-- A due stamp with its flags, as the calendar returns it (R123). -/
structure DueStamp where
  due : Stamp
  flags : DueFlags
  deriving DecidableEq, Repr

/-- Steps 1 and 2 of R119: the due day, and whether LIMITED is set. -/
def Rules.dayCandidate (r : Rules) (s period : Nat) : Nat × Bool :=
  match r.forwardSearch (min (s + period) lastDay) 31 with
  | some d => (d, false)
  | none => (min (s + period) lastDay, true)

/-- The due stamp of a day loan (R119) with the expiry clamp of R120. -/
def Rules.dueDays (r : Rules) (st : Stamp) (period expiry : Nat) : DueStamp :=
  let c := r.dayCandidate st.day period
  if st.day ≤ expiry ∧ expiry < c.1 then
    { due := { day := (latestDay r.isOpen st.day (expiry - st.day)).getD expiry, minute := 1439 }
      flags := { DueFlags.empty with clamped := true, limited := c.2 } }
  else { due := { day := c.1, minute := 1439 }, flags := { DueFlags.empty with limited := c.2 } }

/-- The walk of R121 from day `d`, counting open minutes from minute `m` on, with `l` minutes left and `n` further days. -/
def Rules.hourWalk (r : Rules) (d m l : Nat) : Nat → Option Stamp
  | n =>
    let h := r.hours d
    let counts := r.isOpen d && decide (m < h.closeMinute)
    let start := max m h.openMinute
    if counts ∧ l ≤ h.closeMinute - start then some { day := d, minute := start + l }
    else
      match n with
      | 0 => none
      | k + 1 =>
        if d ≥ lastDay then none
        else r.hourWalk (d + 1) 0 (if counts then l - (h.closeMinute - start) else l) k

/-- The rounding of R122: the next multiple of 15, but not later than the day's close. -/
def Rules.roundHour (r : Rules) (d : Stamp) : Stamp :=
  { d with minute := min ((d.minute + 14) / 15 * 15) (r.hours d.day).closeMinute }

/-- R121 with the rounding of R122: the stamp, and whether LIMITED is set. -/
def Rules.hourCandidate (r : Rules) (st : Stamp) (period : Nat) : Stamp × Bool :=
  match r.hourWalk st.day st.minute (period * 60) 14 with
  | some d => (r.roundHour d, false)
  | none => ({ day := min (st.day + 14) lastDay, minute := 1439 }, true)

/-- A day that a clamped hour loan may fall on: open, its close later than the stamp (R122). -/
def Rules.clampDay (r : Rules) (st : Stamp) (d : Nat) : Bool :=
  r.isOpen d && (decide (st.day < d) || decide (st.minute < (r.hours d).closeMinute))

/-- The due stamp of an hour loan (R121, R122; LIMITED of step 3 stays set through the clamp, log entry 29, DESIGN CHOICE). -/
def Rules.dueHours (r : Rules) (st : Stamp) (period expiry : Nat) : DueStamp :=
  let c := r.hourCandidate st period
  if st.day ≤ expiry ∧ expiry < c.1.day then
    match latestDay (r.clampDay st) st.day (expiry - st.day) with
    | some d =>
      { due := { day := d, minute := (r.hours d).closeMinute }
        flags := { DueFlags.empty with hourLoan := true, clamped := true, limited := c.2 } }
    | none =>
      { due := { day := expiry, minute := 1439 }
        flags := { DueFlags.empty with hourLoan := true, clamped := true, limited := true } }
  else { due := c.1, flags := { DueFlags.empty with hourLoan := true, limited := c.2 } }

/-- The due stamp of a policy entry of kind DAYS or HOURS; the engine asks for no other (R116). -/
def Rules.dueStamp (r : Rules) (p : PolicyEntry) (st : Stamp) (expiry : Nat) : DueStamp :=
  match p.kind with
  | .hours => r.dueHours st p.period expiry
  | _ => r.dueDays st p.period expiry

/-! ## Fines -/

/-- The fine of an overdue day loan (R124). -/
def Rules.dayFine (r : Rules) (p : PolicyEntry) (due st : Stamp) : Nat :=
  min ((r.countOpen due.day (st.day - due.day) - p.grace) * p.fineRate) p.fineCap

/-- Open minutes of day `d` at or after minute `lo` and before minute `hi` (R117). -/
def Rules.openMinutes (r : Rules) (d lo hi : Nat) : Nat :=
  if r.isOpen d then min (r.hours d).closeMinute hi - max (r.hours d).openMinute lo else 0

/-- Open minutes from stamp `due` to stamp `st`, over the days `due.day`, …, `due.day + n` (R125, step 2). -/
def Rules.minutesBetween (r : Rules) (due st : Stamp) : Nat → Nat
  | 0 => r.openMinutes due.day due.minute (if due.day = st.day then st.minute else 1440)
  | n + 1 =>
    r.minutesBetween due st n
      + r.openMinutes (due.day + (n + 1)) 0 (if due.day + (n + 1) = st.day then st.minute else 1440)

/-- The fine of an overdue hour loan (R125). -/
def Rules.hourFine (r : Rules) (p : PolicyEntry) (due st : Stamp) : Nat :=
  if st.day > due.day + 14 then p.fineCap
  else min (((r.minutesBetween due st (st.day - due.day) + 59) / 60 - p.grace) * p.fineRate) p.fineCap

/-- The fine of a loan at a stamp, 0 when it is not overdue, by the kind it was made under (R126). -/
def Rules.fine (r : Rules) (p : PolicyEntry) (hourLoan : Bool) (due st : Stamp) : Nat :=
  if st.later due then (if hourLoan then r.hourFine p due st else r.dayFine p due st) else 0

/-- A rise of the fines owed, saturating (R76). -/
def raiseFines (owed fine : Nat) : Nat := min maxFines (owed + fine)

/-! ## Pickup deadlines -/

/-- The pickup deadline at stamp day `s` with `p` pickup days (R127). -/
def Rules.pickupDeadline (r : Rules) (s p : Nat) : Nat :=
  (r.forwardSearch (min (s + p) lastDay) 31).getD (min (s + p) lastDay)

/-! ## Printed dates and times -/

/-- A year of 366 days (R128). -/
def isLeap (y : Nat) : Bool := y % 4 == 0 && (y % 100 != 0 || y % 400 == 0)

def yearLength (y : Nat) : Nat := if isLeap y then 366 else 365

/-- The year of the `d`-th day counted from 1 January of year `y`, and the day within it. -/
def civilYear (y d : Nat) : Nat → Nat × Nat
  | 0 => (y, d)
  | n + 1 => if d < yearLength y then (y, d) else civilYear (y + 1) (d - yearLength y) n

def monthLengths (y : Nat) : List Nat := [31, if isLeap y then 29 else 28, 31, 30, 31, 30, 31, 31, 30, 31, 30, 31]

/-- The month and day of month of the `d`-th day of a year, from month `k` on. -/
def civilMonth (k d : Nat) : List Nat → Nat × Nat
  | [] => (k, d + 1)
  | l :: ls => if d < l then (k, d + 1) else civilMonth (k + 1) (d - l) ls

/-- Year, month and day of month of a day number (R128). -/
def civilDate (day : Nat) : Nat × Nat × Nat :=
  let y := civilYear 2000 day 180
  let m := civilMonth 1 y.2 (monthLengths y.1)
  (y.1, m.1, m.2)

/-- The last `w` decimal digits of `n`, as character codes, with leading zeros. -/
def digitCodes (n : Nat) : Nat → List Nat
  | 0 => []
  | w + 1 => digitCodes (n / 10) w ++ [48 + n % 10]

/-- The digits of a number, or dashes where it is absent (R184, date line). -/
def digitsOrDashes (n : Option Nat) (w : Nat) : List Nat :=
  match n with
  | some k => digitCodes k w
  | none => List.replicate w 45

/-- A character as it prints: '?' for a code outside 32..127 (R129, R183). -/
def printable (c : Nat) : Nat := if 32 ≤ c ∧ c ≤ 127 then c else 63

/-- A date in ten characters (R129). -/
def printDate (o : DateOrder) (separator : Nat) (day : Option Nat) : List Nat :=
  let c := day.map civilDate
  let dd := digitsOrDashes (c.map fun x => x.2.2) 2
  let mm := digitsOrDashes (c.map fun x => x.2.1) 2
  let yyyy := digitsOrDashes (c.map fun x => x.1) 4
  let sep := [printable separator]
  match o with
  | .dmy => dd ++ sep ++ mm ++ sep ++ yyyy
  | .mdy => mm ++ sep ++ dd ++ sep ++ yyyy
  | .ymd => yyyy ++ sep ++ mm ++ sep ++ dd

/-- A minute of day as hh:mm (R128). -/
def printTime (minute : Option Nat) : List Nat :=
  digitsOrDashes (minute.map fun m => m / 60) 2 ++ [58] ++ digitsOrDashes (minute.map fun m => m % 60) 2

/-! ## Copies with clamping -/

/-- A copied value and the number of values changed on the way. -/
abbrev Clamped (α : Type) := α × Nat

/-- A value brought into `lo..hi` (R2, R114, R203). -/
def clampTo (lo hi v : Nat) : Clamped Nat := (max lo (min v hi), if v < lo ∨ hi < v then 1 else 0)

/-- A policy entry of a lending kind whose period is not 0 (R114). -/
def copyLending (m : Memory) (a : Nat) (kind : PolicyKind) (maxPeriod : Nat) : Clamped PolicyEntry :=
  let period := clampTo 1 maxPeriod (m.read16 (a + 2))
  let renew := clampTo 0 15 (m.readByte (a + 1))
  let rate := clampTo 0 10000 (m.read16 (a + 4))
  let cap := clampTo 0 100000 (m.read32 (a + 8))
  let grace := clampTo 0 15 (m.readByte (a + 6))
  ({ kind := kind, period := period.1, renewLimit := renew.1, fineRate := rate.1, fineCap := cap.1, grace := grace.1 },
   period.2 + renew.2 + rate.2 + cap.2 + grace.2)

/-- A policy entry as copied: an unknown kind, or a period of 0, makes it NONE and counts once (R114). -/
def copyPolicy (m : Memory) (a : Nat) : Clamped PolicyEntry :=
  match m.readByte a with
  | 0 => (.nothing, 0)
  | 1 => if m.read16 (a + 2) = 0 then (.nothing, 1) else copyLending m a .days 365
  | 2 => if m.read16 (a + 2) = 0 then (.nothing, 1) else copyLending m a .hours 72
  | _ => (.nothing, 1)

def copyBorrowerClass (m : Memory) (a : Nat) : Clamped BorrowerClass :=
  let loans := clampTo 0 99 (m.readByte a)
  let holds := clampTo 0 31 (m.readByte (a + 1))
  let fines := clampTo 0 maxFines (m.read32 (a + 4))
  ({ loanLimit := loans.1, holdLimit := holds.1, fineBlockLimit := fines.1 }, loans.2 + holds.2 + fines.2)

/-- Holds allowed: any value but 0 and 1 becomes yes (R114). -/
def copyHoldsAllowed (m : Memory) (a : Nat) : Clamped Bool := (m.readByte a != 0, if m.readByte a > 1 then 1 else 0)

def copyHours (m : Memory) (a : Nat) : Clamped DayHours :=
  let o := clampTo 0 1439 (m.read16 a)
  let c := clampTo 0 1439 (m.read16 (a + 2))
  ({ openMinute := o.1, closeMinute := c.1 }, o.2 + c.2)

/-- `n` consecutive entries of `size` bytes from address `a`. -/
def copyMany {α : Type} (f : Nat → Clamped α) (a size : Nat) : Nat → Clamped (List α)
  | 0 => ([], 0)
  | n + 1 => ((f a).1 :: (copyMany f (a + size) size n).1, (f a).2 + (copyMany f (a + size) size n).2)

/-- The closed set: bit k mod 8 of byte k div 8 (R206). -/
def copyClosedSet (m : Memory) (a : Nat) : BitVec 512 :=
  BitVec.ofNat 512 ((m.bytes a 64).foldr (fun b n => b.toNat + 256 * n) 0)

/-- The copy of the rules area at address `a`, and its clamp count (R113, R114, R206). -/
def copyRules (m : Memory) (a : Nat) : Clamped Rules :=
  let policy := copyMany (copyPolicy m) a 12 128
  let classes := copyMany (copyBorrowerClass m) (a + 1536) 8 8
  let allowed := copyMany (copyHoldsAllowed m) (a + 1600) 1 16
  let map := copyMany (fun p => clampTo 0 15 (m.readByte p)) (a + 1616) 1 100
  let base := clampTo 0 65024 (m.read16 (a + 1716))
  let weekly := copyMany (copyHours m) (a + 1718) 4 7
  ({ policy := policy.1, classes := classes.1, holdsAllowed := allowed.1, classMap := map.1, baseDay := base.1,
     closedSet := copyClosedSet m (a + 1746), weekly := weekly.1 },
   sat16 (policy.2 + classes.2 + allowed.2 + map.2 + base.2 + weekly.2))

/-- Date order (R129): a code that names none of the three is taken as DMY, and counts as changed (log entry 36, DESIGN CHOICE). -/
def copyDateOrder : Nat → Clamped DateOrder
  | 0 => (.dmy, 0) | 1 => (.mdy, 0) | 2 => (.ymd, 0)
  | _ => (.dmy, 1)

/-- Parity (R161): any other code is taken as NONE, and counts as changed (log entry 36, DESIGN CHOICE). -/
def copyParity : Nat → Clamped Parity
  | 0 => (.none, 0) | 1 => (.even, 0) | 2 => (.odd, 0)
  | _ => (.none, 1)

/-- A text setting: 24 character codes, unchecked (R183, R206). -/
def copyText (m : Memory) (a : Nat) : List Nat := (m.bytes a 24).map BitVec.toNat

/-- The copy of the settings block at address `a`, and its clamp count (R203, ranges of R2, R23, R127, R161, R187). -/
def copySettings (m : Memory) (a : Nat) : Clamped Settings :=
  let quiet := clampTo 1000 65535 (m.read16 (a + 2))
  let repeats := clampTo 0 5000 (m.read16 (a + 4))
  let timeout := clampTo 10 600 (m.read16 (a + 6))
  let order := copyDateOrder (m.readByte (a + 9))
  let pickup := clampTo 1 30 (m.readByte (a + 11))
  let divisor := clampTo 1 4095 (m.read16 (a + 14))
  let parity := copyParity (m.readByte (a + 16))
  let reply := clampTo 1 60 (m.readByte (a + 17))
  let tries := clampTo 1 5 (m.readByte (a + 18))
  let strobe := clampTo 50 2000 (m.read16 (a + 22))
  let step := clampTo 500 20000 (m.read16 (a + 24))
  ({ prescale := m.readByte a, glitchLimit := m.readByte (a + 1), quietLimit := quiet.1, repeatWindow := repeats.1,
     sessionTimeout := timeout.1, slipFlags := BitVec.ofNat 4 (m.readByte (a + 8)), dateOrder := order.1,
     separator := m.readByte (a + 10), pickupDays := pickup.1, uploadMinute := m.read16 (a + 12), divisor := divisor.1,
     parity := parity.1, replyTimeout := reply.1, tries := tries.1, branch := m.read16 (a + 20), strobeWidth := strobe.1,
     stepPeriod := step.1, header1 := copyText m (a + 28), header2 := copyText m (a + 52), footer := copyText m (a + 76) },
   sat16 (quiet.2 + repeats.2 + timeout.2 + order.2 + pickup.2 + divisor.2 + parity.2 + reply.2 + tries.2 + strobe.2 + step.2))

end Sys2Proof.Machine
end

