-- ==== Sys2Proof/Machine/Printer.lean ====
section
/-! DEFINITION. The slip printer (chapter 10): slip requests, composition, rendering, the print cycle, paper out, and the
meanings of the printer's events. -/

namespace Sys2Proof.Machine

/-! ## Printer group (R179) -/

/-- The writes that add 1 to a 32-bit count of the printer group at offset `off` (R179). The group's other bytes stay, the unnamed
ones too (log entry 33, DESIGN CHOICE). -/
def State.printerWrites (s : State) (off : Nat) : List WordWrite :=
  s.groupWrites offPrinter (putWords (s.desk.anchor + off) (words32 (wrap32 (s.anchor32 off + 1))))

/-- A count of the printer group rises by 1, while the desk is OPEN or HALTED (R179). -/
def State.countPrinter (s : State) (off : Nat) : State := if s.attached then s.writeAll (s.printerWrites off) else s

/-- Places of the two counts (R206). -/
def offSlipsPrinted : Nat := offPrinter + 4
def offSlipsLost : Nat := offPrinter + 8

/-! ## Printing starts and stops -/

/-- Printing of the head slip starts or starts again: both buffers EMPTY, the composer at its first dot line (R182, R186). The
first dot line takes buffer 0 (log entry 36, DESIGN CHOICE: R186 says only that the buffers alternate). -/
def Printer.start (p : Printer) : Printer :=
  { p with state := .printing, composer := .cleared, buffers := Vector.replicate 2 .cleared, renderNext := 0, printNext := 0,
           fed := 0, paperTimer := none }

/-- The printer after a desk restart (R178, R191): the paper and its sensor stay. -/
def Printer.restart (p : Printer) : Printer := { Printer.reset with paper := p.paper, head := p.head }

/-- A slip request: queued at the tail, or lost at 16 records (R179). -/
def Printer.enqueue (p : Printer) (slip : Slip) : Printer :=
  if p.state = .idle then { p with queue := p.queue ++ [slip] }.start else { p with queue := p.queue ++ [slip] }

/-- The state after a slip request (R179). -/
def State.requestSlip (s : State) (slip : Slip) : State :=
  if s.printer.queue.length < 16 then s.withPrinter (s.printer.enqueue slip) else s.countPrinter offSlipsLost

/-- Whether a slip request made now is answered lost (R179). -/
def State.slipLost (s : State) : Bool := decide (16 ≤ s.printer.queue.length)

/-! ## Composition (R183, R184) -/

/-- A line filled with spaces to 24 characters, each code outside 32..127 as '?' (R183). -/
def finishLine (cs : List Nat) : List Nat := ((cs ++ List.replicate (24 - cs.length) 32).take 24).map printable

/-- Four '*' and the last four digits of a number (R184). -/
def maskedNumber (n : Nat) : List Nat := [42, 42, 42, 42] ++ digitCodes n 4

/-- The words of the fixed lines, as character codes. -/
def wordBorrower : List Nat := [66, 79, 82, 82, 79, 87, 69, 82]
def wordDue : List Nat := [68, 85, 69]
def wordRenewed : List Nat := [82, 69, 78, 69, 87, 69, 68]
def wordClamped : List Nat := [67, 76, 65, 77, 80, 69, 68]
def wordItems : List Nat := [73, 84, 69, 77, 83]
def wordHoldFor : List Nat := [72, 79, 76, 68, 32, 70, 79, 82]
def wordPickUpBy : List Nat := [80, 73, 67, 75, 32, 85, 80, 32, 66, 89]
def wordReshelve : List Nat := [82, 69, 83, 72, 69, 76, 86, 69]

/-- A count without leading zeros, of a slip's entries (0..99). -/
def countCodes (n : Nat) : List Nat := if n < 10 then digitCodes n 1 else digitCodes n 2

def Settings.date (t : Settings) (day : Option Nat) : List Nat := printDate t.dateOrder t.separator day

/-- The date line (R184). -/
def dateLine (t : Settings) (slip : Slip) : List Nat :=
  t.date (slip.stamp.map Stamp.day) ++ [32] ++ printTime (slip.stamp.map Stamp.minute) ++ List.replicate 6 32
    ++ [83, match slip.station with | some i => 48 + i.val | none => 45]

/-- The lines of one entry of a DUE_DATE slip (R183). -/
def entryLines (t : Settings) (e : SessionItem) : List (List Nat) :=
  [digitCodes e.item 10 ++ [32] ++ t.date (some e.due.day)]
    ++ (if e.flags.hourLoan then [wordDue ++ [32] ++ printTime (some e.due.minute)] else [])
    ++ (if e.flags.renewed && e.flags.clamped then [wordRenewed ++ [32] ++ wordClamped]
        else if e.flags.renewed then [wordRenewed] else if e.flags.clamped then [wordClamped] else [])

/-- The item line of a HOLD or RESHELVE slip (R184). -/
def shelfItemLine (slip : Slip) : List Nat := digitCodes ((slip.entries.head?.map SessionItem.item).getD 0) 10

/-- The text lines of a slip, with the settings in force (R183). -/
def Slip.lines (t : Settings) (slip : Slip) : List (List Nat) :=
  let body : List (List Nat) := match slip.kind with
    | .dueDate =>
      [wordBorrower ++ [32] ++ maskedNumber slip.borrower] ++ slip.entries.flatMap (entryLines t)
        ++ [wordItems ++ [32] ++ countCodes slip.entries.length]
    | .hold =>
      [wordHoldFor ++ [32] ++ maskedNumber slip.holdBorrower, shelfItemLine slip,
       wordPickUpBy ++ [32] ++ t.date (some slip.deadline)]
    | .reshelve => [wordReshelve, shelfItemLine slip]
    | .text => slip.text
  ([t.header1, t.header2, dateLine t slip] ++ body ++ [t.footer]).map finishLine

/-- The dot lines of a slip: 8 blank, 28 for each text line, 64 blank (R183). -/
def Slip.dotLines (t : Settings) (slip : Slip) : Nat := 8 + 28 * (slip.lines t).length + 64

/-! ## Rendering (R185) -/

/-- Row `r` of a text line: the two bytes of each character's glyph row (R185). -/
def glyphRow (m : Memory) (font r : Nat) (text : List Nat) : List Byte :=
  text.flatMap fun c =>
    [m.read8 (font + (printable c - 32) * 48 + 2 * r), m.read8 (font + (printable c - 32) * 48 + 2 * r + 1)]

/-- The text line the composer holds when it renders dot line `n`: formed at the first row of a line, else kept (R183). -/
def composeText (t : Settings) (slip : Slip) (n : Nat) (held : List Nat) : List Nat :=
  if 8 ≤ n ∧ n < 8 + 28 * (slip.lines t).length ∧ (n - 8) % 28 = 0 then (slip.lines t).getD ((n - 8) / 28) [] else held

/-- The 48 bytes of dot line `n` of a slip (R185). -/
def dotLine (m : Memory) (font : Nat) (t : Settings) (slip : Slip) (n : Nat) (text : List Nat) : List Byte :=
  if 8 ≤ n ∧ n < 8 + 28 * (slip.lines t).length ∧ (n - 8) % 28 < 24 then glyphRow m font ((n - 8) % 28) text else blankDots

/-- The composer's position after a dot line (R178, R186): the next dot line, or the first of the next slip. -/
def Composer.next (c : Composer) (total : Nat) (text : List Nat) : Composer :=
  if c.line + 1 < total then { slip := c.slip, line := c.line + 1, text := text }
  else { slip := c.slip + 1, line := 0, text := [] }

/-- The renderer completes a dot line of `slip` in the buffer whose turn it is (R186). -/
def Printer.render (p : Printer) (m : Memory) (font : Nat) (t : Settings) (slip : Slip) : Printer :=
  let text := composeText t slip p.composer.line p.composer.text
  { p with
    buffers := p.buffers.set p.renderNext { state := .ready, bytes := dotLine m font t slip p.composer.line text }
    renderNext := p.renderNext + 1
    composer := p.composer.next (slip.dotLines t) text }

/-! ## Print cycle (R187, R188, R190) -/

/-- The paper test fails (R188). -/
def Printer.runOut (p : Printer) : Printer := { p.start with state := .paperOut, step := none }

/-- The dots of a dot line in the order in which they are shifted on PR_DATA: byte 0 first, each byte most significant bit first;
the first is the leftmost dot (step 2 of R187). -/
def shiftOut (bytes : List Byte) : List Bool := bytes.flatMap fun b => (List.range 8).map fun i => b.getLsbD (7 - i)

/-- Shift, latch and strobe of the buffer whose turn it is (R187). -/
def Printer.strike (p : Printer) (width : Nat) : Printer :=
  { p with
    head := shiftOut (p.buffers.get p.printNext).bytes
    buffers := p.buffers.set p.printNext .cleared
    printNext := p.printNext + 1
    strobe := some width
    step := none }

/-- The head slip leaves the queue; a line rendered ahead for the next slip is kept (R186, R190, log entry 28, DEDUCED). -/
def Printer.finishSlip (p : Printer) : Printer :=
  match p.queue.tail with
  | [] => { p.start with queue := [], state := .idle }
  | rest => { p with queue := rest, fed := 0, composer := { p.composer with slip := p.composer.slip - 1 } }

/-! ## Meanings -/

/-- DOT_LINE_RENDERED (R185, R186): nothing to do without a slip to render or an EMPTY buffer. -/
def execDotLineRendered (s : State) : Host.Outcome State Fault Refusal :=
  match s.printer.queue[s.printer.composer.slip]? with
  | none => .next s
  | some slip =>
    if s.printer.state = .printing ∧ (s.printer.buffers.get s.printer.renderNext).state = .empty then
      .next (s.withPrinter (s.printer.render s.mem s.geometry.font s.settings slip))
    else .next s

/-- DOT_LINE_START (R187, R188). -/
def execDotLineStart (s : State) : Host.Outcome State Fault Refusal :=
  if s.printer.state = .printing ∧ s.printer.strobe = none
      ∧ (s.printer.buffers.get s.printer.printNext).state = .ready then
    if s.printer.paper then .next (s.withPrinter (s.printer.strike s.settings.strobeWidth))
    else .next ((s.withPrinter s.printer.runOut).raise .printerStopped)
  else .next s

/-- The completion of the head slip (R190). -/
def State.completeSlip (s : State) : State :=
  ((s.countPrinter offSlipsPrinted).withPrinter s.printer.finishSlip).raise .slipPrinted

/-- DOT_LINE_FED (R187, R190). -/
def execDotLineFed (s : State) : Host.Outcome State Fault Refusal :=
  if s.printer.state = .printing ∧ s.printer.strobe.isSome then
    let s1 := s.withPrinter
      { s.printer with strobe := none, step := some s.settings.stepPeriod, fed := s.printer.fed + 1 }
    match s.printer.queue.head? with
    | none => .next s1
    | some slip => if s.printer.fed + 1 < slip.dotLines s.settings then .next s1 else .next s1.completeSlip
  else .next s

/-- PAPER_SENSOR_CHANGE (R188, R189): in PAPER_OUT a rise starts the paper timer and a fall holds it at 0. -/
def execPaperSensorChange (high : Bool) (s : State) : Host.Outcome State Fault Refusal :=
  if high = s.printer.paper then .next s
  else .next (s.withPrinter
    { s.printer with
      paper := high
      paperTimer := if s.printer.state = .paperOut ∧ high then some 2000 else none })

/-- PAPER_TIMER_EXPIRE (R189). -/
def execPaperTimerExpire (s : State) : Host.Outcome State Fault Refusal :=
  if s.printer.state = .paperOut ∧ s.printer.paperTimer.isSome then .next (s.withPrinter s.printer.start) else .next s

end Sys2Proof.Machine
end

