-- ==== Sys2Proof/Machine/Orders.lean ====
section
/-! DEFINITION. The end of an order and of a list (R200, R201): what the executor writes to an order block, and the close of a
list in the list group. Every block that owns an order ends it through `State.finishOrder`. -/

namespace Sys2Proof.Machine

/-- What an order ends with (R200). Where the owning rule names no reason, the reason word is 0, and where it names no result, the
result count is 0 (the defaults below; log entry 40, DESIGN CHOICE: R200 and R201 say so of BAD_ORDER and SKIPPED alone). -/
structure OrderResult where
  outcome : OrderOutcome
  reason : Option Reason := none
  count : Int := 0
  blocks : Blocks := .empty
  slipLost : Bool := false
  deriving DecidableEq, Repr

def OrderResult.done (count : Int) : OrderResult := { outcome := .done, count := count }

def OrderResult.limit : OrderResult := { outcome := .limit }

def OrderResult.refused (r : Reason) : OrderResult := { outcome := .refused, reason := some r }

/-- The reason word and the result count, then the outcome word (step 3 of R200); the block set only with BORROWER_BLOCKED. -/
def OrderResult.writes (r : OrderResult) (block : Nat) : List WordWrite :=
  putWords (block + 2)
      [bytePair (reasonCode r.reason) (if r.reason = some .borrowerBlocked then r.blocks.code else 0)]
    ++ putWords (block + 8) (words32 (signed32 r.count))
    ++ putWords block [r.outcome.code + bitOf r.slipLost 8]

/-- The order taken up, if any. -/
def Executor.current (e : Executor) : Option TakenOrder := e.running.bind RunningList.current

def State.currentOrder (s : State) : Option TakenOrder := s.executor.current

/-- The running list with its current order ended: the next block is 32 bytes on, and a refusal under STOP_ON_REFUSAL stops
the list (R201). -/
def RunningList.advance (l : RunningList) (o : Order) (outcome : OrderOutcome) : RunningList :=
  { l with address := l.address + 32
           stopped := l.stopped || (o.stopOnRefusal && outcome == .refused)
           current := none }

/-- Ends the order taken up (step 3 of R200). -/
def State.finishOrder (s : State) (r : OrderResult) : State :=
  match s.executor.running with
  | none => s
  | some l =>
    match l.current with
    | none => s
    | some t =>
      (s.writeAll (r.writes l.address)).withExecutor
        { s.executor with running := some (l.advance t.order r.outcome) }

/-- Changes what the order taken up waits for. -/
def Executor.wait (e : Executor) (w : OrderWait) : Executor :=
  { e with running := e.running.map fun l => { l with current := l.current.map fun t => { t with wait := w } } }

def State.orderWaits (s : State) (w : OrderWait) : State := s.withExecutor (s.executor.wait w)

/-- The order taken up, when it is of kind `k` and waits for `w`. -/
def State.orderAt (s : State) (k : Nat) (w : OrderWait) : Option Order :=
  match s.currentOrder with
  | some t => if t.order.kind = k ∧ t.wait = w then some t.order else none
  | none => none

/-- The closing status of a list (R201; codes in R206). -/
inductive ListStatus where
  | done | tooLong | abandoned
  deriving DecidableEq, Repr

def ListStatus.code : ListStatus → Nat
  | .done => 1 | .tooLong => 2 | .abandoned => 3

/-- The writes of the list group at a close (R201). -/
def State.listWrites (s : State) (start : Nat) (status : ListStatus) : List WordWrite :=
  s.groupWrites offList
    (putWords (s.desk.anchor + offList + 2)
      (status.code :: (words32 start ++ words32 (wrap32 (s.anchor32 (offList + 8) + 1)) ++ [0, 0])))

/-- The list group is written at a close, and LIST_DONE is raised (R201). -/
def State.writeListClose (s : State) (start : Nat) (status : ListStatus) : State :=
  (s.writeAll (s.listWrites start status)).raise .listDone

/-- The close of the running list (R201). -/
def State.closeList (s : State) (status : ListStatus) : State :=
  match s.executor.running with
  | none => s
  | some l =>
    (s.writeListClose l.start status).withExecutor { s.executor with running := none, prefetched := none }

end Sys2Proof.Machine
end

