-- ==== Sys2Proof/Machine/Frames.lean ====
section
/-! DEFINITION. The UART and the frame receiver (R161 to R167): octets on the line, the CRC, the receive holding queue, the
assembly of frames, and the frames the part sends. The steps that use them stand in Machine/Center.lean. -/

namespace Sys2Proof.Machine

/-! ## CRC (R165) -/

/-- `n` bits through the register, most significant first. -/
def crcShift (c : BitVec 16) : Nat → BitVec 16
  | 0 => c
  | n + 1 => crcShift (if c.getLsbD 15 then (c <<< 1) ^^^ 0x1021#16 else c <<< 1) n

/-- One octet fed to the register. -/
def crcOctet (c : BitVec 16) (b : Byte) : BitVec 16 := crcShift (c ^^^ (b.setWidth 16 <<< 8)) 8

def crcStart : BitVec 16 := 0xFFFF#16

/-- The register after a run of octets. -/
def crcOf (bs : List Byte) : BitVec 16 := bs.foldl crcOctet crcStart

/-! ## Octets on the line (R162, R163) -/

/-- The majority of three samples. -/
def majority (s : BitVec 3) : Bool :=
  (s.getLsbD 0 && s.getLsbD 1) || (s.getLsbD 1 && s.getLsbD 2) || (s.getLsbD 0 && s.getLsbD 2)

/-- An octet's number of ones is odd. -/
def oddOnes (b : Byte) : Bool := (List.range 8).foldl (fun p i => Bool.xor p (b.getLsbD i)) false

/-- The parity bit, when the setting has one. -/
def parityBit : Parity → Byte → Option Bool
  | .none, _ => none
  | .even, b => some (oddOnes b)
  | .odd, b => some (!oddOnes b)

/-- The line levels of an octet (R162). -/
def octetLevels (p : Parity) (b : Byte) : List Bool :=
  [false] ++ (List.range 8).map (fun i => b.getLsbD i) ++ (parityBit p b).toList ++ [true]

/-- Bit time `i` as read; the line is high where no sample is given. -/
def bitTime (bits : List (BitVec 3)) (i : Nat) : Bool := majority (bits.getD i 7#3)

/-- The eight data bits, least significant first. -/
def dataBits (bits : List (BitVec 3)) : Byte :=
  BitVec.ofNat 8 (((List.range 8).map fun i => if bitTime bits (i + 1) then 2 ^ i else 0).sum)

/-- What the receiver makes of the samples: nothing when the start bit is rejected (R163). -/
def sampleOctet (p : Parity) (bits : List (BitVec 3)) : Option RxOctet :=
  if bitTime bits 0 then none
  else
    let b := dataBits bits
    let stop := match p with | .none => 9 | _ => 10
    some
      { octet := b
        framing := !bitTime bits stop
        parity := match parityBit p b with | none => false | some v => v != bitTime bits 9 }

/-- The parity an octet is read with: the one in force when it began, `changes` changes of the setting ago (R161). -/
def Line.parityAt (l : Line) (now : Parity) (changes : Nat) : Parity :=
  (now :: l.pastParity).getD (min changes l.pastParity.length) now

/-- The parity setting changes: an octet in progress keeps the old one (R161). -/
def Line.changeParity (l : Line) (old new : Parity) : Line :=
  if old = new then l else { l with pastParity := old :: l.pastParity }

/-- New settings are handed to their blocks (R161, R203). -/
def State.takeSettings (s : State) (t : Settings) : State :=
  (s.withSettings t).withLine (s.line.changeParity s.settings.parity t.parity)

/-! ## The frame receiver (R164, R166) -/

/-- A frame begins at a lead octet. -/
def PartialFrame.empty : PartialFrame :=
  { taken := 0, kind := 0, length := 0, payload := [], crc := crcStart, crcHigh := 0, overrun := false }

/-- One octet inside a frame, without error marks (R165, R166). -/
def PartialFrame.take (p : PartialFrame) (b : Byte) : FrameReceiver :=
  let q := { p with taken := p.taken + 1, crc := crcOctet p.crc b }
  if p.taken = 0 then .inside { q with kind := b }
  else if p.taken = 1 then .inside { q with length := b.toNat }
  else if p.taken = 2 then
    if 1040 < p.length + 256 * b.toNat then .faulty else .inside { q with length := p.length + 256 * b.toNat }
  else if p.taken < 3 + p.length then .inside { q with payload := if p.payload.length < 16 then p.payload ++ [b] else p.payload }
  else if p.taken = 3 + p.length then .inside { p with taken := p.taken + 1, crcHigh := b }
  else if p.crc = p.crcHigh.setWidth 16 <<< 8 ||| b.setWidth 16 then
    .good { kind := p.kind, length := p.length, payload := p.payload }
  else .faulty

/-- One octet taken, by its marks and the OVERRUN mark of the frame, which the next octet taken reaches (R164, R166, log entry
30, DESIGN CHOICE). -/
def FrameReceiver.take (r : FrameReceiver) (o : RxOctet) : FrameReceiver :=
  match r with
  | .hunting => if o.octet = 0xA5#8 ∧ ¬ o.framing ∧ ¬ o.parity then .inside .empty else .hunting
  | .inside p => if o.framing ∨ o.parity ∨ p.overrun then .faulty else p.take o.octet
  | other => other

/-- The receiver takes octets: it holds neither a good frame nor a faulty one that waits for its own step. -/
def FrameReceiver.takes : FrameReceiver → Bool
  | .hunting => true
  | .inside _ => true
  | _ => false

/-- At most `n` octets from the head of the queue. -/
def takeOctets (r : FrameReceiver) (q : List RxOctet) : Nat → FrameReceiver × List RxOctet
  | 0 => (r, q)
  | n + 1 =>
    match q with
    | [] => (r, [])
    | o :: rest => if r.takes then takeOctets (r.take o) rest n else (r, o :: rest)

def Line.takeOctets (l : Line) (n : Nat) : Line :=
  let x := Machine.takeOctets l.receiver l.queue n
  { l with receiver := x.1, queue := x.2 }

/-- The frame handed on or discarded, the receiver goes back to HUNTING with the next octet (R166). The octets that wait are taken
in the same step (log entry 10, DESIGN CHOICE: R164 and R166 do not say when). -/
def Line.resume (l : Line) : Line := { l with receiver := .hunting }.takeOctets l.queue.length

/-- An octet completes while the queue holds four: it is lost; inside a frame, the frame is marked OVERRUN (R164). -/
def Line.lose (l : Line) : Line :=
  match l.receiver with
  | .inside p => { l with receiver := .inside { p with overrun := true } }
  | _ => l

/-- A completed octet goes to the holding queue (R163, R164). -/
def Line.push (l : Line) (o : RxOctet) : Line :=
  if l.queue.length < 4 then { l with queue := l.queue ++ [o] } else l.lose

/-- The receiver once an octet's bit times are over: the fall of its start bit has shown the line high again, after a FRAMING
error it waits for a high line, and the next octet begins after this one (R161, R163). -/
def Line.completes (l : Line) (framing : Bool) : Line := { l with waitHigh := framing, pastParity := [] }

/-- The receiver after an octet's bit times; a rejected start counts nothing (R163). -/
def Line.receive (l : Line) (p : Parity) (bits : List (BitVec 3)) : Line :=
  match sampleOctet p bits with
  | none => l.completes false
  | some o => (l.completes o.framing).push o

/-- The UART and the frame receiver after a desk restart (R162 to R166): the octet in progress is finished, the frame is dropped;
the record of what was sent stays (log entry 35, DESIGN CHOICE). -/
def Line.restart (l : Line) : Line :=
  { Line.reset with ready := l.ready, octet := l.octet, sent := l.sent }

/-! ## Frames of the center (R167, R206) -/

/-- A good frame of one of the four kinds, with the length of its layout. -/
inductive CenterFrame where
  | taken (reference : Nat)
  | refused (reference : Nat)
  | notice (n : CenterNotice)
  | finished
  deriving DecidableEq, Repr

def payload8 (p : List Byte) (i : Nat) : Nat := (p.getD i 0).toNat
def payload16 (p : List Byte) (i : Nat) : Nat := payload8 p i + 256 * payload8 p (i + 1)
def payload32 (p : List Byte) (i : Nat) : Nat := payload16 p i + 65536 * payload16 p (i + 2)

/-- The frame by its kind and length, or none for a stray one. -/
def RxFrame.parse (f : RxFrame) : Option CenterFrame :=
  if f.kind = 0x81#8 ∧ f.length = 4 then some (.taken (payload32 f.payload 0))
  else if f.kind = 0x82#8 ∧ f.length = 4 then some (.refused (payload32 f.payload 0))
  else if f.kind = 0x83#8 ∧ f.length = 10 then
    some (.notice { borrower := payload32 f.payload 0, action := payload8 f.payload 4, origin := payload16 f.payload 6,
                    day := payload16 f.payload 8 })
  else if f.kind = 0x84#8 ∧ f.length = 0 then some .finished
  else none

/-! ## Frames of the part (R167, R206) -/

/-- The reference a reply must carry (R167). -/
def PartFrame.reference : PartFrame → Nat
  | .opening .. => 0
  | .page _ first _ => first
  | .closing last => last

def bytes16 (n : Nat) : List Byte := [BitVec.ofNat 8 n, BitVec.ofNat 8 (n / 256)]
def bytes32 (n : Nat) : List Byte := bytes16 n ++ bytes16 (n / 65536)

def PartFrame.kindCode : PartFrame → Byte
  | .opening .. => 0x01#8
  | .page .. => 0x02#8
  | .closing .. => 0x03#8

/-- The payload; a PAGE frame's entries are read from desk memory as the frame is sent (R172). -/
def PartFrame.payload (m : Memory) : PartFrame → List Byte
  | .opening branch day minute cut pages => bytes16 branch ++ bytes16 day ++ bytes16 minute ++ bytes32 cut ++ bytes16 pages
  | .page address first count => bytes32 first ++ bytes16 count ++ m.bytes address (32 * count)
  | .closing last => bytes32 last

/-- The octets of a frame: lead, kind, length, payload, CRC with its high octet first (R165). -/
def PartFrame.octets (m : Memory) (f : PartFrame) : List Byte :=
  let body := f.kindCode :: (bytes16 (f.payload m).length ++ f.payload m)
  let crc := crcOf body
  [0xA5#8] ++ body ++ [(crc >>> 8).setWidth 8, crc.setWidth 8]

/-! ## The transmitter (R162) -/

/-- The level of LINE_TX: that of the octet in progress, high between octets (R162). -/
def Line.tx (l : Line) : Bool := l.octet.headD true

/-- A frame is handed to the transmitter, from its first octet; an octet in progress is finished first. -/
def Line.transmit (l : Line) (f : PartFrame) : Line := { l with transmission := some { frame := f, begun := 0 }, sent := [] }

/-- Between two octets: the frame's next octet begins while LINE_RDY is high, with the parity then in force (R161, R162). -/
def State.beginOctet (s : State) : State :=
  match s.line.transmission with
  | none => s
  | some t =>
    match (t.frame.octets s.mem)[t.begun]? with
    | none => s
    | some b =>
      if s.line.ready then
        s.withLine { s.line with
          octet := octetLevels s.settings.parity b
          sent := s.line.sent ++ [octetLevels s.settings.parity b]
          transmission := some { t with begun := t.begun + 1 } }
      else s

/-- One bit time of the transmitter: the octet in progress goes on whatever LINE_RDY does, and the next one follows it with no
gap (R162). -/
def State.transmitBit (s : State) : State :=
  match s.line.octet with
  | _ :: b :: rest => s.withLine { s.line with octet := b :: rest }
  | _ => (s.withLine { s.line with octet := [] }).beginOctet

/-- The rest of the frame's octets, sent with LINE_RDY high (R162). -/
def Line.finish (l : Line) (octets : List Byte) (begun : Nat) (p : Parity) : Line :=
  { l with transmission := none, octet := [], sent := l.sent ++ (octets.drop begun).map (octetLevels p) }

end Sys2Proof.Machine
end

