-- ==== Sys2Proof/Machine/Journal.lean ====
section
/-! DEFINITION. The journal writer (chapter 8): the view of the pages, appends and their images (R150), frees (R155), the cut
(R156), the commit of a transaction through the commit slot (R58 to R60), and the checks and writes of normalization (R159,
R160). -/

namespace Sys2Proof.Machine

open Config

/-! ## Pages -/

def Page.nothing : Page := { address := 0, state := .free, first := 0, count := 0 }

def Journal.page (j : Journal) (p : Nat) : Page := j.pages.getD p .nothing

def Journal.setPage (j : Journal) (p : Nat) (pg : Page) : Journal := { j with pages := j.pages.set p pg }

/-- The page after `p` in index order, cyclically (section 8.2). -/
def Journal.after (j : Journal) (p : Nat) : Nat := (p + 1) % j.pages.length

/-- Address of descriptor `p` (R146, R206). -/
def descriptorAddress (g : Geometry) (p : Nat) : Nat := g.pageTable + 12 * p

/-- The words of a descriptor (R206). -/
def Page.words (pg : Page) : List Nat := words32 pg.address ++ [pg.state.code, pg.count] ++ words32 pg.first

/-- The single access that changes a page's state (R146, R155). -/
def stateWord (g : Geometry) (p : Nat) (st : PageState) : WordWrite :=
  { addr := descriptorAddress g p + 4, word := st.code }

/-- The indices of the non-FREE pages, oldest first (section 8.2). -/
def Journal.ring (j : Journal) : List Nat :=
  match j.oldest, j.newest with
  | some o, some n =>
    (List.range ((n + j.pages.length - o) % j.pages.length + 1)).map fun k => (o + k) % j.pages.length
  | _, _ => []

/-- Room as R149 gives it from the pages. -/
def roomOf (pages : List Page) : Nat :=
  (pages.map fun p => match p.state with | .free => 32 | .filling => 32 - p.count | _ => 0).sum

/-- The FULL pages standing at the old end of the journal (R158, step 2). -/
def Journal.fullAtOldEnd (j : Journal) : Nat := (j.ring.takeWhile fun p => (j.page p).state == .full).length

/-! ## The journal counter group (R148, R206) -/

/-- The body of the group outside a commit, from its offset 2: next page and next sequence; marks omitted is not touched. -/
def journalGroupBody (a nextPage nextSequence : Nat) : List WordWrite := putWords (a + 2) (nextPage :: words32 nextSequence)

/-- The group as a COUNTED image (R150). -/
def journalGroupImage (m : Memory) (a nextPage nextSequence : Nat) : Image :=
  { target := a
    counted := true
    words := [(m.read16 a + 2) % 65536, nextPage] ++ words32 nextSequence ++ [m.read16 (a + 8), 0, 0, 0] }

/-! ## Appends (R150, R151) -/

/-- What an append does: the entry's target, the writer's images, and the view at the release of the slot. -/
structure Append where
  target : Nat
  images : List Image
  view : Journal
  deriving DecidableEq, Repr

def descriptorImage (g : Geometry) (p : Nat) (pg : Page) : Image :=
  { target := descriptorAddress g p, counted := false, words := pg.words }

/-- The view with one entry more: room lower by 1, the next sequence higher by 1 (R149, R151). -/
def Journal.consume (j : Journal) : Journal :=
  { j with nextSequence := wrap32 (j.nextSequence + 1), room := j.room - 1 }

/-- The append to FILLING page `p` (first and second case of R150). -/
def Journal.appendTo (j : Journal) (g : Geometry) (m : Memory) (group p : Nat) : Append :=
  let pg := j.page p
  let target := pg.address + 32 * pg.count
  if pg.count + 1 < 32 then
    let pg1 := { pg with count := pg.count + 1 }
    { target := target, images := [descriptorImage g p pg1], view := (j.setPage p pg1).consume }
  else
    let pg1 := { pg with state := PageState.full, count := 32 }
    let j1 := j.setPage p pg1
    let q := j.after p
    let seq := wrap32 (j.nextSequence + 1)
    if (j1.page q).state = .free then
      let pq := { j1.page q with state := PageState.filling, first := seq, count := 0 }
      { target := target
        images := [descriptorImage g p pg1, descriptorImage g q pq]
        view := { j1.setPage q pq with filling := some q, newest := some q, nextPage := j.after q }.consume }
    else
      { target := target
        images := [descriptorImage g p pg1, journalGroupImage m group q seq]
        view := { j1 with filling := none, nextPage := q }.consume }

/-- The append when no page is FILLING (third case of R150). -/
def Journal.appendFresh (j : Journal) (g : Geometry) : Append :=
  let p := j.nextPage
  let pg := { j.page p with state := PageState.filling, first := j.nextSequence, count := 1 }
  { target := pg.address
    images := [descriptorImage g p pg]
    view := { j.setPage p pg with
              filling := some p, newest := some p, oldest := some (j.oldest.getD p), nextPage := j.after p }.consume }

/-- The append of one entry; `group` is the address of the journal counter group. -/
def Journal.append (j : Journal) (g : Geometry) (m : Memory) (group : Nat) : Append :=
  match j.filling with
  | some p => j.appendTo g m group p
  | none => j.appendFresh g

/-! ## The commit slot (R58 to R60, layout in R206) -/

/-- The fill of image `i` (step 3 of R59); bytes past the image's length are left (log entry 18, DESIGN CHOICE). -/
def fillImage (slot i : Nat) (im : Image) : List WordWrite :=
  putWords (slot + 40 + 72 * i) (words32 im.target ++ [2 * im.words.length, bitOf im.counted 0] ++ im.words)

def fillImages (slot i : Nat) : List Image → List WordWrite
  | [] => []
  | im :: ims => fillImage slot i im ++ fillImages slot (i + 1) ims

/-- The opening pass (R60). -/
def openingPass (ims : List Image) : List WordWrite :=
  (ims.filter Image.counted).map fun im => { addr := im.target, word := (im.words.headD 0 + 65535) % 65536 }

/-- The body pass (R60): a COUNTED image from its third byte. -/
def bodyPass (ims : List Image) : List WordWrite :=
  ims.flatMap fun im => if im.counted then putWords (im.target + 2) im.words.tail else putWords im.target im.words

/-- The closing pass (R60). -/
def closingPass (ims : List Image) : List WordWrite :=
  (ims.filter Image.counted).map fun im => { addr := im.target, word := im.words.headD 0 }

/-- Step 3 of R59: images, image count, entry image. -/
def fillWrites (slot : Nat) (ims : List Image) (target : Nat) (entry : List Nat) : List WordWrite :=
  fillImages slot 0 ims ++ [{ addr := slot + 2, word := ims.length }] ++ putWords (slot + 4) (words32 target)
    ++ putWords (slot + 8) entry

def armWrite (slot : Nat) : WordWrite := { addr := slot, word := 1 }

def emptyWrite (slot : Nat) : WordWrite := { addr := slot, word := 0 }

/-- Steps 5 and 6 of R59, which a replay makes too (R62). -/
def applyWrites (ims : List Image) (target : Nat) (entry : List Nat) : List WordWrite :=
  openingPass ims ++ bodyPass ims ++ closingPass ims ++ putWords target entry

/-- Every write of a commit, in order (steps 3 to 7 of R59). -/
def commitWrites (slot : Nat) (ims : List Image) (target : Nat) (entry : List Nat) : List WordWrite :=
  fillWrites slot ims target entry ++ [armWrite slot] ++ applyWrites ims target entry ++ [emptyWrite slot]

/-! ## Frees and hand-overs of pages (R155) -/

/-- The view after the oldest page has been freed. -/
def Journal.freeOldest (j : Journal) : Journal :=
  match j.oldest with
  | none => j
  | some p =>
    { j.setPage p { j.page p with state := PageState.free } with
      oldest := if j.newest = some p then none else some (j.after p)
      newest := if j.newest = some p then none else j.newest
      cutCount := j.cutCount - 1
      room := j.room + 32 }

/-- The day sweep is told that room has risen from 0: a DEFERRED sweep becomes RUNNING (R140, R152). -/
def Sweep.resume (w : Sweep) : Sweep := if w.state = .deferred then { w with state := .running } else w

/-- One page freed (R155). -/
def State.freeOldestPage (s : State) : State :=
  match s.journal.oldest with
  | none => s
  | some p =>
    let s1 := (s.writeAll [stateWord s.geometry p .free]).withJournal s.journal.freeOldest
    if s.journal.room = 0 then s1.withSweep s.sweep.resume else s1

/-- `n` pages freed, oldest first (R158, step 3). -/
def State.freePages (s : State) : Nat → State
  | 0 => s
  | n + 1 => s.freeOldestPage.freePages n

/-- The page the writer would hand over for sending: the oldest, when FULL and in the cut (R155). -/
def Journal.sendable (j : Journal) : Option Nat :=
  match j.oldest with
  | some p => if (j.page p).state = .full ∧ 0 < j.cutCount then some p else none
  | none => none

/-- A change of one page's state, in the view and by one access (R155). -/
def State.setPageState (s : State) (p : Nat) (st : PageState) : State :=
  (s.writeAll [stateWord s.geometry p st]).withJournal (s.journal.setPage p { s.journal.page p with state := st })

/-- The SENDING page, which is always the oldest (R155). -/
def Journal.sendingPage (j : Journal) : Option Nat :=
  match j.oldest with
  | some p => if (j.page p).state = .sending then some p else none
  | none => none

/-! ## JOURNAL_LOW (R152) -/

/-- Room has fallen from above 64 to 64 or below. -/
def fellLow (before after : Nat) : Bool := decide (reserve < before) && decide (after ≤ reserve)

/-! ## The cut (R156) -/

/-- What a cut does: its writes and the view after it. -/
structure Cut where
  writes : List WordWrite
  view : Journal
  deriving DecidableEq, Repr

def fullPages (pages : List Page) : Nat := (pages.filter fun p => p.state == .full).length

/-- The cut (R156): a FILLING page holding entries is closed; the FULL pages are its count. -/
def Journal.cut (j : Journal) (g : Geometry) (m : Memory) (group : Nat) : Cut :=
  match j.filling with
  | some p =>
    if (j.page p).count = 0 then { writes := [], view := { j with cutCount := fullPages j.pages } }
    else
      let j1 := { j.setPage p { j.page p with state := PageState.full } with filling := none, nextPage := j.after p }
      { writes := groupWrites m group (journalGroupBody group (j.after p) j.nextSequence) ++ [stateWord g p .full]
        view := { j1 with room := j.room - (32 - (j.page p).count), cutCount := fullPages j1.pages } }
  | none => { writes := [], view := { j with cutCount := fullPages j.pages } }

/-- The last sequence written (R156). -/
def Journal.lastSequence (j : Journal) : Nat := wrap32 (j.nextSequence + 4294967295)

/-! ## Normalization (R159, R160) -/

/-- A descriptor as it stands in desk memory; none when its state is not one of the four (check 1). -/
def readPage (m : Memory) (a : Nat) : Option Page :=
  (PageState.ofCode (m.read16 (a + 4))).map fun st =>
    { address := m.read32 a, state := st, first := m.read32 (a + 8), count := m.read16 (a + 6) }

def pagesOverlap (a b : Page) : Bool := decide (a.address < b.address + 1024) && decide (b.address < a.address + 1024)

/-- The first index, from `i` on, at which `bad` holds of the pages before it, its index and the page. -/
def firstBad (bad : List Page → Nat → Page → Bool) (before : List Page) (i : Nat) : List Page → Option Nat
  | [] => none
  | p :: ps => if bad before i p then some i else firstBad bad (before ++ [p]) (i + 1) ps

/-- Check 2 of R159. -/
def badPlace (g : Geometry) (before : List Page) (_ : Nat) (p : Page) : Bool :=
  p.address % 32 != 0 || !g.inWindow p.address 1024 || before.any (pagesOverlap p)

/-- Check 3 of R159. -/
def badCount (_ : List Page) (_ : Nat) (p : Page) : Bool :=
  match p.state with
  | .filling => decide (31 < p.count)
  | .full => p.count == 0 || decide (32 < p.count)
  | .sending => p.count == 0 || decide (32 < p.count)
  | .free => false

/-- Check 4 of R159. -/
def badSecond (before : List Page) (_ : Nat) (p : Page) : Bool :=
  (p.state == .filling && before.any fun q => q.state == .filling)
    || (p.state == .sending && before.any fun q => q.state == .sending)

/-- The newest non-FREE page (check 5 of R159), none when every page is FREE. `next` is the group's next page. -/
def newestPage (pages : List Page) (next : Nat) : Option Nat :=
  let n := pages.length
  match pages.findIdx? fun p => p.state == .filling with
  | some i => some i
  | none =>
    if pages.all fun p => p.state == .free then none
    else if pages.all fun p => p.state != .free then some ((next + n - 1) % n)
    else (List.range n).find? fun i =>
      (pages.getD i .nothing).state != .free && (pages.getD ((i + 1) % n) .nothing).state == .free

/-- The run of the non-FREE pages, oldest first, when `newest` is its newest page. -/
def runOf (pages : List Page) (newest : Nat) : List Nat :=
  let n := pages.length
  let k := (pages.filter fun p => p.state != .free).length
  (List.range k).map fun i => (newest + n + 1 + i - k) % n

/-- The first place along a run whose first sequence does not follow its predecessor (check 7 of R159). -/
def badSequence (pages : List Page) : List Nat → Option Nat
  | a :: b :: r =>
    let pa := pages.getD a .nothing
    if wrap32 (pa.first + pa.count) = (pages.getD b .nothing).first then badSequence pages (b :: r) else some b
  | _ => none

/-- The shape of a page table that passes R159. -/
structure JournalShape where
  pages : List Page
  newest : Option Nat
  deriving DecidableEq, Repr

/-- A failed check names a page, or the journal counter group (check 8). -/
inductive ShapeFault where
  | page (p : Nat)
  | group
  deriving DecidableEq, Repr

def toShapeFault : Option Nat → Except ShapeFault Unit
  | some p => .error (.page p)
  | none => .ok ()

/-- Checks 5 to 7 of R159, on the run that ends with `newest`. -/
def checkRun (pages : List Page) (newest : Nat) : Except ShapeFault Unit := do
  let run := runOf pages newest
  toShapeFault ((List.range pages.length).find? fun i => (pages.getD i .nothing).state != .free && !run.contains i)
  toShapeFault ((List.range pages.length).find? fun i =>
    (pages.getD i .nothing).state == .sending && run.head? != some i)
  toShapeFault (badSequence pages run)

/-- The checks of R159, first to last. -/
def checkJournal (g : Geometry) (m : Memory) (group : Nat) : Except ShapeFault JournalShape := do
  let read := (List.range g.pageCount).map fun i => readPage m (descriptorAddress g i)
  toShapeFault (read.findIdx? Option.isNone)
  let pages := read.map fun p => p.getD .nothing
  toShapeFault (firstBad (badPlace g) [] 0 pages)
  toShapeFault (firstBad badCount [] 0 pages)
  toShapeFault (firstBad badSecond [] 0 pages)
  let next := m.read16 (group + 2)
  let ringed := pages.all (fun p => p.state != .free) && !pages.any fun p => p.state == .filling
  if ringed && decide (g.pageCount ≤ next) then .error .group
  else do
    match newestPage pages next with
    | some i => checkRun pages i
    | none => pure ()
    if g.pageCount ≤ next then .error .group else pure { pages := pages, newest := newestPage pages next }

/-- The page that step 2 of R160 makes FILLING, with its first sequence. -/
def freshPage (sh : JournalShape) (groupNext groupSequence : Nat) : Option (Nat × Nat) :=
  let n := sh.pages.length
  if sh.pages.any fun p => p.state == .filling then none
  else match sh.newest with
    | none => some (groupNext % n, groupSequence)
    | some i =>
      let q := (i + 1) % n
      if (sh.pages.getD q .nothing).state = .free then
        some (q, wrap32 ((sh.pages.getD i .nothing).first + (sh.pages.getD i .nothing).count))
      else none

/-- The pages after steps 1 and 2 of R160. -/
def normalizedPages (sh : JournalShape) (fresh : Option (Nat × Nat)) : List Page :=
  let ps := sh.pages.map fun p => if p.state = .sending then { p with state := PageState.full } else p
  match fresh with
  | none => ps
  | some (q, seq) => ps.set q { ps.getD q .nothing with state := PageState.filling, first := seq, count := 0 }

/-- The view after normalization (R160, steps 3 to 5). -/
def normalizedView (sh : JournalShape) (m : Memory) (group : Nat) : Journal :=
  let next := m.read16 (group + 2)
  let fresh := freshPage sh next (m.read32 (group + 4))
  let pages := normalizedPages sh fresh
  let n := pages.length
  let newest := match fresh with
    | some (q, _) => some q
    | none => sh.newest
  let seq := match newest with
    | some i => wrap32 ((pages.getD i .nothing).first + (pages.getD i .nothing).count)
    | none => m.read32 (group + 4)
  { pages := pages
    oldest := newest.map fun i => (runOf pages i).headD i
    newest := newest
    filling := pages.findIdx? fun p => p.state == .filling
    nextSequence := seq
    nextPage := match newest with
      | some i => (i + 1) % n
      | none => next
    room := roomOf pages
    cutCount := 0 }

/-- The writes of normalization, in the order of R160. -/
def normalizationWrites (g : Geometry) (m : Memory) (group : Nat) (sh : JournalShape) : List WordWrite :=
  let view := normalizedView sh m group
  let sending := (List.range sh.pages.length).filter fun i => (sh.pages.getD i .nothing).state == .sending
  let fresh := match freshPage sh (m.read16 (group + 2)) (m.read32 (group + 4)) with
    | none => []
    | some (q, seq) =>
      putWords (descriptorAddress g q + 8) (words32 seq) ++ [{ addr := descriptorAddress g q + 6, word := 0 }]
        ++ [stateWord g q .filling]
  (sending.map fun p => stateWord g p .full) ++ fresh
    ++ groupWrites m group (journalGroupBody group view.nextPage view.nextSequence)

end Sys2Proof.Machine
end

