-- ==== Sys2Proof/Machine/Center.lean ====
section
/-! DEFINITION. The upload state machine (R168 to R177): the upload report and the line counter group, the frames sent and
answered, notices, the end of an upload, and the meanings of the center line's steps and of START_UPLOAD and ABORT_UPLOAD. -/

namespace Sys2Proof.Machine

/-! ## Report and line group (R177, places in R206) -/

def offEndReason : Nat := offReport + 2
def offPagesSent : Nat := offReport + 14
def offPagesTaken : Nat := offReport + 16
def offApplied : Nat := offReport + 18
def offIgnored : Nat := offReport + 20
def offDropped : Nat := offReport + 22
def offRetries : Nat := offReport + 24
def offStray : Nat := offReport + 26
def offLineErrors : Nat := offLine + 2
def offStartsSkipped : Nat := offLine + 4

/-- The writes of one field of a group under its change count (R55, R177). The group's other bytes stay, the unnamed ones too (log
entry 33, DESIGN CHOICE: R206 has unnamed bytes written 0 and does not say with which write). -/
def State.fieldWrites (s : State) (group off v : Nat) : List WordWrite :=
  s.groupWrites group (putWords (s.desk.anchor + off) [v])

/-- One field of a group is written, while the desk is OPEN or HALTED (R177). -/
def State.writeField (s : State) (group off v : Nat) : State :=
  if s.attached then s.writeAll (s.fieldWrites group off v) else s

/-- A 16-bit count raised by 1, saturating (R177, log entry 13, DEDUCED). -/
def State.raised16 (s : State) (off : Nat) : Nat := sat16 (s.anchor16 off + 1)

def State.count16 (s : State) (group off : Nat) : State := s.writeField group off (s.raised16 off)

def State.countReport (s : State) (off : Nat) : State := s.count16 offReport off

/-- The writes of the whole report at the cut, the stray count kept (step 2 of R170). -/
def State.cutReport (s : State) (start : Stamp) (cut pages : Nat) : List WordWrite :=
  s.groupWrites offReport
    (putWords (s.desk.anchor + offReport + 2)
      ([EndReason.running.code, start.day, start.minute] ++ words32 cut ++ [pages, 0, 0, 0, 0, 0, 0, s.anchor16 offStray, 0, 0]))

def State.writeReport (s : State) (start : Stamp) (cut pages : Nat) : State := s.writeAll (s.cutReport start cut pages)

/-! ## Frames sent (R162, R171) -/

/-- A frame is sent for the first time. -/
def State.sendFrame (s : State) (f : PartFrame) : State :=
  (s.withUpload { s.upload with frame := some f, asking := false, sends := 1, replyTimer := none }).withLine
    (s.line.transmit f)

/-- The frame in hand is sent again (R171). -/
def State.resendFrame (s : State) (f : PartFrame) : State :=
  (s.countReport offRetries).withUpload { s.upload with sends := s.upload.sends + 1, replyTimer := none }
    |>.withLine (s.line.transmit f)

/-! ## The end of an upload (R175) -/

/-- The upload becomes IDLE (step 6), which ends an ABORT_UPLOAD that waits (R176). -/
def State.uploadIdle (s : State) : State :=
  let s1 := s.withUpload { Upload.reset with endReason := s.upload.endReason, startStamp := s.upload.startStamp,
                                             cutSequence := s.upload.cutSequence }
  match s.currentOrder.map TakenOrder.wait with
  | some (.uploadIdle n) => s1.finishOrder (.done n)
  | _ => s1

/-- Steps 4 to 6, once nothing granted is awaited. -/
def State.finishEnding (s : State) : State :=
  if s.upload.cutMade then
    (s.writeField offReport offEndReason s.upload.endReason.code).withUpload { s.upload with endedMark := .standing }
  else s.uploadIdle

/-- Something granted is awaited to its hand-over (step 3). -/
def Upload.awaits (u : Upload) : Bool :=
  (match u.held with | some h => h.granted | none => false) || u.startedMark == .granted

/-- Step 3: what stands and is not granted is withdrawn. -/
def Upload.withdraw (u : Upload) : Upload :=
  { u with held := u.held.filter HeldNotice.granted
           startedMark := if u.startedMark = .standing then .absent else u.startedMark }

/-- The held notice is dropped by step 3. -/
def Upload.dropsHeld (u : Upload) : Bool := match u.held with | some h => !h.granted | none => false

/-- Steps 1 and 2: the timers, the watch and the frame stop, the octet in progress excepted; a page asked for is asked for no
longer; a SENDING page goes back to FULL. -/
def State.stopUpload (s : State) (r : EndReason) : State :=
  let s1 := s.withUpload { s.upload with state := .ending, endReason := r, frame := none, asking := false, sends := 0,
                                         replyTimer := none, noticeTimer := none, watch := false, finishedNoted := false }
    |>.withLine { s.line with transmission := none }
  match s.journal.sendingPage with
  | some p => s1.setPageState p .full
  | none => s1

/-- An upload that is neither IDLE nor ENDING ends (R175). -/
def State.endUpload (s : State) (r : EndReason) : State :=
  if s.upload.state = .idle ∨ s.upload.state = .ending then s
  else
    let s1 := s.stopUpload r
    let s2 := if s1.upload.dropsHeld then s1.countReport offDropped else s1
    let s3 := s2.withUpload s2.upload.withdraw
    if s3.upload.awaits then s3 else s3.finishEnding

/-! ## The upload starts (R169) -/

/-- An upload starts. -/
def State.startUpload (s : State) : State :=
  s.withUpload { Upload.reset with state := .opening, watch := !s.line.ready, startedMark := .standing,
                                   endReason := s.upload.endReason }

/-- The upload minute event (R110, R169). -/
def State.uploadMinute (s : State) : State :=
  if s.desk.state = .opened ∧ s.upload.state = .idle then s.startUpload else s.count16 offLine offStartsSkipped

/-- START_UPLOAD (R169); a desk that halted after the order was taken up refuses it DESK_HALTED (R176, log entry 22, DESIGN CHOICE). -/
def execStartUpload (s : State) : Host.Outcome State Fault Refusal :=
  match s.orderAt kindStartUpload .owner with
  | none => .next s
  | some _ =>
    if s.desk.state = .halted then .next (s.finishOrder (.refused .deskHalted))
    else if s.upload.state ≠ .idle then .next (s.finishOrder (.refused .busy))
    else if s.clock.isSet then .next (s.startUpload.orderWaits .cut)
    else .next (s.finishOrder (.refused .clockUnset))

/-- ABORT_UPLOAD (R176). -/
def execAbortUpload (s : State) : Host.Outcome State Fault Refusal :=
  match s.orderAt kindAbortUpload .owner with
  | none => .next s
  | some _ =>
    match s.upload.state with
    | .idle => .next (s.finishOrder (.done 0))
    | .ending => .next (s.orderWaits (.uploadIdle 0))
    | _ => .next ((s.orderWaits (.uploadIdle 1)).endUpload .aborted)

/-! ## Pages (R172) -/

/-- The journal writer answers: a PAGE frame, or CLOSE when no page is left. -/
def State.nextPage (s : State) : State :=
  match s.journal.sendable with
  | some p =>
    let pg := s.journal.page p
    ((s.setPageState p .sending).countReport offPagesSent).sendFrame (.page pg.address pg.first pg.count)
  | none => (s.withUpload { s.upload with state := .closing }).sendFrame (.closing s.upload.cutSequence)

/-- The next page is asked for. It is handed over at once or, when the writer answers later, at a tick: a RELEASE_PAGES may come
between. Which of the two is a free value (R172, log entry 37, DESIGN CHOICE). -/
def State.askPage (s : State) : State :=
  let s1 := s.withChoices (s.choices + 1)
  if Config.answersLater s.choices then s1.withUpload { s1.upload with asking := true } else s1.nextPage

/-- What the part does of itself when no command waits: one bit time of the transmitter, and the hand-over of a page asked for
(R162, R172, log entry 2, DESIGN CHOICE). -/
def State.tick (s : State) : State :=
  let s1 := s.transmitBit
  if s1.upload.asking then s1.nextPage else s1

/-! ## Replies (R171) -/

/-- A reply the upload waits for: the timer runs, and the reference is that of the frame in hand. -/
def Upload.answers (u : Upload) (reference : Nat) : Bool :=
  u.replyTimer.isSome && (u.frame.map PartFrame.reference) == some reference

/-- The frames the upload state machine takes in its present state (R171, R173). -/
def Upload.accepts (u : Upload) : CenterFrame → Bool
  | .taken reference => u.answers reference
  | .refused reference => u.answers reference
  | .notice _ => u.state == .receivingNotices
  | .finished => u.state == .receivingNotices

/-- A TAKEN moves the upload on by the frame in hand (R171, R173). -/
def State.frameTaken (s : State) (f : PartFrame) (timeout : Nat) : State :=
  match f with
  | .opening .. => (s.withUpload { s.upload with state := .sending, frame := none }).askPage
  | .page .. => ((s.freeOldestPage.countReport offPagesTaken).withUpload { s.upload with frame := none }).askPage
  | .closing _ => s.withUpload { s.upload with state := .receivingNotices, frame := none, noticeTimer := some timeout }

/-- The reply timer expires, or a REFUSED is treated as an expiry (R171). -/
def State.replyExpired (s : State) (f : PartFrame) : State :=
  if s.upload.sends < s.settings.tries then s.resendFrame f else s.endUpload .noReply

/-- The good frame the receiver holds, when the upload takes it. -/
def State.acceptedFrame (s : State) : Option CenterFrame :=
  match s.line.receiver with
  | .good f => f.parse.filter s.upload.accepts
  | _ => none

/-- The receiver goes back to HUNTING and takes what waits (R166). -/
def State.resumeLine (s : State) : State := s.withLine s.line.resume

def State.stopReplyTimer (s : State) : State := s.withUpload { s.upload with replyTimer := none }

/-! ## Meanings -/

/-- FRAME_SENT (R162, R171): the last octet of the frame is sent, and the reply timer is armed. Octets not begun yet need LINE_RDY
high. -/
def execFrameSent (s : State) : Host.Outcome State Fault Refusal :=
  match s.line.transmission with
  | none => .next s
  | some t =>
    if s.line.ready ∨ (t.frame.octets s.mem).length ≤ t.begun then
      .next ((s.withLine (s.line.finish (t.frame.octets s.mem) t.begun s.settings.parity)).withUpload
        { s.upload with replyTimer := some s.settings.replyTimeout })
    else .next s

/-- TAKEN_FRAME (R171, R172). -/
def execTakenFrame (s : State) : Host.Outcome State Fault Refusal :=
  match s.acceptedFrame, s.upload.frame with
  | some (.taken _), some f => .next (s.resumeLine.stopReplyTimer.frameTaken f s.settings.replyTimeout)
  | _, _ => .next s

/-- REFUSED_FRAME (R171). -/
def execRefusedFrame (s : State) : Host.Outcome State Fault Refusal :=
  match s.acceptedFrame, s.upload.frame with
  | some (.refused _), some f => .next (s.resumeLine.stopReplyTimer.replyExpired f)
  | _, _ => .next s

/-- A NOTICE in RECEIVING_NOTICES (R173). -/
def State.takeNotice (s : State) (n : CenterNotice) : State :=
  let s1 := s.withUpload { s.upload with noticeTimer := some s.settings.replyTimeout }
  match s.upload.held with
  | none => s1.withUpload { s1.upload with held := some { notice := n, granted := false } }
  | some _ => s1.countReport offDropped

/-- NOTICE_FRAME (R173). -/
def execNoticeFrame (s : State) : Host.Outcome State Fault Refusal :=
  match s.acceptedFrame with
  | some (.notice n) => .next (s.resumeLine.takeNotice n)
  | _ => .next s

/-- FINISHED_FRAME (R173): the upload ends OK, at once or at the held notice's hand-over. -/
def execFinishedFrame (s : State) : Host.Outcome State Fault Refusal :=
  match s.acceptedFrame with
  | some .finished =>
    match s.upload.held with
    | none => .next (s.resumeLine.endUpload .ok)
    | some _ => .next (s.resumeLine.withUpload { s.upload with finishedNoted := true, noticeTimer := none })
  | _ => .next s

/-- STRAY_FRAME (R167): a good frame that is not taken; counted while the desk is OPEN or HALTED. -/
def execStrayFrame (s : State) : Host.Outcome State Fault Refusal :=
  match s.line.receiver with
  | .good _ => if s.acceptedFrame = none then .next (s.countReport offStray).resumeLine else .next s
  | _ => .next s

/-- A frame is discarded (R166). -/
def State.discardFrame (s : State) : State := ((s.count16 offLine offLineErrors).raise .lineError).resumeLine

/-- FRAME_DISCARD (R166). -/
def execFrameDiscard (s : State) : Host.Outcome State Fault Refusal :=
  match s.line.receiver with
  | .faulty => .next s.discardFrame
  | _ => .next s

/-- FRAME_GAP_TIMEOUT (R166): 200 ms without an octet inside a frame. -/
def execFrameGapTimeout (s : State) : Host.Outcome State Fault Refusal :=
  match s.line.receiver with
  | .inside _ => .next s.discardFrame
  | _ => .next s

/-- RECEIVE_QUEUE_OVERRUN (R163, R164): an octet completes while the queue holds four. Whether its stop bit was low, so that the
receiver waits for a high line, is a free value (log entry 38, DESIGN CHOICE). -/
def execReceiveQueueOverrun (s : State) : Host.Outcome State Fault Refusal :=
  if s.line.queue.length < 4 then .next s
  else .next ((s.withChoices (s.choices + 1)).withLine (s.line.completes (Config.lostFraming s.choices)).lose)

/-- OCTET_RECEIVED (R163, R164, R166). -/
def execOctetReceived (octet : OctetSamples) (taken : Nat) (s : State) : Host.Outcome State Fault Refusal :=
  .next (s.withLine ((s.line.receive (s.line.parityAt s.settings.parity octet.changes) octet.bits).takeOctets taken))

/-- REPLY_TIMEOUT (R171). -/
def execReplyTimeout (s : State) : Host.Outcome State Fault Refusal :=
  match s.upload.replyTimer, s.upload.frame with
  | some _, some f => .next (s.stopReplyTimer.replyExpired f)
  | _, _ => .next s

/-- NOTICE_TIMEOUT (R173). -/
def execNoticeTimeout (s : State) : Host.Outcome State Fault Refusal :=
  if s.upload.noticeTimer.isSome then .next (s.endUpload .noFinish) else .next s

/-- LINE_RDY_CHANGE (R162, R174). -/
def execLineRdyChange (high : Bool) (s : State) : Host.Outcome State Fault Refusal :=
  if high = s.line.ready then .next s
  else
    .next ((s.withLine { s.line with ready := high }).withUpload
      { s.upload with watch := !high && s.upload.state != .idle })

/-- LINE_DOWN_TIMEOUT (R174): the watch reaches 60 s. -/
def execLineDownTimeout (s : State) : Host.Outcome State Fault Refusal :=
  if s.upload.watch ∧ ¬ s.line.ready then .next (s.endUpload .lineDown) else .next s

end Sys2Proof.Machine
end

