-- ==== Sys2Proof/Machine/Label.lean ====
section
/-! DEFINITION. The label symbology and the six stages of a decode (section 1.3 and 1.4 of the manual, R10 to R18). A sweep
is its list of widths in the order of capture. -/

namespace Sys2Proof.Machine

/-- The fourteen characters (R10); `digit d` for 0 to 9, `ten` the check value X. -/
inductive LabelChar where
  | digit (d : Nat)
  | ten | startItem | startBorrower | stop
  deriving DecidableEq, Repr

/-- The character of a pair of wide positions, or none when the pair is unassigned (R10). -/
def charOfPair : Nat → Nat → Option LabelChar
  | 1, 4 => some (.digit 0) | 1, 5 => some (.digit 1) | 1, 6 => some (.digit 2) | 1, 7 => some (.digit 3)
  | 2, 4 => some (.digit 4) | 2, 5 => some (.digit 5) | 2, 6 => some (.digit 6) | 2, 7 => some (.digit 7)
  | 3, 4 => some (.digit 8) | 3, 5 => some (.digit 9) | 3, 6 => some .ten
  | 1, 2 => some .startItem | 1, 3 => some .startBorrower | 2, 3 => some .stop
  | _, _ => none

/-- Positions, from `p` on, of the wide elements among `ws`, `t` being the character's sum (R14). -/
def widePositions (t : Nat) : Nat → List Nat → List Nat
  | _, [] => []
  | p, w :: ws => if 6 * w > t then p :: widePositions t (p + 1) ws else widePositions t (p + 1) ws

/-- Stage 2 on one character: exactly two wide elements forming an assigned pair (R14). -/
def classify (ws : List Nat) : Option LabelChar :=
  match widePositions ws.sum 1 ws with
  | [a, b] => charOfPair a b
  | _ => none

/-- The characters of a sweep of `k` characters: seven elements each, the gap after a character left out (R11). -/
def charWidths : Nat → List Nat → List (List Nat)
  | 0, _ => []
  | k + 1, ws => ws.take 7 :: charWidths k (ws.drop 8)

/-- Stage 3 on neighbouring sums (R15). -/
def speedOk : List Nat → Bool
  | a :: b :: ts => decide (2 * b ≥ a) && decide (b ≤ 2 * a) && speedOk (b :: ts)
  | _ => true

/-- Stage 1 (R13): the number of characters. -/
def charCount (n : Nat) : Option Nat := if n = 103 then some 13 else if n = 87 then some 11 else none

def isStart : Option LabelChar → Bool
  | some .startItem => true
  | some .startBorrower => true
  | _ => false

/-- The outcome of stages 2 and 3 on one order of the widths: the classified characters, or the misread (R14, R15). -/
def classifyAll (k : Nat) (ws : List Nat) : Except Misread (List LabelChar) :=
  match ((charWidths k ws).map classify).mapM id with
  | none => .error .character
  | some cs => if speedOk ((charWidths k ws).map List.sum) then .ok cs else .error .speed

/-- The number d1..dn read as a decimal number (R11). -/
def decimal (ds : List Nat) : Nat := ds.foldl (fun n d => 10 * n + d) 0

/-- The weighted sum of R18, the first digit having weight `w`. -/
def weightedSum : Nat → List Nat → Nat
  | _, [] => 0
  | w, d :: ds => w * d + weightedSum (w + 1) ds

/-- The expected check value (R18). -/
def checkValue (ds : List Nat) : Nat := (11 - weightedSum 2 ds % 11) % 11

/-- A digit in a data position (R17). -/
def dataDigit : LabelChar → Option Nat
  | .digit d => some d
  | _ => none

/-- The check position: a digit, or X for 10 (R17). -/
def checkDigit : LabelChar → Option Nat
  | .digit d => some d
  | .ten => some 10
  | _ => none

/-- Stages 5 and 6 on the characters of a sweep in its chosen order (R16, last paragraph; R17; R18). -/
def readLayout (k : Nat) (dir : Direction) (cs : List LabelChar) : Except Misread Label :=
  match cs.head?, cs.getLast? with
  | some c, some .stop =>
    let kind : Option LabelKind := if c = .startItem ∧ k = 13 then some .item
      else if c = .startBorrower ∧ k = 11 then some .borrower else none
    match kind, ((cs.drop 1).take (k - 3)).mapM dataDigit, (cs[k - 2]?).bind checkDigit with
    | some kd, some ds, some v =>
      if v ≠ checkValue ds ∨ decimal ds = 0 then .error .check
      else .ok { kind := kd, number := decimal ds, direction := dir, tag := .wand }
    | _, _, _ => .error .format
  | _, _ => .error .format

/-- Stages 2 to 6 once the number of characters is known: the trial of R16 chooses the order of the widths. -/
def decodeCharacters (k : Nat) (ws : List Nat) : Except Misread Label :=
  let forward := isStart (((charWidths k ws).head?).bind classify)
  let chosen := if forward then ws else ws.reverse
  let dir : Direction := if forward then .forward else .reversed
  match classifyAll k chosen with
  | .error e => .error e
  | .ok cs => readLayout k dir cs

/-- A decode: the label, or the kind of misread (R12 to R18). -/
def decodeSweep (ws : List Nat) : Except Misread Label :=
  match charCount ws.length with
  | none => .error .format
  | some k => decodeCharacters k ws

end Sys2Proof.Machine
end

