-- ==== Sys2Proof/Machine/Wand.lean ====
section
/-! DEFINITION. The wand channels: element capture, the element queue and its overflow (R1 to R9), the counters (R19), and
the meanings of ELEMENT_END and QUIET_ZONE_BEGIN. The decoder's results are handed on in Machine/Station.lean. -/

namespace Sys2Proof.Machine

/-! ## Counters (R19) -/

/-- A counter change sets the mirror-pending flag (R19). So does an addition to a counter that stays at 65535 (log entry 36, DESIGN
CHOICE: R19 leaves it open). -/
def Channel.withCounters (c : Channel) (k : WandCounters) : Channel := { c with counters := k, mirrorPending := true }

/-- One more NOISE: a discard under R6 or R8. -/
def Channel.countNoise (c : Channel) : Channel :=
  c.withCounters { c.counters with noise := sat16 (c.counters.noise + 1) }

/-- One more misread of a kind (R19). -/
def Channel.countMisread (c : Channel) : Misread → Channel
  | .format => c.withCounters { c.counters with format := sat16 (c.counters.format + 1) }
  | .character => c.withCounters { c.counters with character := sat16 (c.counters.character + 1) }
  | .speed => c.withCounters { c.counters with speed := sat16 (c.counters.speed + 1) }
  | .check => c.withCounters { c.counters with check := sat16 (c.counters.check + 1) }

/-- One more REPEAT: a label dropped by the repeat check (R20). -/
def Channel.countRepeat (c : Channel) : Channel :=
  c.withCounters { c.counters with repeated := sat16 (c.counters.repeated + 1) }

/-! ## Capture -/

/-- The running element lasts `ticks` more wand ticks; the counter stays at 65535 once there (R1). -/
def Channel.advance (c : Channel) (ticks : Nat) : Channel := { c with counter := sat16 (c.counter + ticks) }

/-- The effective width of the running element (R3). -/
def Channel.effectiveWidth (c : Channel) : Nat :=
  (if c.mergePending then (c.last.map Element.width).getD 0 else 0) + c.counter

/-- Entries of the element queue in use; boundary marks use none (section 1.2). -/
def Channel.used (c : Channel) : Nat := (c.complete.map List.length).sum + c.inCapture.length

/-- The discard of the sweep in capture (R8). -/
def Channel.discardSweep (c : Channel) (next : CaptureState) : Channel :=
  { c.countNoise with inCapture := [], last := none, mergePending := false, capture := next }

/-- A push of the last element's width, which discards the sweep when all 128 entries are in use (R7, R8). -/
def Channel.push (c : Channel) (onFull : CaptureState) : Channel :=
  match c.last with
  | none => c
  | some e => if c.used < 128 then { c with inCapture := c.inCapture ++ [e.width] } else c.discardSweep onFull

/-- A true bar ending in QUIET: a sweep begins, unless the queue holds two (R6). -/
def Channel.beginSweep (c : Channel) (e : Element) : Channel :=
  if c.complete.length < 2 then { c with capture := .capturing, inCapture := [], last := some e }
  else { c.countNoise with capture := .settling, last := some e }

/-- A true element ending (case 3 of R3; the table of R5). -/
def Channel.trueElement (c : Channel) (e : Element) : Channel :=
  match c.capture, e.kind with
  | .settling, _ => { c with last := some e }
  | .quiet, .space => { c with last := some e }
  | .quiet, .bar => c.beginSweep e
  | .capturing, _ => { c.push .settling with last := some e }

/-- The level after a change of the wand line. -/
def ElementKind.other : ElementKind → ElementKind
  | .bar => .space
  | .space => .bar

/-- The running element ends at a level change (R1, R3). -/
def Channel.endElement (c : Channel) (glitchLimit : Nat) : Channel :=
  let w := c.counter
  let c1 := { c with counter := 0, level := c.level.other }
  match c.last with
  | none => Channel.trueElement { c1 with mergePending := false } { kind := c.level, width := w }
  | some l =>
    if c.mergePending then { c1 with last := some { l with width := sat16 (l.width + w) }, mergePending := false }
    else if w < glitchLimit then { c1 with last := some { l with width := sat16 (l.width + w) }, mergePending := true }
    else c1.trueElement { kind := c.level, width := w }

/-- The running element has become a quiet zone that has not begun yet (R4, R5). -/
def Channel.quietDue (c : Channel) (quietLimit : Nat) : Bool :=
  c.level == .space && c.capture != .quiet
    && (decide (quietLimit < c.effectiveWidth) || decide (65535 ≤ c.effectiveWidth))

/-- The sweep in capture is complete; the decoder starts on it when idle (R7, R12). -/
def Channel.completeSweep (c : Channel) : Channel :=
  { c with complete := c.complete ++ [c.inCapture], inCapture := [], capture := .quiet,
           decoder := .decoding }

/-- The sweep ends when a quiet zone begins (R7). -/
def Channel.endSweep (c : Channel) : Channel :=
  if c.mergePending then Channel.completeSweep { c with last := none, mergePending := false }
  else if c.used < 128 then (c.push .quiet).completeSweep else c.push .quiet

/-- A quiet zone begins (R5). -/
def Channel.beginQuiet (c : Channel) : Channel :=
  match c.capture with
  | .settling => { c with capture := .quiet }
  | .quiet => c
  | .capturing => c.endSweep

/-- The quiet zone begins if it is due. -/
def Channel.testQuiet (c : Channel) (quietLimit : Nat) : Channel := if c.quietDue quietLimit then c.beginQuiet else c

/-- The decoder completes a sweep: its widths leave the head of the queue, and a waiting sweep is started on (R9, R12). -/
def Channel.releaseSweep (c : Channel) : Channel :=
  { c with complete := c.complete.tail, decoder := if c.complete.tail.isEmpty then .idle else .decoding }

/-- A channel after a desk restart (R22): the line's level and nothing else is kept, and the mirror-pending flag is set. -/
def Channel.restart (c : Channel) : Channel := { Channel.reset with level := c.level, mirrorPending := true }

/-! ## Meanings -/

/-- ELEMENT_END (R1, R3). The quiet-zone test is continuous (R4), so a quiet zone that fell due before the level change has
begun before the element ends. -/
def execElementEnd (wand : Fin 4) (ticks : Nat) (s : State) : Host.Outcome State Fault Refusal :=
  .next (s.setChannel wand
    ((((s.channel wand).advance ticks).testQuiet s.settings.quietLimit).endElement s.settings.glitchLimit))

/-- QUIET_ZONE_BEGIN (R4): the space has lasted `ticks` more; it becomes a quiet zone if its effective width has passed the
limit. -/
def execQuietZoneBegin (wand : Fin 4) (ticks : Nat) (s : State) : Host.Outcome State Fault Refusal :=
  .next (s.setChannel wand (((s.channel wand).advance ticks).testQuiet s.settings.quietLimit))

end Sys2Proof.Machine
end

