-- ==== Sys2Proof/Machine/Station.lean ====
section
/-! DEFINITION. The station contexts (chapter 2): the repeat check (R20), label arrival (R24), the completion of a label (R26),
sessions (R30 to R32), the outcome buffer and the slate writer (R36, R37), the counter mirrors (R19, R38), tones (R39, R40), and
the meanings of the steps that belong to them. -/

namespace Sys2Proof.Machine

open Config

/-! ## Tones (R39, R40) -/

/-- The three patterns of R39. -/
inductive TonePattern where
  | accept | attention | refuse
  deriving DecidableEq, Repr

def TonePattern.steps : TonePattern → List ToneStep
  | .accept => [{ hz := 2000, ms := 120 }]
  | .attention => [{ hz := 1500, ms := 300 }, { hz := 0, ms := 150 }, { hz := 1500, ms := 300 }]
  | .refuse =>
    [{ hz := 1000, ms := 100 }, { hz := 0, ms := 100 }, { hz := 1000, ms := 100 }, { hz := 0, ms := 100 },
     { hz := 1000, ms := 100 }]

/-- The nearest whole number of SYSCLK periods, a half rounded up (R40). -/
def tonePeriod (hz : Nat) : Nat := (2 * sysclkHz + hz) / (2 * hz)

/-- What a step's start latches; a gap keeps the period of the tone before it (R40). -/
def ToneStep.output (st : ToneStep) (before : Option ToneOutput) : ToneOutput :=
  if st.hz = 0 then { period := (before.map ToneOutput.period).getD 0, duty := 0 }
  else { period := tonePeriod st.hz, duty := tonePeriod st.hz / 2 }

/-- Latches the first of some steps, or stops. -/
def ToneGen.latch (g : ToneGen) : List ToneStep → ToneGen
  | [] => .silent
  | st :: rest => { output := some (st.output g.output), steps := st :: rest, next := none, stopping := false }

/-- A pattern is started (R40). One started while the generator runs out its period after a desk restart, neither silent nor
sounding a pattern, takes the stop back and is latched at the boundary (log entry 36, DESIGN CHOICE). -/
def ToneGen.start (g : ToneGen) (p : TonePattern) : ToneGen :=
  match g.output with
  | none => g.latch p.steps
  | some _ => { g with next := some p.steps, stopping := false }

/-- A desk restart: the pattern is dropped, the generator stops at the end of its period (R40). -/
def ToneGen.stop (g : ToneGen) : ToneGen :=
  match g.output with
  | none => .silent
  | some _ => { g with steps := [], next := none, stopping := true }

/-- A period boundary at which `steps` is what the old pattern would go on with. -/
def ToneGen.boundary (g : ToneGen) (steps : List ToneStep) : ToneGen :=
  if g.stopping then .silent
  else match g.next with
    | some p => g.latch p
    | none => g.latch steps

/-! ## Sessions (R30, R31) -/

/-- A session entry as a slip record holds it: its flags are HOUR_LOAN, CLAMPED and RENEWED alone (R180, R184). -/
def SessionItem.forSlip (e : SessionItem) : SessionItem :=
  { e with flags := { e.flags with limited := false, holdFulfilled := false } }

/-- The DUE_DATE slip of a session list (R180). -/
def dueDateSlip (i : Fin 4) (reading : Option Stamp) (borrower : Nat) (items : List SessionItem) : Slip :=
  { kind := .dueDate, station := some i, stamp := reading, borrower := borrower, entries := items.map SessionItem.forSlip,
    holdBorrower := 0, deadline := 0, text := [] }

/-- A state and whether a slip request made on the way was lost. -/
abbrev Requested := State × Bool

/-- The DUE_DATE slip of station `i` is requested when the list holds an entry and the slip flag is set (R31). -/
def State.requestDueDate (s : State) (i : Fin 4) : Requested :=
  let t := s.station i
  if t.items ≠ [] ∧ s.settings.slipFlags.getLsbD i.val then
    (s.requestSlip (dueDateSlip i s.reading ((t.session.map Session.number).getD 0) t.items), s.slipLost)
  else (s, false)

/-- A session closes (R31). -/
def State.closeSession (s : State) (i : Fin 4) : Requested :=
  if (s.station i).session.isNone then (s, false)
  else
    let r := s.requestDueDate i
    (r.1.setStation i { r.1.station i with session := none, items := [] }, r.2)

/-- The list entry of the same item takes the new one's place (R30). -/
def replaceItem (e : SessionItem) : List SessionItem → List SessionItem
  | [] => []
  | x :: xs => if x.item = e.item then e :: xs else x :: replaceItem e xs

/-- A committed loan is recorded in the session item list (R30). -/
def State.recordItem (s : State) (i : Fin 4) (e : SessionItem) : Requested :=
  let t := s.station i
  if t.items.any fun x => x.item == e.item then (s.setStation i { t with items := replaceItem e t.items }, false)
  else if t.items.length < 12 then (s.setStation i { t with items := t.items ++ [e] }, false)
  else
    let r := s.requestDueDate i
    (r.1.setStation i { r.1.station i with items := [e] }, r.2)

/-! ## Outcomes and the outcome buffer (R35, R36) -/

/-- An outcome that names nothing. -/
def SlateOutcome.bare (r : Reason) : SlateOutcome :=
  { refused := false, reason := r, borrower := 0, item := 0, due := .zero, fine := 0, blocks := .empty, itemState := none,
    sessionItems := 0, slipLost := false, keyed := false }

/-- The DISCARDED outcome of a label (R24, R35). -/
def Label.discarded (l : Label) (count : Nat) : SlateOutcome :=
  match l.kind with
  | .item => { SlateOutcome.bare .discarded with item := l.number, sessionItems := count }
  | .borrower => { SlateOutcome.bare .discarded with borrower := l.number, sessionItems := count }

def SlateOutcome.isDiscarded (o : SlateOutcome) : Bool := o.reason == .discarded

/-- The buffer holds nothing, or a DISCARDED outcome that may be replaced (R36). -/
def Station.bufferOpen (t : Station) : Bool :=
  match t.buffer with
  | none => true
  | some o => o.isDiscarded

/-- A DISCARDED outcome is offered: it enters, replaces another, or is dropped (R36). -/
def Station.offerDiscarded (t : Station) (o : SlateOutcome) : Station :=
  if t.bufferOpen then { t with buffer := some o } else t

/-- Any other outcome is offered at once only when none waits before it (R36, log entry 21, DESIGN CHOICE). -/
def Station.canEnter (t : Station) : Bool := t.bufferOpen && t.waiting.isEmpty

/-- The outcome enters, or joins those that wait. -/
def Station.offer (t : Station) (o : SlateOutcome) (p : Producer) : Station :=
  if t.canEnter then { t with buffer := some o } else { t with waiting := t.waiting ++ [(o, p)] }

/-! ## Arrival of labels (R20, R24) -/

/-- The idle deadline is armed (R32). -/
def Station.arm (t : Station) (timeout : Nat) : Station := { t with deadline := some timeout }

/-- A label enters the slot (R24). -/
def Station.enterSlot (t : Station) (l : Label) (timeout : Nat) : Station := { t with slot := some l }.arm timeout

/-- A wand label is discarded for a full slot: outcome and REFUSE tone (R24). -/
def Station.discard (t : Station) (l : Label) : Station :=
  { t.offerDiscarded (l.discarded t.items.length) with tone := t.tone.start .refuse }

/-- A wand label arrives at station `i` (R21, R24, R38). -/
def State.wandArrival (s : State) (i : Fin 4) (l : Label) : State :=
  let t := s.station i
  if t.mode = .closed then
    (s.setStation i { t with closedScans := sat16 (t.closedScans + 1) }).setChannel i
      { s.channel i with mirrorPending := true }
  else if t.slot.isNone then s.setStation i (t.enterSlot l s.settings.sessionTimeout)
  else s.setStation i (t.discard l)

/-- The repeat timer restarts with the full window; a window of 0 never runs (R20). -/
def repeatTimerFor (window : Nat) : Option Nat := if window = 0 then none else some window

/-- The repeat check (R20). A timer armed under an old window runs to its expiry (R2) also when the window is now 0, and the same
label decoded meanwhile is dropped (log entry 36, DESIGN CHOICE: R20 also says that with a window of 0 every label is
delivered). -/
def State.repeatCheck (s : State) (i : Fin 4) (l : Label) : State :=
  let t := { s.station i with repeatTimer := repeatTimerFor s.settings.repeatWindow }
  if (s.station i).repeatTimer.isSome ∧ (s.station i).lastLabel = some (l.kind, l.number) then
    (s.setStation i t).setChannel i (s.channel i).countRepeat
  else (s.setStation i { t with lastLabel := some (l.kind, l.number) }).wandArrival i l

/-- DECODE_COMPLETE (R12, R9): the oldest complete sweep's result is handed on, and its entries are freed. -/
def execDecodeComplete (wand : Fin 4) (s : State) : Host.Outcome State Fault Refusal :=
  let c := s.channel wand
  match c.decoder, c.complete with
  | .decoding, ws :: _ =>
    let s1 := s.setChannel wand c.releaseSweep
    match decodeSweep ws with
    | .error m => .next (s1.setChannel wand (c.releaseSweep.countMisread m))
    | .ok l => .next (s1.repeatCheck wand l)
  | _, _ => .next s

/-- REPEAT_TIMER_EXPIRE (R20): the timer stops; the last label is kept. -/
def execRepeatTimerExpire (station : Fin 4) (s : State) : Host.Outcome State Fault Refusal :=
  .next (s.setStation station { s.station station with repeatTimer := none })

/-! ## Requests to the engine (R25, R27 to R29) -/

/-- The interpretation of a label, which mode and session fix at the grant (R27 to R29); none in CLOSED. -/
def Station.interpretation (t : Station) (l : Label) : Option TxnKind :=
  match t.mode, l.kind with
  | .closed, _ => none
  | .returning, .item => some .returnItem
  | .returning, .borrower => some .wrongLabel
  | .inquiry, .item => some .itemInquiry
  | .inquiry, .borrower => some .borrowerInquiry
  | .checkout, .item => some (if t.session.isSome then .checkout else .noBorrower)
  | .renew, .item => some (if t.session.isSome then .renewal else .noBorrower)
  | .checkout, .borrower | .renew, .borrower =>
    match t.session with
    | none => some (.sessionOpen false)
    | some se => some (if se.number = l.number then .sessionRefresh else .sessionOpen true)

/-- What the station asks the engine for, while it stands (R25). -/
def Station.request (t : Station) : Option (Label × TxnKind) :=
  match t.slot with
  | none => none
  | some l => if t.inFlight.isSome ∨ t.modeWait then none else (t.interpretation l).map fun k => (l, k)

/-- A label is pending or in flight (check 4 of R56). -/
def Station.busy (t : Station) : Bool := t.slot.isSome || t.inFlight.isSome

def State.stationsBusy (s : State) : Bool :=
  (s.station 0).busy || (s.station 1).busy || (s.station 2).busy || (s.station 3).busy

/-- The grant moves the label from the slot to in flight (R25). -/
def Station.grant (t : Station) : Station := { t with inFlight := t.slot, slot := none }

/-! ## Completion (R26) -/

/-- The result the engine hands to a station (R89). -/
structure StationResult where
  refused : Bool
  reason : Reason
  borrower : Nat := 0
  item : Nat := 0
  due : Stamp := .zero
  fine : Nat := 0
  blocks : Blocks := .empty
  itemState : Option ItemState := none
  opens : Option Session := none
  entry : Option SessionItem := none
  trapped : Bool := false
  deriving DecidableEq, Repr

/-- The tone an outcome calls for (R39); NOT_ON_LOAN sounds ACCEPT in RETURN and REFUSE in RENEW. -/
def StationResult.tone (r : StationResult) (m : Mode) : TonePattern :=
  if r.refused then (if r.reason = .borrowerBlocked then .attention else .refuse)
  else if r.trapped ∨ r.reason = .alreadyOnHoldShelf then .attention
  else if r.reason = .notOnLoan ∧ m = .renew then .refuse
  else .accept

/-- Whether R35 gives the outcome a session item count: every outcome but the three of a return. -/
def StationResult.counts (r : StationResult) (m : Mode) : Bool :=
  r.refused || !(r.reason == .returned || r.reason == .alreadyOnHoldShelf || (r.reason == .notOnLoan && m != .renew))

/-- The outcome fields of R35 that a result gives, with the session item count after step 2 and the slips lost. -/
def StationResult.outcome (r : StationResult) (m : Mode) (count : Nat) (lost keyed : Bool) : SlateOutcome :=
  { refused := r.refused, reason := r.reason, borrower := r.borrower, item := r.item, due := r.due, fine := r.fine,
    blocks := r.blocks, itemState := r.itemState, sessionItems := if r.counts m then count else 0, slipLost := lost,
    keyed := keyed }

/-- Step 1 of R26: a borrower label for another borrower closes the session first (R27). -/
def State.closeBefore (s : State) (i : Fin 4) (k : TxnKind) : Requested :=
  match k with
  | .sessionOpen true => s.closeSession i
  | _ => (s, false)

/-- A refusal that closes the session (R28). -/
def StationResult.closes (r : StationResult) : Bool :=
  r.refused && (r.reason == .borrowerBlocked || r.reason == .unknownBorrower)

/-- Step 2 of R26. -/
def State.applyResult (s : State) (i : Fin 4) (r : StationResult) : Requested :=
  match r.opens, r.entry with
  | some se, _ => (s.setStation i { s.station i with session := some se, items := [] }, false)
  | none, some e => s.recordItem i e
  | none, none => if r.closes then s.closeSession i else (s, false)

/-- Step 6 of R26. -/
def Station.settle (t : Station) (timeout : Nat) : Station := { t with inFlight := none }.arm timeout

/-- A station takes up the result of its label in flight (R26); `lost`: a HOLD slip of this return was lost. -/
def State.completeLabel (s : State) (i : Fin 4) (k : TxnKind) (r : StationResult) (lost : Bool) : State :=
  let a := s.closeBefore i k
  let b := a.1.applyResult i r
  let t := b.1.station i
  let keyed := (t.inFlight.map Label.tag) == some .keyed
  let o := r.outcome t.mode t.items.length (lost || a.2 || b.2) keyed
  let t1 := { t with tone := t.tone.start (r.tone t.mode) }.offer o .completion
  b.1.setStation i (if t.canEnter then t1.settle b.1.settings.sessionTimeout else t1)

/-! ## Idle close (R32) -/

/-- The SESSION_CLOSED outcome of a close (R31, R35). -/
def sessionClosedOutcome (borrower count : Nat) (lost : Bool) : SlateOutcome :=
  { SlateOutcome.bare .sessionClosed with borrower := borrower, sessionItems := count, slipLost := lost }

/-- A close that produces SESSION_CLOSED (R31). -/
def State.closeWithOutcome (s : State) (i : Fin 4) (p : Producer) : State :=
  let t := s.station i
  let r := s.closeSession i
  r.1.setStation i
    ((r.1.station i).offer (sessionClosedOutcome ((t.session.map Session.number).getD 0) t.items.length r.2) p)

/-- IDLE_DEADLINE_EXPIRE (R32). -/
def execIdleDeadlineExpire (station : Fin 4) (s : State) : Host.Outcome State Fault Refusal :=
  let t := s.station station
  if t.deadline.isNone then .next s
  else
    let s1 := s.setStation station { t with deadline := none }
    if t.slot.isSome ∨ t.inFlight.isSome ∨ t.session.isNone then .next s1
    else .next (s1.closeWithOutcome station .idleClose)

/-! ## Mode changes (R33) -/

/-- Step 1 of R33. -/
def Station.discardPending (t : Station) : Station :=
  match t.slot with
  | none => t
  | some l => { t with slot := none }.offerDiscarded (l.discarded t.items.length)

/-- Step 3 of R33 with the end of the order. A label that has entered the slot since step 1, while SESSION_CLOSED waited for the
buffer, is discarded as in step 1, so that no mode changes with a label pending (R25; log entry 36, DESIGN CHOICE: R33 discards
in step 1 alone). -/
def State.setMode (s : State) (i : Fin 4) (m : Mode) (count : Nat) : State :=
  (s.setStation i { (s.station i).discardPending with mode := m, modeWait := false, deadline := none }).finishOrder
    (.done count)

/-- Steps 1 to 3 of R33; the order goes on once SESSION_CLOSED has entered the buffer (R36). A wand label that arrives while it
waits is taken as R24 gives, in the old mode (log entry 36, DESIGN CHOICE). -/
def State.changeMode (s : State) (i : Fin 4) (m : Mode) : State :=
  let s1 := s.setStation i (s.station i).discardPending
  let t := s1.station i
  if t.session.isNone then s1.setMode i m 0
  else
    let s2 := s1.closeWithOutcome i (.modeChange t.items.length m)
    if t.canEnter then s2.setMode i m t.items.length else s2.orderWaits .buffer

/-! ## The waiting outcomes -/

/-- What the producer does next (R36). In a desk that has halted while SESSION_CLOSED waited, the mode stays and the order ends
HALTED with count 0, as R33 and R41 say of one that waits for a label in flight (log entry 36, DESIGN CHOICE). -/
def State.produceOn (s : State) (i : Fin 4) : Producer → State
  | .completion => s.setStation i ((s.station i).settle s.settings.sessionTimeout)
  | .idleClose => s
  | .modeChange count mode =>
    if s.desk.state = .halted then
      (s.setStation i { s.station i with modeWait := false }).finishOrder { outcome := .halted }
    else s.setMode i mode count
  | .keyedClosed => s.finishOrder (.refused .stationClosed)

/-- OUTCOME_BUFFER_ENTER (R36): the oldest waiting outcome enters, and its producer goes on. When a DISCARDED outcome has entered
the buffer meanwhile, the waiting one replaces it, as R36's table says of any outcome offered (log entry 21, DESIGN CHOICE: R36
also says it waits until the buffer is empty). -/
def execOutcomeBufferEnter (station : Fin 4) (s : State) : Host.Outcome State Fault Refusal :=
  let t := s.station station
  match t.waiting with
  | [] => .next s
  | (o, p) :: rest =>
    if t.bufferOpen then .next ((s.setStation station { t with buffer := some o, waiting := rest }).produceOn station p)
    else .next s

/-! ## The slate writer (R37, R19, R38) -/

/-- The stations in turn, beginning with `i`. -/
def turnFrom (i : Fin 4) : List (Fin 4) := [i, i + 1, i + 2, i + 3]

/-- The outcome sequence an outcome is written with (R37). -/
def Station.nextSequence (t : Station) : Nat := (t.sequence + 1) % 65536

/-- Steps 1 to 4 of R37: the change count, the outcome fields and the outcome sequence. Bytes 44 to 47 of the slate have no name in
R206, and R37 names no write of them: the part never writes them (log entry 33, DESIGN CHOICE: R206 has unnamed bytes written 0 by
the part and does not say with which write). -/
def slateWrites (m : Memory) (a : Nat) (o : SlateOutcome) (sequence : Nat) : List WordWrite :=
  groupWrites m a (putWords (a + 2) o.words) ++ [{ addr := a + 28, word := sequence }]

/-- What a KEYED_LABEL order ends with once its outcome has been written (R34). -/
def SlateOutcome.orderResult (o : SlateOutcome) : OrderResult :=
  { outcome := if o.refused then .refused else .done, reason := some o.reason, count := o.sessionItems, blocks := o.blocks }

/-- The outcome of station `i` is written (R37). -/
def State.writeOutcome (s : State) (i : Fin 4) (o : SlateOutcome) : State :=
  let t := s.station i
  let s1 := (s.writeAll (slateWrites s.mem (slateAddress s.geometry i) o t.nextSequence)).raise .stationOutcome
  let s2 := (s1.setStation i { t with buffer := none, sequence := t.nextSequence }).withWriter { s.writer with outcomeTurn := i + 1 }
  if o.keyed ∧ (s.currentOrder.map TakenOrder.wait) = some .slate then s2.finishOrder o.orderResult else s2

/-- The station whose outcome is written next (R37). -/
def State.nextOutcome (s : State) : Option (Fin 4) :=
  (turnFrom s.writer.outcomeTurn).find? fun i => (s.station i).buffer.isSome

/-- SLATE_OUTCOME_WRITE (R37, R34). -/
def execSlateOutcomeWrite (s : State) : Host.Outcome State Fault Refusal :=
  if s.attached then
    match s.nextOutcome with
    | none => .next s
    | some i =>
      match (s.station i).buffer with
      | none => .next s
      | some o => .next (s.writeOutcome i o)
  else .next s

/-- The seven counter fields of a slate (R19, R38, R206). -/
def mirrorWords (k : WandCounters) (closedScans : Nat) : List Nat :=
  [k.format, k.character, k.speed, k.check, k.noise, k.repeated, closedScans]

/-- The writes of mirror `i`. -/
def State.mirrorWrites (s : State) (i : Fin 4) : List WordWrite :=
  putWords (slateAddress s.geometry i + 30) (mirrorWords (s.channel i).counters (s.station i).closedScans)

/-- The mirror whose turn it is, when no outcome waits (R37). -/
def State.nextMirror (s : State) : Option (Fin 4) :=
  if s.nextOutcome = none then (turnFrom s.writer.mirrorTurn).find? fun i => (s.channel i).mirrorPending else none

/-- COUNTER_MIRROR_WRITE (R19, R38). -/
def execCounterMirrorWrite (s : State) : Host.Outcome State Fault Refusal :=
  if s.attached then
    match s.nextMirror with
    | none => .next s
    | some i =>
      .next (((s.writeAll (s.mirrorWrites i)).setChannel i { s.channel i with mirrorPending := false }).withWriter
        { s.writer with mirrorTurn := i + 1 })
  else .next s

/-! ## Tone events (R40) -/

/-- TONE_STEP_END: the period boundary at or after the end of the step that sounds. -/
def execToneStepEnd (station : Fin 4) (s : State) : Host.Outcome State Fault Refusal :=
  let t := s.station station
  match t.tone.output with
  | none => .next s
  | some _ => .next (s.setStation station { t with tone := t.tone.boundary t.tone.steps.tail })

/-- TONE_PERIOD_END: a boundary at which a pattern that waits is latched, or a stop takes effect. -/
def execTonePeriodEnd (station : Fin 4) (s : State) : Host.Outcome State Fault Refusal :=
  let t := s.station station
  if t.tone.output.isSome ∧ (t.tone.stopping ∨ t.tone.next.isSome) then
    .next (s.setStation station { t with tone := t.tone.boundary [] })
  else .next s

end Sys2Proof.Machine
end

