-- ==== Sys2Proof/Machine/Tables.lean ====
section
/-! DEFINITION. The circulation tables in the read phase of a transaction (chapter 3): headers and their checks (R63), lookups
(R44, R45), insertion and removal (R46, R47), the hold-shelf list (R52 to R54), all with the checks of R64, over a draft that
gathers the records, bucket words and headers a commit will write. The draft's images are those of R58: one for each target. -/

namespace Sys2Proof.Machine

open Config

/-- A fault of R63 or R64: what the fault record will say of it (R65). -/
structure TableFault where
  reason : StateReason
  table : TableName
  index : Option Nat
  address : Nat
  deriving DecidableEq, Repr

/-- The read phase's view of the tables: desk memory overlaid with what the transaction changes. A header is present once the
transaction has touched its table (R42), and is written when its flag is set (R43). -/
structure Draft where
  mem : Memory
  geometry : Geometry
  itemHeader : Header
  borrowerHeader : Header
  writesItemHeader : Bool
  writesBorrowerHeader : Bool
  items : List (Nat × ItemRecord)
  borrowers : List (Nat × BorrowerRecord)
  buckets : List (Nat × Nat)
  deriving DecidableEq, Repr

def Draft.start (m : Memory) (g : Geometry) : Draft :=
  { mem := m, geometry := g, itemHeader := Header.read m g.itemTable, borrowerHeader := Header.read m g.borrowerTable,
    writesItemHeader := false, writesBorrowerHeader := false, items := [], borrowers := [], buckets := [] }

/-! ## Headers -/

def tableAddress (g : Geometry) : TableName → Nat
  | .item => g.itemTable
  | .borrower => g.borrowerTable

def recordSize : TableName → Nat
  | .item => itemSize
  | .borrower => borrowerSize

def otherTable : TableName → TableName
  | .item => .borrower
  | .borrower => .item

/-- A capacity and an exponent in their ranges (R43). -/
def Header.sized (h : Header) : Bool :=
  decide (1 ≤ h.capacity) && decide (h.capacity ≤ 65534) && decide (8 ≤ h.exponent) && decide (h.exponent ≤ 16)

def Header.extent (h : Header) (t : TableName) : Nat := extentLength h.exponent (recordSize t) h.capacity

/-- Two extents share a byte. -/
def extentsOverlap (a la b lb : Nat) : Bool := decide (a < b + lb) && decide (b < a + la)

/-- An index that is null or below a capacity. -/
def indexOk (capacity i : Nat) : Bool := i == nullIndex || decide (i < capacity)

/-- The item table's shelf fields are consistent (R63). -/
def Header.shelfOk (h : Header) : Bool :=
  indexOk h.capacity h.shelfHead && indexOk h.capacity h.shelfTail && decide (h.shelfCount ≤ h.capacity)
    && ((h.shelfHead == nullIndex && h.shelfTail == nullIndex && h.shelfCount == 0)
        || (h.shelfHead != nullIndex && h.shelfTail != nullIndex && h.shelfCount != 0))

/-- Every check of R63 on a header; an extent is compared with the other table's when that header gives one (log entry 15, DEDUCED). -/
def headerOk (g : Geometry) (m : Memory) (t : TableName) (h : Header) : Bool :=
  let o := Header.read m (tableAddress g (otherTable t))
  h.count % 2 == 0 && h.sized && g.inWindow (tableAddress g t) (h.extent t)
    && !(o.sized && extentsOverlap (tableAddress g t) (h.extent t) (tableAddress g (otherTable t)) (o.extent (otherTable t)))
    && decide (h.records ≤ h.capacity) && indexOk h.capacity h.freeHead
    && (match t with | .item => h.shelfOk | .borrower => true)

/-- The fault of a header at a transaction (R63, last paragraph). -/
def headerFault (g : Geometry) (t : TableName) (h : Header) : TableFault :=
  { reason := if g.inWindow (tableAddress g t) (h.extent t) then .tableHeader else .tableWindow
    table := t, index := none, address := tableAddress g t }

/-- The first access of a transaction to a table: its header is checked again (R42, R63). -/
def Draft.touch (d : Draft) (t : TableName) : Except TableFault Draft :=
  let h := Header.read d.mem (tableAddress d.geometry t)
  if headerOk d.geometry d.mem t h then .ok d else .error (headerFault d.geometry t h)

def Draft.header (d : Draft) : TableName → Header
  | .item => d.itemHeader
  | .borrower => d.borrowerHeader

def Draft.setHeader (d : Draft) (t : TableName) (h : Header) : Draft :=
  match t with
  | .item => { d with itemHeader := h, writesItemHeader := true }
  | .borrower => { d with borrowerHeader := h, writesBorrowerHeader := true }

/-! ## Records through the draft -/

/-- Replaces the entry of key `k`, or adds it at the end. -/
def assign {α : Type} (k : Nat) (v : α) : List (Nat × α) → List (Nat × α)
  | [] => [(k, v)]
  | (j, w) :: l => if j = k then (k, v) :: l else (j, w) :: assign k v l

def Draft.address (d : Draft) (t : TableName) (i : Nat) : Nat :=
  recordAddress (tableAddress d.geometry t) (d.header t).exponent (recordSize t) i

def Draft.item (d : Draft) (i : Nat) : ItemRecord := (d.items.lookup i).getD (ItemRecord.read d.mem (d.address .item i))

def Draft.borrower (d : Draft) (i : Nat) : BorrowerRecord :=
  (d.borrowers.lookup i).getD (BorrowerRecord.read d.mem (d.address .borrower i))

def Draft.putItem (d : Draft) (i : Nat) (r : ItemRecord) : Draft := { d with items := assign i r d.items }

def Draft.putBorrower (d : Draft) (i : Nat) (r : BorrowerRecord) : Draft := { d with borrowers := assign i r d.borrowers }

/-- What a chain walk sees of a record: in use, free, or neither (R64). -/
structure ChainRecord where
  inUse : Option Bool
  number : Nat
  next : Nat
  deriving DecidableEq, Repr

def Draft.chainRecord (d : Draft) (t : TableName) (i : Nat) : ChainRecord :=
  match t with
  | .item =>
    { inUse := (d.item i).state.map fun st => st != .free, number := (d.item i).number, next := (d.item i).chainNext }
  | .borrower => { inUse := (d.borrower i).inUse, number := (d.borrower i).number, next := (d.borrower i).chainNext }

/-- Offset of the chain-next index in a record (R206). -/
def chainOffset : TableName → Nat
  | .item => 28
  | .borrower => 26

def Draft.setChainNext (d : Draft) (t : TableName) (i next : Nat) : Draft :=
  match t with
  | .item => d.putItem i { d.item i with chainNext := next }
  | .borrower => d.putBorrower i { d.borrower i with chainNext := next }

/-- The bucket of a number (R44). -/
def Draft.bucket (d : Draft) (t : TableName) (number : Nat) : Nat := number % 2 ^ (d.header t).exponent

def Draft.bucketAddress (d : Draft) (t : TableName) (b : Nat) : Nat :=
  Machine.bucketAddress (tableAddress d.geometry t) b

def Draft.bucketWord (d : Draft) (t : TableName) (b : Nat) : Nat :=
  (d.buckets.lookup (d.bucketAddress t b)).getD (d.mem.read16 (d.bucketAddress t b))

def Draft.setBucketWord (d : Draft) (t : TableName) (b v : Nat) : Draft :=
  { d with buckets := assign (d.bucketAddress t b) v d.buckets }

/-- A fault at record `i` (log entry 14, DESIGN CHOICE). -/
def Draft.recordFault (d : Draft) (t : TableName) (reason : StateReason) (i : Nat) : TableFault :=
  { reason := reason, table := t, index := some i, address := d.address t i }

/-- A fault at a field that holds an index: the record it stands in, or none for a bucket word or a header (log entry 14, DESIGN CHOICE). -/
def indexFault (t : TableName) (holder : Option Nat) (field : Nat) : TableFault :=
  { reason := .tableIndex, table := t, index := holder, address := field }

/-- The record of an index lies within the window (last row of R64). -/
def Draft.inside (d : Draft) (t : TableName) (i : Nat) : Bool := d.geometry.inWindow (d.address t i) (recordSize t)

/-! ## Chain walks (R44, R47) -/

/-- The checks of R64 on a record a chain walk visits. -/
def Draft.visit (d : Draft) (t : TableName) (bucket i : Nat) : Except TableFault ChainRecord :=
  let r := d.chainRecord t i
  if !d.inside t i then .error (d.recordFault t .tableWindow i)
  else if r.inUse ≠ some true then .error (d.recordFault t .tableRecord i)
  else if d.bucket t r.number ≠ bucket then .error (d.recordFault t .tableBucket i)
  else .ok r

/-- A walk along a chain from index `i`, found in the field at `field` of record `holder`, until `stop`; at most `fuel` more
records. It answers the predecessor in the chain and the record reached, or none at the end of the chain. -/
def Draft.walk (d : Draft) (t : TableName) (stop : Nat → ChainRecord → Bool) (bucket : Nat) :
    Nat → Option Nat → Nat → Nat → Except TableFault (Option (Option Nat × Nat))
  | fuel, holder, field, i =>
    if i = nullIndex then .ok none
    else if (d.header t).capacity ≤ i then .error (indexFault t holder field)
    else
      match fuel with
      | 0 => .error (d.recordFault t .tableChain i)
      | n + 1 =>
        match d.visit t bucket i with
        | .error f => .error f
        | .ok r =>
          if stop i r then .ok (some (holder, i))
          else d.walk t stop bucket n (some i) (d.address t i + chainOffset t) r.next

/-- A walk of the chain of a number's bucket (R44). -/
def Draft.walkFrom (d : Draft) (t : TableName) (number : Nat) (stop : Nat → ChainRecord → Bool) :
    Except TableFault (Option (Option Nat × Nat)) :=
  let b := d.bucket t number
  d.walk t stop b (d.header t).capacity none (d.bucketAddress t b) (d.bucketWord t b)

/-- A lookup by number: the record's index, or none (R44). -/
def Draft.lookup (d : Draft) (t : TableName) (number : Nat) : Except TableFault (Option Nat) :=
  match d.walkFrom t number fun _ r => r.number == number with
  | .error f => .error f
  | .ok none => .ok none
  | .ok (some x) => .ok (some x.2)

/-- A borrower index stored in an item record or a hold entry at `field` of item record `holder` (R45, R64; a null index names
no record in use, log entry 16, DESIGN CHOICE). -/
def Draft.storedBorrower (d : Draft) (holder field i : Nat) : Except TableFault BorrowerRecord :=
  if i ≠ nullIndex ∧ d.borrowerHeader.capacity ≤ i then .error (indexFault .item (some holder) field)
  else if !d.inside .borrower i then .error (d.recordFault .borrower .tableWindow i)
  else if (d.borrower i).inUse ≠ some true then .error (d.recordFault .borrower .tableRecord i)
  else .ok (d.borrower i)

/-- The borrower an item record names (R64). -/
def Draft.itemBorrower (d : Draft) (i : Nat) : Except TableFault BorrowerRecord :=
  if (d.item i).borrower = nullIndex then
    .error { reason := .tableRecord, table := .item, index := some i, address := d.address .item i + 12 }
  else d.storedBorrower i (d.address .item i + 12) (d.item i).borrower

/-- The borrower of hold entry `k` of an item record (R64). -/
def Draft.holdBorrower (d : Draft) (i k index : Nat) : Except TableFault BorrowerRecord :=
  if index = nullIndex then
    .error { reason := .tableRecord, table := .item, index := some i, address := d.address .item i + 32 + 4 * k }
  else d.storedBorrower i (d.address .item i + 32 + 4 * k) index

/-- The session borrower's record, or none when the record at the index is not that borrower's (R45). -/
def Draft.sessionBorrower (d : Draft) (se : Session) : Option BorrowerRecord :=
  if se.index < d.borrowerHeader.capacity ∧ (d.borrower se.index).inUse = some true
      ∧ (d.borrower se.index).number = se.number then some (d.borrower se.index)
  else none

/-! ## Insertion and removal (R46, R47) -/

/-- The head of the free list and the index behind it, or none when the list is empty (R46, step 1). -/
def Draft.takeFree (d : Draft) (t : TableName) : Except TableFault (Option (Nat × Nat)) :=
  let h := d.header t
  if h.freeHead = nullIndex then .ok none
  else if h.capacity ≤ h.freeHead then .error (indexFault t none (tableAddress d.geometry t + 8))
  else if !d.inside t h.freeHead then .error (d.recordFault t .tableWindow h.freeHead)
  else if (d.chainRecord t h.freeHead).inUse ≠ some false then .error (d.recordFault t .tableFreeList h.freeHead)
  else
    let next := (d.chainRecord t h.freeHead).next
    if indexOk h.capacity next then .ok (some (h.freeHead, next))
    else .error (indexFault t (some h.freeHead) (d.address t h.freeHead + chainOffset t))

/-- The bucket word and the header of an insertion of `number` into record `i` (R46, steps 1, 3 and 4). -/
def Draft.link (d : Draft) (t : TableName) (number i next : Nat) : Draft :=
  let h := d.header t
  (d.setBucketWord t (d.bucket t number) i).setHeader t { h with records := h.records + 1, freeHead := next }

/-- Insertion of an item record (R46); it keeps the count the free record held. -/
def Draft.insertItem (d : Draft) (i next : Nat) (r : ItemRecord) : Draft :=
  (d.putItem i { r with count := (d.item i).count, chainNext := d.bucketWord .item (d.bucket .item r.number) }).link
    .item r.number i next

/-- Insertion of a borrower record (R46, R71). -/
def Draft.insertBorrower (d : Draft) (i next : Nat) (r : BorrowerRecord) : Draft :=
  (d.putBorrower i
    { r with count := (d.borrower i).count
             chainNext := d.bucketWord .borrower (d.bucket .borrower r.number) }).link .borrower r.number i next

/-- Takes record `i` of `number` out of its chain and puts its index at the head of the free list (R47, steps 1, 3, 4). -/
def Draft.unlink (d : Draft) (t : TableName) (number i : Nat) : Except TableFault Draft :=
  match d.walkFrom t number fun k _ => k == i with
  | .error f => .error f
  | .ok none => .error (d.recordFault t .tableBucket i)
  | .ok (some x) =>
    let next := (d.chainRecord t i).next
    if !indexOk (d.header t).capacity next then .error (indexFault t (some i) (d.address t i + chainOffset t))
    else
      let d1 := match x.1 with
        | none => d.setBucketWord t (d.bucket t number) next
        | some p => d.setChainNext t p next
      .ok (d1.setHeader t { d.header t with records := (d.header t).records - 1, freeHead := i })

/-- Removal of an item record (R47). -/
def Draft.removeItem (d : Draft) (i : Nat) : Except TableFault Draft :=
  match d.unlink .item (d.item i).number i with
  | .error f => .error f
  | .ok d1 => .ok (d1.putItem i ((d.item i).freed d.itemHeader.freeHead))

/-- Removal of a borrower record (R47). -/
def Draft.removeBorrower (d : Draft) (i : Nat) : Except TableFault Draft :=
  match d.unlink .borrower (d.borrower i).number i with
  | .error f => .error f
  | .ok d1 => .ok (d1.putBorrower i ((d.borrower i).freed d.borrowerHeader.freeHead))

/-! ## The hold-shelf list (R52 to R54) -/

def Draft.shelfFault (d : Draft) (i : Option Nat) : TableFault :=
  match i with
  | some k => d.recordFault .item .tableShelf k
  | none => { reason := .tableShelf, table := .item, index := none, address := d.geometry.itemTable + 10 }

/-- A record on the list is ON_HOLD_SHELF with a hold queue, its deadline not below its predecessor's (R64). -/
def shelfRecordOk (r : ItemRecord) (previous : Nat) : Bool :=
  r.state == some .onHoldShelf && !r.queue.isEmpty && decide (previous ≤ r.deadline)

/-- A walk of the list until `stop`, with `left` records still to come by the shelf count. It answers the predecessor and
the record reached, none at the end of the list (R53, R54; checks of R64). -/
def Draft.seekShelf (d : Draft) (stop : Nat → ItemRecord → Bool) :
    Nat → Option Nat → Nat → Nat → Nat → Except TableFault (Option Nat × Option Nat)
  | left, pred, previous, field, i =>
    if i = nullIndex then
      if left ≠ 0 ∨ pred.getD nullIndex ≠ d.itemHeader.shelfTail then .error (d.shelfFault pred) else .ok (pred, none)
    else if d.itemHeader.capacity ≤ i then .error (indexFault .item pred field)
    else
      match left with
      | 0 => .error (d.shelfFault (some i))
      | n + 1 =>
        if !d.inside .item i then .error (d.recordFault .item .tableWindow i)
        else if !shelfRecordOk (d.item i) previous then .error (d.shelfFault (some i))
        else if stop i (d.item i) then .ok (pred, some i)
        else d.seekShelf stop n (some i) (d.item i).deadline (d.address .item i + 26) (d.item i).shelfNext

/-- A walk from the shelf head. -/
def Draft.seekShelfFromHead (d : Draft) (stop : Nat → ItemRecord → Bool) : Except TableFault (Option Nat × Option Nat) :=
  d.seekShelf stop d.itemHeader.shelfCount none 0 (d.geometry.itemTable + 10) d.itemHeader.shelfHead

/-- Points the shelf head, or the predecessor's next index, at `next`. -/
def Draft.setShelfNext (d : Draft) (pred : Option Nat) (next : Nat) : Draft :=
  match pred with
  | none => d.setHeader .item { d.itemHeader with shelfHead := next }
  | some p => d.putItem p { d.item p with shelfNext := next }

/-- Shelf removal of record `i` (R54). -/
def Draft.shelfRemove (d : Draft) (i : Nat) : Except TableFault Draft :=
  match d.seekShelfFromHead fun k _ => k == i with
  | .error f => .error f
  | .ok (pred, none) => .error (d.shelfFault pred)
  | .ok (pred, some _) =>
    let next := (d.item i).shelfNext
    if !indexOk d.itemHeader.capacity next then .error (indexFault .item (some i) (d.address .item i + 26))
    else
      let d1 := (d.setShelfNext pred next).putItem i { d.item i with shelfNext := nullIndex }
      .ok (d1.setHeader .item
        { d1.itemHeader with
          shelfCount := d.itemHeader.shelfCount - 1
          shelfTail := if d.itemHeader.shelfTail = i then pred.getD nullIndex else d.itemHeader.shelfTail })

/-- Insertion of record `i`, whose deadline has been set in `r`, behind every record with an equal or earlier deadline
(R53). -/
def Draft.shelfInsert (d : Draft) (i : Nat) (r : ItemRecord) : Except TableFault Draft :=
  match d.seekShelfFromHead fun _ q => decide (r.deadline < q.deadline) with
  | .error f => .error f
  | .ok (pred, found) =>
    let d1 := (d.putItem i { r with shelfNext := found.getD nullIndex }).setShelfNext pred i
    .ok (d1.setHeader .item
      { d1.itemHeader with
        shelfCount := d.itemHeader.shelfCount + 1
        shelfTail := if found.isNone then i else d.itemHeader.shelfTail })

/-! ## Images (R55, R58) -/

/-- A COUNTED image: the words with the target's count raised by 2 (R55, R59). -/
def countedImage (target : Nat) (words : List Nat) : Image :=
  { target := target, counted := true, words := (words.headD 0 + 2) % 65536 :: words.tail }

/-- The table images of a draft: item records, borrower records, each in the order in which they were first put, so that a
predecessor in a chain comes before the record that leaves it; then bucket words, then headers (log entry 36, DESIGN CHOICE:
the rules fix no slot order, R60). -/
def Draft.images (d : Draft) : List Image :=
  (d.items.map fun x => countedImage (d.address .item x.1) x.2.words)
    ++ (d.borrowers.map fun x => countedImage (d.address .borrower x.1) x.2.words)
    ++ (d.buckets.map fun x => { target := x.1, counted := false, words := [x.2] })
    ++ (if d.writesItemHeader then [countedImage d.geometry.itemTable d.itemHeader.words] else [])
    ++ (if d.writesBorrowerHeader then [countedImage d.geometry.borrowerTable d.borrowerHeader.words] else [])

end Sys2Proof.Machine
end

