-- ==== Sys2Proof/Machine/Engine.lean ====
section
/-! DEFINITION. The decision engine (chapter 5): standing requesters and the grant (R85 to R88), the gates (R90), the plan of a
transaction, its commit (R59), a fault (R65), and the hand-over (R89). The plans themselves stand in Machine/Loan.lean,
Borrower.lean, Hold.lean, Item.lean, Mark.lean and Reports.lean. -/

namespace Sys2Proof.Machine

open Config

/-! ## Standing requesters (R85) -/

/-- The center line's three requests. -/
inductive CenterRequest where
  | started | notice (n : CenterNotice) | ended
  deriving DecidableEq, Repr

/-- What the center line stands for (R85). -/
def Upload.request (u : Upload) : Option CenterRequest :=
  if u.startedMark = .standing then some .started
  else match u.held with
    | some h => if h.granted then (if u.endedMark = .standing then some .ended else none) else some (.notice h.notice)
    | none => if u.endedMark = .standing then some .ended else none

/-- The executor stands while its order waits for a grant (R85, R158). -/
def Executor.request (e : Executor) : Option TxnKind :=
  match e.current with
  | none => none
  | some t =>
    match t.wait with
    | .grant => some (.order t.order)
    | .markGrant pages last => some (.pagesReleased pages last)
    | _ => none

/-- The sweep stands while RUNNING with no step in the engine (R141). -/
def Sweep.stands (w : Sweep) : Bool := w.state == .running && !w.inEngine

/-- What a grant serves. -/
inductive Grant where
  | station (i : Fin 4) (l : Label) (k : TxnKind)
  | order (k : TxnKind)
  | sweep
  | center (r : CenterRequest)
  deriving DecidableEq, Repr

/-- The background position: the grant and the preference after it (R87). -/
def backgroundGrant (w : Sweep) (c : Option CenterRequest) (pref : Background) : Option (Grant × Background) :=
  match w.stands, c with
  | false, none => none
  | true, none => some (.sweep, .center)
  | false, some r => some (.center r, .sweep)
  | true, some r =>
    match pref with
    | .sweep => some (.sweep, .center)
    | .center => some (.center r, .sweep)

def stationGrant (s : State) (i : Fin 4) : Option (Grant × Background) :=
  (s.station i).request.map fun x => (.station i x.1 x.2, s.engine.background)

/-- What position `p` stands for, with the background preference after a grant of it (R86). -/
def State.standsAt (s : State) (p : Fin 6) : Option (Grant × Background) :=
  match p with
  | 0 => stationGrant s 0
  | 1 => stationGrant s 1
  | 2 => stationGrant s 2
  | 3 => stationGrant s 3
  | 4 => s.executor.request.map fun k => (.order k, s.engine.background)
  | 5 => backgroundGrant s.sweep s.upload.request s.engine.background

/-- The positions in the cyclic order, from `p` (R86). -/
def rotationFrom (p : Fin 6) : List (Fin 6) := [p, p + 1, p + 2, p + 3, p + 4, p + 5]

/-- The first standing position of some. -/
def State.firstStanding (s : State) : List (Fin 6) → Option (Fin 6 × Grant × Background)
  | [] => none
  | p :: ps =>
    match s.standsAt p with
    | some g => some (p, g)
    | none => s.firstStanding ps

/-! ## The grant (R86, R88) -/

/-- The transaction a grant begins: its stamp, the rules in force, the room its gates compare, and whether a station is busy (R56,
R88, R90). -/
def State.txn (s : State) (r : Requester) (k : TxnKind) (l : Option Label) : Txn :=
  { requester := r, kind := k, label := l, stamp := s.reading, rules := s.rules, halted := s.desk.state == .halted,
    room := s.journal.room, busy := s.stationsBusy }

def Grant.txn (g : Grant) (s : State) : Txn :=
  match g with
  | .station i l k => s.txn (.station i) k (some l)
  | .order k => s.txn .order k none
  | .sweep => s.txn .sweep .sweepStep none
  | .center .started => s.txn .center .uploadStarted none
  | .center (.notice n) => s.txn .center (.notice n) none
  | .center .ended => s.txn .center .uploadEnded none

/-- The grant passed to the requester (R86). -/
def State.passGrant (s : State) : Grant → State
  | .station i _ _ => s.setStation i (s.station i).grant
  | .order (.pagesReleased pages _) => s.orderWaits (.mark pages)
  | .order _ => s.orderWaits .engine
  | .sweep => s.withSweep { s.sweep with inEngine := true }
  | .center .started => s.withUpload { s.upload with startedMark := .granted }
  | .center (.notice n) => s.withUpload { s.upload with held := some { notice := n, granted := true } }
  | .center .ended => s.withUpload { s.upload with endedMark := .granted }

/-- ENGINE_GRANT (R84, R86, R87). -/
def execEngineGrant (s : State) : Host.Outcome State Fault Refusal :=
  if s.attached ∧ s.engine.state = .idle then
    match s.firstStanding (rotationFrom s.engine.pointer) with
    | none => .next s
    | some (p, g, bg) =>
      .next ((s.passGrant g).withEngine
        { s.engine with state := .busy, current := some (g.txn s), pointer := p + 1, background := bg })
  else .next s

/-! ## Gates (R90) -/

inductive RoomClass where
  | aboveReserve | one | none
  deriving DecidableEq, Repr

def RoomClass.allows : RoomClass → Nat → Bool
  | .aboveReserve, room => decide (reserve < room)
  | .one, room => decide (1 ≤ room)
  | .none, _ => true

/-- The gates in their order (R90); `clock`: the transaction meets the clock gate. -/
def Txn.gate (t : Txn) (c : RoomClass) (clock : Bool) : Option Reason :=
  if t.halted then some .deskHalted
  else if clock && t.stamp.isNone then some .clockUnset
  else if c.allows t.room then none else some .journalFull

/-- The stamp of a transaction that has passed the clock gate. -/
def Txn.at (t : Txn) : Stamp := t.stamp.getD .zero

/-! ## Plans -/

/-- How a sweep step ends (R141, R144). -/
inductive SweepEnd where
  | goesOn | done | journalFull
  deriving DecidableEq, Repr

/-- What is handed to the requester (R89). -/
inductive TxnResult where
  | station (r : StationResult)
  | order (r : OrderResult)
  | sweep (e : SweepEnd)
  | notice (applied : Bool)
  | mark (refusal : Option Reason)
  deriving DecidableEq, Repr

/-- What a transaction does, as its read phase has decided: writes outside the slot, the table images and the entry of its
commit, the view of the journal when it is changed at the grant (R156, R157), the clock a SET_CLOCK sets at the arm, the slip
requested after the release, HOLD_SHELF_CHANGED, the report pointer, the fault found, and the result. -/
structure Plan where
  before : List WordWrite := []
  images : List Image := []
  entry : Option EntryBody := none
  view : Option Journal := none
  clock : Option Clock := none
  slip : Option Slip := none
  shelfChanged : Bool := false
  pointer : Option Nat := none
  fault : Option TableFault := none
  result : TxnResult
  deriving DecidableEq, Repr

/-- A plan that writes nothing. -/
def Plan.only (r : TxnResult) : Plan := { result := r }

/-- What the requester of an abandoned transaction receives (R65); numbers as a refusal names them. -/
def haltedResult (t : Txn) (base : StationResult) : TxnResult :=
  match t.requester with
  | .station _ => .station { base with refused := true, reason := .deskHalted }
  | .order => .order (.refused .deskHalted)
  | .sweep => .sweep .done
  | .center => .notice false

/-- The plan of a read phase that may find a fault (R65). -/
def planOf (halted : TxnResult) : Except TableFault Plan → Plan
  | .ok p => p
  | .error f => { fault := some f, result := halted }

/-! ## The commit (R59) -/

/-- The address of the journal counter group. -/
def State.groupAddress (s : State) : Nat := s.desk.anchor + offJournal

def State.slotAddress (s : State) : Nat := s.desk.anchor + offSlot

/-- Desk memory and the view as the compute step finds them. -/
def Plan.memory (p : Plan) (s : State) : Memory := s.mem.apply p.before

def Plan.journal (p : Plan) (s : State) : Journal := p.view.getD s.journal

/-- The writer's part of the commit (R150). -/
def Plan.append (p : Plan) (s : State) : Append := (p.journal s).append s.geometry (p.memory s) s.groupAddress

/-- The writes of the commit slot and of its application, none when there is no entry. -/
def Plan.slotWrites (p : Plan) (s : State) : List WordWrite :=
  match p.entry with
  | none => []
  | some e =>
    commitWrites s.slotAddress (p.images ++ (p.append s).images) (p.append s).target
      (e.words (p.journal s).nextSequence)

/-- Every write of a transaction that the engine makes, in order. -/
def Plan.writes (p : Plan) (s : State) : List WordWrite := p.before ++ p.slotWrites s

/-- The number of those writes up to and with the arm (step 4 of R59). -/
def Plan.armed (p : Plan) (s : State) : Nat :=
  match p.entry with
  | none => 0
  | some e =>
    p.before.length
      + (fillWrites s.slotAddress (p.images ++ (p.append s).images) (p.append s).target
          (e.words (p.journal s).nextSequence)).length + 1

/-- The day sweep is asked to start (R140). -/
def Sweep.start (w : Sweep) : Sweep :=
  match w.state with
  | .idle => { w with state := .running, changed := false }
  | .running => w
  | .deferred => { w with state := .running }

/-- A SET_CLOCK moves the day forward or sets an unset clock (R112). -/
def clockMovesOn (old new : Clock) : Bool := !old.isSet || decide (old.day < new.day)

/-- The arm of a SET_CLOCK (R111, R112). -/
def State.setClockAt (s : State) (c : Clock) : State :=
  if clockMovesOn s.clock c then ((s.withClock c).raise .dayChanged).withSweep s.sweep.start else s.withClock c

def State.armClock (s : State) : Option Clock → State
  | none => s
  | some c => s.setClockAt c

/-- The view at the release of the slot, with JOURNAL_LOW for the cut and for the entry (R149 to R152). -/
def State.releaseView (s : State) (p : Plan) : State :=
  let s1 := (s.withJournal (p.journal s)).raiseIf (fellLow s.journal.room (p.journal s).room) .journalLow
  match p.entry with
  | none => s1
  | some _ =>
    (s1.withJournal (p.append s).view).raiseIf (fellLow (p.journal s).room (p.append s).view.room) .journalLow

/-- Writes, clock and view of a transaction without a fault. -/
def State.commit (s : State) (p : Plan) : State :=
  let view := s.releaseView p
  (view.withMem (s.mem.apply (p.writes s))).armClock p.clock

/-! ## Entry to HALTED (R65, R176, R194) -/

/-- A START_UPLOAD that waits for a cut whose mark is not granted ends REFUSED (R176). -/
def State.refuseStart (s : State) : State :=
  if s.upload.startedMark ≠ .granted ∧ (s.currentOrder.map TakenOrder.wait) = some .cut then
    s.finishOrder (.refused .deskHalted)
  else s

/-- The desk enters HALTED: fault record, state and reason, cause (R65, R194, R197); the upload ends ABORTED (R176). -/
def State.enterHalted (s : State) (n : FaultNote) : State :=
  ((((s.writeFault n).withDesk { s.desk with state := .halted, reason := n.reason }).raise .halted).endUpload .aborted).refuseStart

def TableFault.note (f : TableFault) (r : Option Requester) : FaultNote :=
  { reason := f.reason, table := some f.table, index := f.index, address := f.address, requester := r }

/-! ## The hand-over (R89) -/

/-- The slip requested between the release and the hand-over; whether it was lost (R89, R136). -/
def State.requestPlanned (s : State) : Option Slip → Requested
  | none => (s, false)
  | some x => (s.requestSlip x, s.slipLost)

/-- The engine after a hand-over: IDLE, or HELD when the calendar has asked (R88, R89). -/
def Engine.release (e : Engine) : Engine :=
  { e with state := if e.holdAsked then .held else .idle, current := none, holdAsked := false }

/-- A sweep step's hand-over (R142, R144); DEFERRED only when room is still 0. -/
def State.handSweep (s : State) (e : SweepEnd) (changed : Bool) : State :=
  let w := { s.sweep with inEngine := false, changed := s.sweep.changed || changed }
  match e with
  | .goesOn => s.withSweep w
  | .done => (s.withSweep { w with state := .idle }).raiseIf w.changed .holdShelfChanged
  | .journalFull => s.withSweep { w with state := if s.journal.room = 0 then .deferred else .running }

/-- A notice's hand-over (R173, R175): counted, and the upload ends when it waited for this. -/
def State.handNotice (s : State) (applied : Bool) : State :=
  let s1 := (s.countReport (if applied then offApplied else offIgnored)).withUpload { s.upload with held := none }
  if s.upload.state = .ending then s1.finishEnding
  else if s.upload.finishedNoted then s1.endUpload .ok
  else s1

/-- The hand-over of UPLOAD_STARTED (R170; steps 1 to 3 alone when the upload is ENDING, R175). -/
def State.handStarted (s : State) (stamp : Stamp) (refusal : Option Reason) : State :=
  let cut := s.upload.cutSequence
  let pages := s.journal.cutCount
  let s1 := (s.withUpload { s.upload with cutMade := true, startStamp := stamp, startedMark := .absent }).writeReport
    stamp cut pages
  let s2 := if (s1.currentOrder.map TakenOrder.wait) = some .cut
    then s1.finishOrder { outcome := .done, reason := refusal, count := pages } else s1
  if s2.upload.state = .ending then s2.finishEnding
  else s2.sendFrame (.opening s2.settings.branch stamp.day stamp.minute cut pages)

/-- The hand-over of UPLOAD_ENDED (R175). -/
def State.handEnded (s : State) : State :=
  ((s.withUpload { s.upload with endedMark := .absent }).raise .uploadEnded).uploadIdle

/-- The hand-over of PAGES_RELEASED (step 5 of R158). -/
def State.handReleased (s : State) (pages : Nat) (refusal : Option Reason) : State :=
  s.finishOrder { outcome := .done, reason := refusal, count := pages }

/-- The result to its requester (R89); `lost`: the slip of the transaction was lost. -/
def State.handOver (s : State) (t : Txn) (r : TxnResult) (lost committed : Bool) : State :=
  match r, t.requester, t.kind with
  | .station x, .station i, k => s.completeLabel i k x lost
  | .order x, .order, _ => s.finishOrder { x with slipLost := lost }
  | .sweep e, .sweep, _ => s.handSweep e committed
  | .notice a, .center, _ => s.handNotice a
  | .mark x, .order, .pagesReleased pages _ => s.handReleased pages x
  | .mark x, .center, .uploadStarted => s.handStarted t.at x
  | .mark _, .center, .uploadEnded => s.handEnded
  | _, _, _ => s

/-- The running result pointer after a report (R202). -/
def State.movePointer (s : State) : Option Nat → State
  | none => s
  | some v => s.withExecutor { s.executor with pointer := v }

/-- A transaction that ends without a fault: commit, slip, HOLD_SHELF_CHANGED, hand-over (R59, R89, R138). -/
def State.conclude (s : State) (t : Txn) (p : Plan) : State :=
  let r := (s.commit p).requestPlanned p.slip
  let s1 := (r.1.withEngine r.1.engine.release).movePointer p.pointer
  (s1.handOver t p.result r.2 p.entry.isSome).raiseIf p.shelfChanged .holdShelfChanged

/-- A transaction that finds a fault: nothing of its commit is written, and the desk halts (R65). -/
def State.abandon (s : State) (t : Txn) (p : Plan) (f : TableFault) : State :=
  let s1 := ((s.writeAll p.before).movePointer p.pointer).enterHalted (f.note (some t.requester))
  (s1.withEngine s1.engine.release).handOver t p.result false false

/-- A transaction carried out by its plan. -/
def State.carryOut (s : State) (t : Txn) (p : Plan) : State :=
  match p.fault with
  | none => s.conclude t p
  | some f => s.abandon t p f

/-- The current transaction when the engine is BUSY with one the step is for. -/
def State.busyWith (s : State) (want : TxnKind → Bool) : Option Txn :=
  match s.engine.state, s.engine.current with
  | .busy, some t => if want t.kind ∧ s.attached then some t else none
  | _, _ => none

/-- A step of the engine: the transaction it is for, carried out by its plan; nothing otherwise (log entry 1, DESIGN CHOICE). -/
def State.runTxn (s : State) (want : TxnKind → Bool) (plan : State → Txn → Plan) : Host.Outcome State Fault Refusal :=
  match s.busyWith want with
  | none => .next s
  | some t => .next (s.carryOut t (plan s t))

/-- The order kind a transaction is of. -/
def isOrder (k : Nat) : TxnKind → Bool
  | .order o => o.kind == k
  | _ => false

/-! ## Effective blocks (R67) -/

/-- The effective block set; EXPIRED is left out without a stamp. -/
def BorrowerRecord.blocks (b : BorrowerRecord) (rules : Rules) (stamp : Option Stamp) : Blocks :=
  let limit := (rules.borrowerClass b.cls).fineBlockLimit
  { manual := b.manual.isSome
    center := b.center.isSome
    lost := decide (0 < b.lost)
    fines := decide (0 < limit) && decide (limit ≤ b.fines)
    expired := match stamp with | none => false | some st => decide (b.expiry < st.day) }

end Sys2Proof.Machine
end

