-- ==== Sys2Proof/Machine/Borrower.lean ====
section
/-! DEFINITION. The borrower orders (R70 to R78) and center notices (R79 to R81): their plans, and the meanings of their
steps. -/

namespace Sys2Proof.Machine

open Config

/-! ## Orders of the engine -/

/-- The operands of the transaction's order. -/
def Txn.order (t : Txn) : Order :=
  match t.kind with
  | .order o => o
  | _ => { kind := 0, stopOnRefusal := false, item := 0, borrower := 0, a := 0, b := 0 }

def Plan.refused (r : Reason) : Plan := .only (.order (.refused r))

def Plan.done (count : Int) : Plan := .only (.order (.done count))

/-- Gates, operands, then the read phase (R70, R105, R130). -/
def Txn.orderPlan (t : Txn) (c : RoomClass) (clock limit : Bool) (read : Except TableFault Plan) : Plan :=
  match t.gate c clock with
  | some r => .refused r
  | none => if limit then .only (.order .limit) else planOf (.order (.refused .deskHalted)) read

/-- The entry of an order's commit: source ORDER and the stamp (R70, R105). -/
def Txn.orderEntry (t : Txn) (k : EntryKind) (borrower item value1 value2 : Nat) : EntryBody :=
  { kind := k, source := .order, flags := {}, stamp := t.at, borrower := borrower, item := item, value1 := value1,
    value2 := value2 }

/-- A committed order that ends DONE. -/
def Plan.commits (images : List Image) (e : EntryBody) (count : Int) : Plan :=
  { images := images, entry := some e, result := .order (.done count) }

/-- The combined value of class and expiry day (R70). -/
def classAndExpiry (cls expiry : Nat) : Nat := cls * 100000 + expiry

/-- The read phase of an order that names a registered borrower: NOT_FOUND, or `f` on the draft, index and record. -/
def withBorrower (s : State) (number : Nat) (f : Draft → Nat → BorrowerRecord → Except TableFault Plan) :
    Except TableFault Plan := do
  let d ← (Draft.start s.mem s.geometry).touch .borrower
  match ← d.lookup .borrower number with
  | none => pure (.refused .notFound)
  | some i => f d i (d.borrower i)

/-! ## Registration (R71 to R73) -/

/-- The record ADD_BORROWER inserts (R71). -/
def BorrowerRecord.fresh (number cls expiry : Nat) : BorrowerRecord :=
  { count := 0, inUse := some true, cls := cls, number := number, expiry := expiry, activity := 0, fines := 0, loans := 0,
    holds := 0, lost := 0, manual := none, center := none, chainNext := nullIndex }

def addBorrowerRead (s : State) (t : Txn) (number cls expiry : Nat) : Except TableFault Plan := do
  let d ← (Draft.start s.mem s.geometry).touch .borrower
  match ← d.lookup .borrower number with
  | some _ => pure (.refused .duplicate)
  | none =>
    match ← d.takeFree .borrower with
    | none => pure (.refused .tableFull)
    | some (i, next) =>
      pure (.commits (d.insertBorrower i next (.fresh number cls expiry)).images
        (t.orderEntry .borrowerAdded number 0 0 (classAndExpiry cls expiry)) i)

/-- The range check of ADD_BORROWER and UPDATE_BORROWER (R71, R72). -/
def registrationLimit (o : Order) : Bool := !borrowerInRange o.borrower || decide (65535 < o.b)

def planAddBorrower (s : State) (t : Txn) : Plan :=
  let o := t.order
  t.orderPlan .aboveReserve true (registrationLimit o) (addBorrowerRead s t o.borrower (min o.a 7) o.b)

def updateBorrowerRead (s : State) (t : Txn) (number cls expiry : Nat) : Except TableFault Plan :=
  withBorrower s number fun d i b =>
    if cls = b.cls ∧ expiry = b.expiry then pure (.done 0)
    else
      pure (.commits (d.putBorrower i { b with cls := cls, expiry := expiry }).images
        (t.orderEntry .borrowerChanged number 0 (classAndExpiry b.cls b.expiry) (classAndExpiry cls expiry)) 1)

def planUpdateBorrower (s : State) (t : Txn) : Plan :=
  let o := t.order
  t.orderPlan .aboveReserve true (registrationLimit o) (updateBorrowerRead s t o.borrower (min o.a 7) o.b)

/-- The checks of R73, in order. -/
def BorrowerRecord.keeps (b : BorrowerRecord) : Option Reason :=
  if 0 < b.loans then some .hasLoans
  else if 0 < b.holds then some .hasHolds
  else if 0 < b.lost then some .hasLost
  else if 0 < b.fines then some .hasFines
  else none

def removeBorrowerRead (s : State) (t : Txn) (number : Nat) : Except TableFault Plan :=
  withBorrower s number fun d i b =>
    match b.keeps with
    | some r => pure (.refused r)
    | none => do
      let d1 ← d.removeBorrower i
      pure (.commits d1.images
        (t.orderEntry .borrowerRemoved number 0 (classAndExpiry b.cls b.expiry) b.activity) i)

def planRemoveBorrower (s : State) (t : Txn) : Plan :=
  let o := t.order
  t.orderPlan .one true (!borrowerInRange o.borrower) (removeBorrowerRead s t o.borrower)

/-! ## Stored blocks (R74, R75) -/

def setBlockRead (s : State) (t : Txn) (number note : Nat) : Except TableFault Plan :=
  withBorrower s number fun d i b =>
    pure (.commits (d.putBorrower i { b with manual := some note }).images
      (t.orderEntry .blockSet number 0 (b.manual.getD 256) note) (if b.manual.isNone then 1 else 0))

def planSetBlock (s : State) (t : Txn) : Plan :=
  let o := t.order
  t.orderPlan .aboveReserve true (decide (255 < o.a)) (setBlockRead s t o.borrower o.a)

def clearBlockRead (s : State) (t : Txn) (number selector : Nat) : Except TableFault Plan :=
  withBorrower s number fun d i b =>
    if selector = 1 then
      match b.manual with
      | none => pure (.done 0)
      | some note =>
        pure (.commits (d.putBorrower i { b with manual := none }).images
          (t.orderEntry .blockCleared number 0 1 note) 1)
    else
      match b.center with
      | none => pure (.done 0)
      | some x =>
        pure (.commits (d.putBorrower i { b with center := none }).images
          (t.orderEntry .blockCleared number 0 2 x.1) 1)

def planClearBlock (s : State) (t : Txn) : Plan :=
  let o := t.order
  t.orderPlan .one true (o.a != 1 && o.a != 2) (clearBlockRead s t o.borrower o.a)

/-! ## Fines owed (R77, R78) -/

/-- A commit that writes the record only when the fines owed change by an amount other than 0 (R77, R78). -/
def finesImages (d : Draft) (i : Nat) (b : BorrowerRecord) (owed : Nat) (changed : Bool) : List Image :=
  if changed then (d.putBorrower i { b with fines := owed }).images else []

def payFineRead (s : State) (t : Txn) (number amount : Nat) : Except TableFault Plan :=
  withBorrower s number fun d i b =>
    let applied := min amount b.fines
    let owed := min maxFines (b.fines - applied)
    pure (.commits (finesImages d i b owed (applied != 0)) (t.orderEntry .pay number 0 applied owed)
      ((amount - applied : Nat) : Int))

def planPayFine (s : State) (t : Txn) : Plan :=
  let o := t.order
  t.orderPlan .one true (o.a == 0 || decide (maxFines < o.a)) (payFineRead s t o.borrower o.a)

/-- The fines owed after an adjustment (R78). -/
def adjustedFines (owed : Nat) (amount : Int) : Nat := min maxFines ((owed : Int) + amount).toNat

def adjustFineRead (s : State) (t : Txn) (number : Nat) (amount : Int) : Except TableFault Plan :=
  withBorrower s number fun d i b =>
    let owed := adjustedFines b.fines amount
    let change : Int := (owed : Int) - (b.fines : Int)
    pure (.commits (finesImages d i b owed (change != 0)) (t.orderEntry .fineAdjust number 0 (signed32 change) owed) change)

/-- An adjustment of 0, or one outside −999,999..999,999 (R78). -/
def adjustLimit (amount : Int) : Bool := amount == 0 || decide (amount < -999999) || decide (999999 < amount)

def planAdjustFine (s : State) (t : Txn) : Plan :=
  let o := t.order
  t.orderPlan .one true (adjustLimit (ofSigned32 o.a)) (adjustFineRead s t o.borrower (ofSigned32 o.a))

/-! ## Center notices (R79 to R81) -/

def Plan.notice (applied : Bool) : Plan := .only (.notice applied)

/-- The entry of a notice: source CENTER (R80, R81). -/
def noticePlan (t : Txn) (images : List Image) (k : EntryKind) (borrower origin day : Nat) : Plan :=
  { images := images
    entry := some { kind := k, source := .center, flags := {}, stamp := t.at, borrower := borrower, item := 0,
                    value1 := origin, value2 := day }
    result := .notice true }

/-- Steps 2 and 3 of R79. -/
def noticeRead (s : State) (t : Txn) (n : CenterNotice) : Except TableFault Plan := do
  let d ← (Draft.start s.mem s.geometry).touch .borrower
  match ← d.lookup .borrower n.borrower with
  | none => pure (.notice false)
  | some i =>
    let b := d.borrower i
    if n.action = 1 then
      pure (noticePlan t (d.putBorrower i { b with center := some (n.origin, n.day) }).images .centerBlock n.borrower
        n.origin n.day)
    else
      match b.center with
      | none => pure (.notice true)
      | some x =>
        pure (noticePlan t (d.putBorrower i { b with center := none }).images .centerClear n.borrower x.1 x.2)

/-- An action or a number that no notice may carry (step 2 of R79). -/
def noticeMalformed (n : CenterNotice) : Bool := (n.action != 1 && n.action != 2) || !borrowerInRange n.borrower

def planNotice (s : State) (t : Txn) (n : CenterNotice) : Plan :=
  match t.gate .one true with
  | some _ => .notice false
  | none => if noticeMalformed n then .notice false else planOf (.notice false) (noticeRead s t n)

/-- The notice of a transaction. -/
def Txn.notice (t : Txn) : CenterNotice :=
  match t.kind with
  | .notice n => n
  | _ => { borrower := 0, action := 0, origin := 0, day := 0 }

/-! ## Meanings -/

/-- ADD_BORROWER (R71). -/
def execAddBorrower (s : State) : Host.Outcome State Fault Refusal := s.runTxn (isOrder kindAddBorrower) planAddBorrower

/-- UPDATE_BORROWER (R72). -/
def execUpdateBorrower (s : State) : Host.Outcome State Fault Refusal :=
  s.runTxn (isOrder kindUpdateBorrower) planUpdateBorrower

/-- REMOVE_BORROWER (R73). -/
def execRemoveBorrower (s : State) : Host.Outcome State Fault Refusal :=
  s.runTxn (isOrder kindRemoveBorrower) planRemoveBorrower

/-- SET_BLOCK (R74). -/
def execSetBlock (s : State) : Host.Outcome State Fault Refusal := s.runTxn (isOrder kindSetBlock) planSetBlock

/-- CLEAR_BLOCK (R75). -/
def execClearBlock (s : State) : Host.Outcome State Fault Refusal := s.runTxn (isOrder kindClearBlock) planClearBlock

/-- PAY_FINE (R77). -/
def execPayFine (s : State) : Host.Outcome State Fault Refusal := s.runTxn (isOrder kindPayFine) planPayFine

/-- ADJUST_FINE (R78). -/
def execAdjustFine (s : State) : Host.Outcome State Fault Refusal := s.runTxn (isOrder kindAdjustFine) planAdjustFine

/-- CENTER_NOTICE (R79 to R81, R173). -/
def execCenterNotice (s : State) : Host.Outcome State Fault Refusal :=
  s.runTxn (fun k => match k with | .notice _ => true | _ => false) fun s t => planNotice s t t.notice

end Sys2Proof.Machine
end

