-- ==== Sys2Proof/Machine/Loan.lean ====
section
/-! DEFINITION. The station transactions (chapter 5): labels that change nothing (R92), checkout (R93 to R95), renewal (R96 to
R98), return with its trap (R99 to R102), and the two inquiries (R103, R104): their plans, and the meanings of their steps. -/

namespace Sys2Proof.Machine

open Config

/-! ## What a refusal names -/

/-- The station of a transaction. -/
def Txn.stationContext (t : Txn) (s : State) : Station :=
  match t.requester with
  | .station i => s.station i
  | _ => .reset

def Txn.labelNumber (t : Txn) : Nat := (t.label.map Label.number).getD 0

/-- The session borrower (R25: it cannot change while a label is in flight). -/
def Txn.session (t : Txn) (s : State) : Session := (t.stationContext s).session.getD { number := 0, index := nullIndex }

/-- A refusal at a station: the numbers that label and session name (R35). -/
def Txn.refusal (t : Txn) (s : State) (r : Reason) : StationResult :=
  match t.label.map Label.kind with
  | some .item =>
    { refused := true, reason := r, item := t.labelNumber,
      borrower := ((t.stationContext s).session.map Session.number).getD 0 }
  | _ => { refused := true, reason := r, borrower := t.labelNumber }

/-- A refusal BORROWER_BLOCKED with the set (R68). -/
def Txn.blocked (t : Txn) (s : State) (b : Blocks) : StationResult := { t.refusal s .borrowerBlocked with blocks := b }

def Txn.refuse (t : Txn) (s : State) (r : Reason) : Plan := .only (.station (t.refusal s r))

/-- What the station receives when its transaction is abandoned (R65, R41). -/
def Txn.abandoned (t : Txn) (s : State) : TxnResult := haltedResult t (t.refusal s .deskHalted)

/-- The gates of a station transaction, then its read phase (R90, R89). -/
def Txn.gated (t : Txn) (s : State) (c : RoomClass) (clock : Bool) (read : Except TableFault Plan) : Plan :=
  match t.gate c clock with
  | some r => t.refuse s r
  | none => planOf (t.abandoned s) read

/-- The entry a station's commit writes (R95, R98, R102). -/
def Txn.entry (t : Txn) (k : EntryKind) (f : EntryFlags) (borrower item value1 value2 : Nat) : EntryBody :=
  { kind := k, source := t.requester, flags := f, stamp := t.at, borrower := borrower, item := item, value1 := value1,
    value2 := value2 }

/-- REVERSED and KEYED of the transaction's label (R95). -/
def Txn.labelFlags (t : Txn) : EntryFlags := (t.label.map EntryFlags.ofLabel).getD {}

/-- The item class of a lookup: the record's, or the class map's (R93, check 3; R116). -/
def Draft.classOf (d : Draft) (rules : Rules) (number : Nat) : Option Nat → Nat
  | some i => (d.item i).itemClass
  | none => rules.classOfNumber number

/-! ## Labels that change nothing (R92) -/

def planSessionOpen (s : State) (t : Txn) : Plan :=
  t.gated s .none true do
    let d ← (Draft.start s.mem s.geometry).touch .borrower
    match ← d.lookup .borrower t.labelNumber with
    | none => pure (t.refuse s .unknownBorrower)
    | some i =>
      let set := (d.borrower i).blocks t.rules t.stamp
      if set.any then pure (.only (.station (t.blocked s set)))
      else
        pure (.only (.station
          { refused := false, reason := .sessionOpened, borrower := t.labelNumber,
            opens := some { number := t.labelNumber, index := i } }))

def planSessionRefresh (s : State) (t : Txn) : Plan :=
  t.gated s .none true
    (pure (.only (.station { refused := false, reason := .sessionOpened, borrower := (t.session s).number })))

def planNoBorrower (s : State) (t : Txn) : Plan := t.gated s .none true (pure (t.refuse s .noBorrower))

def planWrongLabel (s : State) (t : Txn) : Plan := t.gated s .none true (pure (t.refuse s .wrongLabel))

/-! ## Renewal (R96 to R98) -/

/-- The due stamp and flags a renewal keeps: the later of the present and the new (R98). -/
def renewedDue (r : ItemRecord) (new : DueStamp) : DueStamp :=
  if r.due.later new.due then
    { due := r.due, flags := { DueFlags.empty with hourLoan := r.hourLoan, clamped := r.clamped } }
  else new

/-- The commit of R98 for item record `i` of the session borrower. -/
def renewalCommit (s : State) (t : Txn) (d : Draft) (i : Nat) (b : BorrowerRecord) (p : PolicyEntry) : Plan :=
  let se := t.session s
  let r := d.item i
  let fine := t.rules.fine p r.hourLoan r.due t.at
  let kept := renewedDue r (t.rules.dueStamp p t.at b.expiry)
  let flags := { kept.flags with renewed := true }
  let d1 := (d.putItem i
      { r with due := kept.due, renewCount := r.renewCount + 1, hourLoan := flags.hourLoan, clamped := flags.clamped }).putBorrower
    se.index { b with fines := raiseFines b.fines fine, activity := t.at.day }
  { images := d1.images
    entry := some (t.entry .renew
      { t.labelFlags with hourLoan := flags.hourLoan, clamped := flags.clamped, limited := flags.limited, renewed := true }
      se.number t.labelNumber fine (kept.due.day * 1440 + kept.due.minute))
    result := .station
      { refused := false, reason := .renewed, borrower := se.number, item := t.labelNumber, due := kept.due, fine := fine,
        entry := some { item := t.labelNumber, due := kept.due, flags := flags } } }

/-- The checks of R97 from its check 2. -/
def renewalFromPolicy (s : State) (t : Txn) (d : Draft) (i : Nat) (b : BorrowerRecord) : Plan :=
  let r := d.item i
  let p := t.rules.policyEntry r.itemClass b.cls
  if p.kind = .none then t.refuse s .notLoanable
  else if r.queue ≠ [] then t.refuse s .holdsWaiting
  else if p.renewLimit ≤ r.renewCount then t.refuse s .renewLimit
  else renewalCommit s t d i b p

/-- NOT_ON_LOAN of a renewal: item, session borrower and the state as read (R35, R96). -/
def renewalNotOnLoan (s : State) (t : Txn) (st : ItemState) : Plan :=
  .only (.station
    { refused := false, reason := .notOnLoan, borrower := (t.session s).number, item := t.labelNumber, itemState := some st })

def planRenewal (s : State) (t : Txn) : Plan :=
  t.gated s .aboveReserve true do
    let d0 ← (Draft.start s.mem s.geometry).touch .borrower
    match d0.sessionBorrower (t.session s) with
    | none => pure (t.refuse s .unknownBorrower)
    | some b =>
      let d ← d0.touch .item
      match ← d.lookup .item t.labelNumber with
      | none => pure (renewalNotOnLoan s t .onShelf)
      | some i =>
        if (d.item i).state ≠ some .onLoan then pure (renewalNotOnLoan s t ((d.item i).state.getD .free))
        else if (d.item i).borrower ≠ (t.session s).index then pure (t.refuse s .onLoanElsewhere)
        else
          let set := b.blocks t.rules t.stamp
          if set.any then pure (.only (.station (t.blocked s set))) else pure (renewalFromPolicy s t d i b)

/-! ## Checkout (R93 to R95) -/

/-- The item record a checkout writes (R94). -/
def ItemRecord.lent (r : ItemRecord) (index day : Nat) (due : DueStamp) (queue : List HoldEntry) : ItemRecord :=
  { r with state := some .onLoan, borrower := index, due := due.due, loanDay := day, renewCount := 0,
           hourLoan := due.flags.hourLoan, clamped := due.flags.clamped, deadline := 0, shelfNext := nullIndex, queue := queue }

/-- A record for an item that had none (R46, R48). -/
def ItemRecord.fresh (number itemClass : Nat) (st : ItemState) : ItemRecord :=
  { count := 0, state := some st, itemClass := itemClass, number := number, borrower := nullIndex, due := .zero, loanDay := 0,
    renewCount := 0, hourLoan := false, clamped := false, queue := [], deadline := 0, shelfNext := nullIndex,
    chainNext := nullIndex }

/-- Entry and result of a committed checkout (R94, R95); `fulfils`: the borrower's own hold; `shelf`: the item left the
hold-shelf list. -/
def checkoutPlan (s : State) (t : Txn) (d : Draft) (b : BorrowerRecord) (due : DueStamp) (fulfils shelf : Bool) : Plan :=
  let se := t.session s
  let d1 := d.putBorrower se.index
    { b with loans := b.loans + 1, activity := t.at.day, holds := if fulfils then b.holds - 1 else b.holds }
  { images := d1.images
    entry := some (t.entry .checkout
      { t.labelFlags with hourLoan := due.flags.hourLoan, clamped := due.flags.clamped, limited := due.flags.limited,
                          holdFulfilled := fulfils }
      se.number t.labelNumber due.due.day due.due.minute)
    shelfChanged := shelf
    result := .station
      { refused := false, reason := .checkedOut, borrower := se.number, item := t.labelNumber, due := due.due,
        entry := some { item := t.labelNumber, due := due.due, flags := { due.flags with holdFulfilled := fulfils } } } }

/-- A checkout of an item without a record (checks 5 and 6 of R93, R94). -/
def checkoutNew (s : State) (t : Txn) (d : Draft) (b : BorrowerRecord) (itemClass : Nat) (p : PolicyEntry) :
    Except TableFault Plan := do
  match ← d.takeFree .item with
  | none => pure (t.refuse s .tableFull)
  | some (i, next) =>
    let due := t.rules.dueStamp p t.at b.expiry
    let r := (ItemRecord.fresh t.labelNumber itemClass .onLoan).lent (t.session s).index t.at.day due []
    pure (checkoutPlan s t (d.insertItem i next r) b due false false)

/-- A fulfilment: the head borrower takes item record `i` (R94). -/
def checkoutHeld (s : State) (t : Txn) (d : Draft) (b : BorrowerRecord) (i : Nat) (p : PolicyEntry) :
    Except TableFault Plan := do
  let due := t.rules.dueStamp p t.at b.expiry
  let onList := (d.item i).state == some .onHoldShelf
  let d1 ← if onList then d.shelfRemove i else pure d
  let r := (d1.item i).lent (t.session s).index t.at.day due (d.item i).queue.tail
  pure (checkoutPlan s t (d1.putItem i r) b due true onList)

/-- Checks 5 and 6 of R93 and the commit, for an item that passes check 4; `found` its record. -/
def checkoutPass (s : State) (t : Txn) (d : Draft) (b : BorrowerRecord) (found : Option Nat) (p : PolicyEntry) :
    Except TableFault Plan :=
  if (t.rules.borrowerClass b.cls).loanLimit ≤ b.loans then pure (t.refuse s .loanLimit)
  else match found with
    | none => checkoutNew s t d b (t.rules.classOfNumber t.labelNumber) p
    | some i => checkoutHeld s t d b i p

/-- Check 4 of R93. -/
def checkoutState (s : State) (t : Txn) (d : Draft) (b : BorrowerRecord) (found : Option Nat) (p : PolicyEntry) :
    Except TableFault Plan :=
  match found with
  | none => checkoutPass s t d b none p
  | some i =>
    match (d.item i).state with
    | some .onLoan =>
      if (d.item i).borrower = (t.session s).index then pure (renewalFromPolicy s t d i b)
      else pure (t.refuse s .onLoanElsewhere)
    | some .lost => pure (t.refuse s .itemLost)
    | some .withdrawn => pure (t.refuse s .itemWithdrawn)
    | _ =>
      if (d.item i).head = (t.session s).index then checkoutPass s t d b (some i) p
      else pure (t.refuse s .heldForOther)

def planCheckout (s : State) (t : Txn) : Plan :=
  t.gated s .aboveReserve true do
    let d0 ← (Draft.start s.mem s.geometry).touch .borrower
    match d0.sessionBorrower (t.session s) with
    | none => pure (t.refuse s .unknownBorrower)
    | some b =>
      let set := b.blocks t.rules t.stamp
      if set.any then pure (.only (.station (t.blocked s set)))
      else
        let d ← d0.touch .item
        let found ← d.lookup .item t.labelNumber
        let p := t.rules.policyEntry (d.classOf t.rules t.labelNumber found) b.cls
        if p.kind = .none then pure (t.refuse s .notLoanable) else checkoutState s t d b found p

/-! ## Traps (R101, R136) -/

/-- The HOLD slip of an item put on the hold shelf (R136, R180). -/
def holdSlip (station : Option (Fin 4)) (stamp : Stamp) (item head deadline : Nat) : Slip :=
  { kind := .hold, station := station, stamp := some stamp, borrower := 0,
    entries := [{ item := item, due := .zero, flags := .empty }], holdBorrower := head, deadline := deadline, text := [] }

/-- The RESHELVE slip (R136, R180). -/
def reshelveSlip (stamp : Stamp) (item : Nat) : Slip :=
  { kind := .reshelve, station := none, stamp := some stamp, borrower := 0,
    entries := [{ item := item, due := .zero, flags := .empty }], holdBorrower := 0, deadline := 0, text := [] }

/-- The item is put on the hold shelf for the head of `queue`, with a new deadline (R101, R134, R142). It answers the draft,
the deadline and the head borrower's number; that borrower's index is checked as R64 gives, hold entry `k` being where it
stands in desk memory. It is checked, and the record read, before the insertion walk: where both would find a fault, that of the
head borrower is found first (log entry 39, DESIGN CHOICE: R53, R64 and R101 do not order the two). -/
def Draft.shelve (d : Draft) (i k : Nat) (queue : List HoldEntry) (deadline : Nat) :
    Except TableFault (Draft × Nat) := do
  let head ← d.holdBorrower i k ((queue.head?.map HoldEntry.borrower).getD nullIndex)
  let r := { (d.item i).cleared .onHoldShelf nullIndex with queue := queue, deadline := deadline }
  let d1 ← d.shelfInsert i r
  pure (d1, head.number)

/-! ## Return (R99 to R102) -/

/-- What a return settles: the borrower charged with its record, the fine, and the entry's flags besides TRAPPED. -/
structure Settled where
  borrower : Nat
  fine : Nat
  flags : EntryFlags
  deriving DecidableEq, Repr

/-- The plan of a return that changes the tables (R102). -/
def returnPlan (t : Txn) (d : Draft) (x : Settled) (deadline : Option Nat) (slip : Option Slip) : Plan :=
  { images := d.images
    entry := some (t.entry .returned { x.flags with trapped := deadline.isSome } x.borrower t.labelNumber x.fine
      (deadline.getD 0))
    slip := slip
    shelfChanged := deadline.isSome
    result := .station
      { refused := false, reason := .returned, borrower := x.borrower, item := t.labelNumber, fine := x.fine,
        itemState := some (if deadline.isSome then .onHoldShelf else .onShelf), trapped := deadline.isSome } }

/-- The station a slip of this transaction names. -/
def Txn.stationOf (t : Txn) : Option (Fin 4) :=
  match t.requester with
  | .station i => some i
  | _ => none

/-- The item leaves its borrower: trapped when its queue holds an entry, else freed (R100, R101). -/
def returnItemRecord (s : State) (t : Txn) (d : Draft) (i : Nat) (x : Settled) : Except TableFault Plan :=
  if (d.item i).queue = [] ∧ (d.item i).state ≠ some .onShelf then do
    let d1 ← d.removeItem i
    pure (returnPlan t d1 x none none)
  else do
    let deadline := t.rules.pickupDeadline t.at.day s.settings.pickupDays
    let y ← d.shelve i 0 (d.item i).queue deadline
    pure (returnPlan t y.1 x (some deadline) (some (holdSlip t.stationOf t.at t.labelNumber y.2 deadline)))

/-- The return of an ON_LOAN item (R100). -/
def returnOnLoan (s : State) (t : Txn) (d : Draft) (i : Nat) : Except TableFault Plan := do
  let b ← d.itemBorrower i
  let r := d.item i
  let fine := t.rules.fine (t.rules.policyEntry r.itemClass b.cls) r.hourLoan r.due t.at
  let d1 := d.putBorrower r.borrower { b with loans := b.loans - 1, fines := raiseFines b.fines fine }
  returnItemRecord s t d1 i
    { borrower := b.number, fine := fine, flags := { t.labelFlags with overdue := t.at.later r.due } }

/-- The return of a LOST item (R100). -/
def returnLost (s : State) (t : Txn) (d : Draft) (i : Nat) : Except TableFault Plan := do
  let b ← d.itemBorrower i
  let d1 := d.putBorrower (d.item i).borrower { b with lost := b.lost - 1 }
  returnItemRecord s t d1 i { borrower := b.number, fine := 0, flags := { t.labelFlags with found := true } }

/-- A return that finds nothing to change (R99). -/
def returnUnchanged (t : Txn) (r : Reason) (st : ItemState) : Plan :=
  .only (.station { refused := false, reason := r, item := t.labelNumber, itemState := some st })

def planReturn (s : State) (t : Txn) : Plan :=
  t.gated s .one true do
    let d0 ← (Draft.start s.mem s.geometry).touch .item
    match ← d0.lookup .item t.labelNumber with
    | none => pure (returnUnchanged t .notOnLoan .onShelf)
    | some i =>
      match (d0.item i).state with
      | some .onHoldShelf => pure (returnUnchanged t .alreadyOnHoldShelf .onHoldShelf)
      | some .withdrawn => pure (t.refuse s .itemWithdrawn)
      | some .onLoan => do
        let d ← d0.touch .borrower
        returnOnLoan s t d i
      | some .lost => do
        let d ← d0.touch .borrower
        returnLost s t d i
      | _ => do
        let d ← d0.touch .borrower
        returnItemRecord s t d i { borrower := 0, fine := 0, flags := t.labelFlags }

/-! ## Inquiries (R103, R104) -/

def planBorrowerInquiry (s : State) (t : Txn) : Plan :=
  t.gated s .none false do
    let d ← (Draft.start s.mem s.geometry).touch .borrower
    match ← d.lookup .borrower t.labelNumber with
    | none => pure (t.refuse s .unknownBorrower)
    | some i =>
      let b := d.borrower i
      pure (.only (.station
        { refused := false, reason := .inquiryBorrower, borrower := t.labelNumber,
          due := { day := b.expiry, minute := b.loans }, fine := b.fines, blocks := b.blocks t.rules t.stamp }))

/-- The slate values of an ITEM_INQUIRY (R104). -/
def itemInquiryResult (t : Txn) (borrower : Nat) (due : Stamp) (fine : Nat) (st : ItemState) : Plan :=
  .only (.station
    { refused := false, reason := .inquiryItem, borrower := borrower, item := t.labelNumber, due := due, fine := fine,
      itemState := some st })

/-- The fine a return at the stamp would charge, 0 with the clock unset (R104). -/
def inquiryFine (t : Txn) (r : ItemRecord) (b : BorrowerRecord) : Nat :=
  match t.stamp with
  | none => 0
  | some st => t.rules.fine (t.rules.policyEntry r.itemClass b.cls) r.hourLoan r.due st

/-- The table of R104 for item record `i`. -/
def itemInquiryOf (t : Txn) (d : Draft) (i : Nat) : Except TableFault Plan :=
  let r := d.item i
  match r.state with
  | some .withdrawn => pure (itemInquiryResult t 0 .zero 0 .withdrawn)
  | some .onLoan => do
    let b ← d.itemBorrower i
    pure (itemInquiryResult t b.number r.due (inquiryFine t r b) .onLoan)
  | some .lost => do
    let b ← d.itemBorrower i
    pure (itemInquiryResult t b.number .zero 0 .lost)
  | some .onHoldShelf => do
    let b ← d.holdBorrower i 0 r.head
    pure (itemInquiryResult t b.number { day := r.deadline, minute := 1439 } 0 .onHoldShelf)
  | _ => do
    let b ← d.holdBorrower i 0 r.head
    pure (itemInquiryResult t b.number .zero 0 .onShelf)

def planItemInquiry (s : State) (t : Txn) : Plan :=
  t.gated s .none false do
    let d0 ← (Draft.start s.mem s.geometry).touch .item
    match ← d0.lookup .item t.labelNumber with
    | none => pure (itemInquiryResult t 0 .zero 0 .onShelf)
    | some i =>
      if (d0.item i).state = some .withdrawn then itemInquiryOf t d0 i
      else do
        let d ← d0.touch .borrower
        itemInquiryOf t d i

/-! ## Meanings -/

/-- SESSION_OPEN (R92). -/
def execSessionOpen (s : State) : Host.Outcome State Fault Refusal :=
  s.runTxn (fun k => match k with | .sessionOpen _ => true | _ => false) planSessionOpen

/-- SESSION_REFRESH (R92). -/
def execSessionRefresh (s : State) : Host.Outcome State Fault Refusal :=
  s.runTxn (· == .sessionRefresh) planSessionRefresh

/-- NO_BORROWER (R92). -/
def execNoBorrower (s : State) : Host.Outcome State Fault Refusal := s.runTxn (· == .noBorrower) planNoBorrower

/-- WRONG_LABEL (R92). -/
def execWrongLabel (s : State) : Host.Outcome State Fault Refusal := s.runTxn (· == .wrongLabel) planWrongLabel

/-- CHECKOUT (R93 to R95). -/
def execCheckout (s : State) : Host.Outcome State Fault Refusal := s.runTxn (· == .checkout) planCheckout

/-- RENEWAL (R96 to R98). -/
def execRenewal (s : State) : Host.Outcome State Fault Refusal := s.runTxn (· == .renewal) planRenewal

/-- RETURN (R99 to R102). -/
def execReturnItem (s : State) : Host.Outcome State Fault Refusal := s.runTxn (· == .returnItem) planReturn

/-- BORROWER_INQUIRY (R103). -/
def execBorrowerInquiry (s : State) : Host.Outcome State Fault Refusal :=
  s.runTxn (· == .borrowerInquiry) planBorrowerInquiry

/-- ITEM_INQUIRY (R104). -/
def execItemInquiry (s : State) : Host.Outcome State Fault Refusal := s.runTxn (· == .itemInquiry) planItemInquiry

end Sys2Proof.Machine
end

