-- ==== Sys2Proof/Machine/Hold.lean ====
section
/-! DEFINITION. Holds (chapter 7): PLACE_HOLD (R130, R131), CANCEL_HOLD (R132 to R135) and the day sweep step (R141 to R144). -/

namespace Sys2Proof.Machine

open Config

/-- Numbers of a hold order outside their ranges (R130, R132). -/
def holdLimits (o : Order) : Bool := !itemInRange o.item || !borrowerInRange o.borrower

/-! ## PLACE_HOLD -/

/-- Checks 4 to 7 of R130 on an item with a record. -/
def ItemRecord.refusesHold (r : ItemRecord) (borrower : Nat) : Option Reason :=
  if r.state = some .lost then some .itemLost
  else if r.state = some .withdrawn then some .itemWithdrawn
  else if r.state = some .onLoan ∧ r.borrower = borrower then some .holdingOwnLoan
  else if r.queue.any fun e => e.borrower == borrower then some .duplicate
  else if 6 ≤ r.queue.length then some .holdLimit
  else none

/-- The commit of R131; `position` is the new entry's place, 1..6. -/
def placeHoldPlan (t : Txn) (d : Draft) (j : Nat) (b : BorrowerRecord) (item position : Nat) : Plan :=
  .commits (d.putBorrower j { b with holds := b.holds + 1 }).images
    (t.orderEntry .holdPlaced b.number item position (b.holds + 1)) position

/-- Check 8 of R130. -/
def atHoldLimit (rules : Rules) (b : BorrowerRecord) : Bool := decide ((rules.borrowerClass b.cls).holdLimit ≤ b.holds)

/-- Checks 4 to 9 of R130 and the commit. -/
def placeHoldItem (t : Txn) (d : Draft) (j : Nat) (b : BorrowerRecord) (item : Nat) (found : Option Nat) :
    Except TableFault Plan :=
  let entry : HoldEntry := { borrower := j, placed := t.at.day }
  match found with
  | some i =>
    match (d.item i).refusesHold j with
    | some r => pure (.refused r)
    | none =>
      if atHoldLimit t.rules b then pure (.refused .holdLimit)
      else
        pure (placeHoldPlan t (d.putItem i { d.item i with queue := (d.item i).queue ++ [entry] }) j b item
          ((d.item i).queue.length + 1))
  | none =>
    if atHoldLimit t.rules b then pure (.refused .holdLimit)
    else do
      match ← d.takeFree .item with
      | none => pure (.refused .tableFull)
      | some (i, next) =>
        let r := { ItemRecord.fresh item (t.rules.classOfNumber item) .onShelf with queue := [entry] }
        pure (placeHoldPlan t (d.insertItem i next r) j b item 1)

def placeHoldRead (s : State) (t : Txn) (item number : Nat) : Except TableFault Plan :=
  withBorrower s number fun d0 j b => do
    let set := b.blocks t.rules t.stamp
    if set.any then
      pure (.only (.order { outcome := .refused, reason := some .borrowerBlocked, blocks := set }))
    else do
      let d ← d0.touch .item
      let found ← d.lookup .item item
      if t.rules.allowsHolds (d.classOf t.rules item found) then placeHoldItem t d j b item found
      else pure (.refused .holdsNotAllowed)

def planPlaceHold (s : State) (t : Txn) : Plan :=
  let o := t.order
  t.orderPlan .aboveReserve true (holdLimits o) (placeHoldRead s t o.item o.borrower)

/-! ## The head of a hold-shelf item leaves (R134, R142) -/

/-- What follows for the item: the draft, the new deadline of a promotion, and the slip. -/
structure Moved where
  draft : Draft
  deadline : Option Nat
  slip : Slip
  deriving DecidableEq, Repr

/-- Record `i` leaves the list: promotion of the next entry, or reshelving (R134, R142). At a promotion the removal walk comes
first, then the check of the new head's borrower index and the read of its record, then the insertion walk: the first fault in
this order is the one found (log entry 39, DESIGN CHOICE: R53, R54, R64 and R134 do not order these checks). -/
def moveOn (s : State) (t : Txn) (d : Draft) (i : Nat) : Except TableFault Moved := do
  let number := (d.item i).number
  let rest := (d.item i).queue.tail
  let d1 ← d.shelfRemove i
  if rest.isEmpty then do
    let d2 ← d1.removeItem i
    pure { draft := d2, deadline := none, slip := reshelveSlip t.at number }
  else do
    let deadline := t.rules.pickupDeadline t.at.day s.settings.pickupDays
    let x ← d1.shelve i 1 rest deadline
    pure { draft := x.1, deadline := some deadline, slip := holdSlip none t.at number x.2 deadline }

/-- PROMOTED or RESHELVED (R135, R143). -/
def Moved.flags (m : Moved) : EntryFlags := { promoted := m.deadline.isSome, reshelved := m.deadline.isNone }

/-- One hold fewer for a borrower (R132, R142). -/
def Draft.dropHold (d : Draft) (j : Nat) (b : BorrowerRecord) : Draft :=
  d.putBorrower j { b with holds := b.holds - 1 }

/-! ## CANCEL_HOLD -/

/-- The entry of a cancellation (R135). -/
def cancelEntry (t : Txn) (flags : EntryFlags) (borrower item position deadline : Nat) : EntryBody :=
  { t.orderEntry .holdCancelled borrower item position deadline with flags := flags }

/-- A cancellation that leaves the hold-shelf list alone (R133). -/
def cancelQuiet (t : Txn) (d : Draft) (i j k : Nat) (b : BorrowerRecord) (item : Nat) : Except TableFault Plan := do
  let rest := (d.item i).queue.eraseIdx k
  let d1 ← if (d.item i).state = some .onShelf ∧ rest.isEmpty then d.removeItem i
    else pure (d.putItem i { d.item i with queue := rest })
  pure (.commits (d1.dropHold j b).images (cancelEntry t {} b.number item (k + 1) 0) rest.length)

/-- A cancellation of the head of an ON_HOLD_SHELF item (R134). -/
def cancelHead (s : State) (t : Txn) (d : Draft) (i j : Nat) (b : BorrowerRecord) (item : Nat) : Except TableFault Plan := do
  let m ← moveOn s t d i
  pure
    { images := (m.draft.dropHold j b).images
      entry := some (cancelEntry t m.flags b.number item 1 (m.deadline.getD 0))
      slip := some m.slip
      shelfChanged := true
      result := .order (.done (d.item i).queue.tail.length) }

def cancelHoldRead (s : State) (t : Txn) (item number : Nat) : Except TableFault Plan :=
  withBorrower s number fun d0 j b => do
    let d ← d0.touch .item
    match ← d.lookup .item item with
    | none => pure (.refused .notFound)
    | some i =>
      match (d.item i).queue.findIdx? fun e => e.borrower == j with
      | none => pure (.refused .notFound)
      | some k =>
        if k = 0 ∧ (d.item i).state = some .onHoldShelf then cancelHead s t d i j b item
        else cancelQuiet t d i j k b item

def planCancelHold (s : State) (t : Txn) : Plan :=
  let o := t.order
  t.orderPlan .one true (holdLimits o) (cancelHoldRead s t o.item o.borrower)

/-! ## The day sweep step -/

def Plan.sweepEnds : Plan := .only (.sweep .done)

/-- An expiring step on the record at the head of the list, whose head hold is of borrower `b` (R142, R143). -/
def expireHead (s : State) (t : Txn) (d : Draft) (i : Nat) (b : BorrowerRecord) : Except TableFault Plan := do
  let r := d.item i
  let m ← moveOn s t d i
  pure
    { images := (m.draft.dropHold r.head b).images
      entry := some
        { kind := .holdExpired, source := .sweep, flags := m.flags, stamp := t.at, borrower := b.number, item := r.number,
          value1 := r.deadline, value2 := m.deadline.getD 0 }
      slip := some m.slip
      result := .sweep .goesOn }

/-- The three decisions of R141. The record at the head of the list and its head hold's borrower are checked before the decision. -/
def sweepRead (s : State) (t : Txn) : Except TableFault Plan := do
  let d0 ← (Draft.start s.mem s.geometry).touch .item
  match ← d0.seekShelfFromHead fun _ _ => true with
  | (_, none) => pure .sweepEnds
  | (_, some i) =>
    let d ← d0.touch .borrower
    let b ← d.holdBorrower i 0 (d.item i).head
    if t.at.day ≤ (d.item i).deadline then pure .sweepEnds else expireHead s t d i b

/-- A sweep step (R141); at room 0 it waits (R144). -/
def planSweepStep (s : State) (t : Txn) : Plan :=
  match t.gate .one true with
  | some .journalFull => .only (.sweep .journalFull)
  | some _ => .sweepEnds
  | none => planOf (.sweep .done) (sweepRead s t)

/-! ## Meanings -/

/-- PLACE_HOLD (R130, R131). -/
def execPlaceHold (s : State) : Host.Outcome State Fault Refusal := s.runTxn (isOrder kindPlaceHold) planPlaceHold

/-- CANCEL_HOLD (R132 to R135). -/
def execCancelHold (s : State) : Host.Outcome State Fault Refusal := s.runTxn (isOrder kindCancelHold) planCancelHold

/-- DAY_SWEEP_STEP (R141 to R144). -/
def execDaySweepStep (s : State) : Host.Outcome State Fault Refusal := s.runTxn (· == .sweepStep) planSweepStep

end Sys2Proof.Machine
end

