-- ==== Sys2Proof/Machine/Item.lean ====
section
/-! DEFINITION. The item orders (R105 to R107), SET_CLOCK (R111, R112) and FORMAT_TABLES (R56, R57): their plans, and the
meanings of their steps. -/

namespace Sys2Proof.Machine

open Config

/-- The read phase of an order that names an item: the draft with the item table touched, and the item's record. -/
def withItem (s : State) (number : Nat) (f : Draft → Option Nat → Except TableFault Plan) : Except TableFault Plan := do
  let d ← (Draft.start s.mem s.geometry).touch .item
  let found ← d.lookup .item number
  f d found

/-! ## DECLARE_LOST (R105) -/

/-- The commit of R105 on record `i` of borrower record `b`. -/
def declareLostPlan (t : Txn) (d : Draft) (i : Nat) (b : BorrowerRecord) (item : Nat) : Plan :=
  let r := d.item i
  let d1 := (d.putItem i (r.cleared .lost r.borrower)).putBorrower r.borrower
    { b with loans := b.loans - 1, lost := b.lost + 1 }
  .commits d1.images (t.orderEntry .lost b.number item r.due.day (b.lost + 1)) ((b.lost + 1 : Nat) : Int)

def declareLostRead (s : State) (t : Txn) (item : Nat) : Except TableFault Plan :=
  withItem s item fun d0 found =>
    match found with
    | none => pure (.refused .notOnLoan)
    | some i =>
      if (d0.item i).state ≠ some .onLoan then pure (.refused .notOnLoan)
      else do
        let d ← d0.touch .borrower
        let b ← d.itemBorrower i
        if 15 ≤ b.lost then pure (.refused .hasLost) else pure (declareLostPlan t d i b item)

def planDeclareLost (s : State) (t : Txn) : Plan :=
  let o := t.order
  t.orderPlan .aboveReserve true (!itemInRange o.item) (declareLostRead s t o.item)

/-! ## WITHDRAW (R106) -/

/-- An item without a record is withdrawn: a record is created. -/
def withdrawNew (t : Txn) (d : Draft) (item : Nat) : Except TableFault Plan := do
  match ← d.takeFree .item with
  | none => pure (.refused .tableFull)
  | some (i, next) =>
    let r := ItemRecord.fresh item (t.rules.classOfNumber item) .withdrawn
    pure (.commits (d.insertItem i next r).images (t.orderEntry .withdrawn 0 item 0 0) 1)

/-- A LOST item is withdrawn. -/
def withdrawLost (t : Txn) (d0 : Draft) (i item : Nat) : Except TableFault Plan := do
  let d ← d0.touch .borrower
  let b ← d.itemBorrower i
  let r := d.item i
  let d1 := (d.putItem i (r.cleared .withdrawn nullIndex)).putBorrower r.borrower { b with lost := b.lost - 1 }
  pure (.commits d1.images (t.orderEntry .withdrawn b.number item 1 0) 0)

/-- The table of R106. An ON_SHELF record with an empty queue, which only a host write in breach of R66 makes and R106 does not list,
is refused HAS_HOLDS (log entry 16, DESIGN CHOICE). -/
def withdrawRead (s : State) (t : Txn) (item : Nat) : Except TableFault Plan :=
  withItem s item fun d found =>
    match found with
    | none => withdrawNew t d item
    | some i =>
      match (d.item i).state with
      | some .lost => if (d.item i).queue = [] then withdrawLost t d i item else pure (.refused .hasHolds)
      | some .onLoan => pure (.refused .onLoanElsewhere)
      | some .onHoldShelf => pure (.refused .alreadyOnHoldShelf)
      | some .withdrawn => pure (.refused .itemWithdrawn)
      | _ => pure (.refused .hasHolds)

def planWithdraw (s : State) (t : Txn) : Plan :=
  let o := t.order
  t.orderPlan .aboveReserve true (!itemInRange o.item) (withdrawRead s t o.item)

/-! ## RELEASE (R107) -/

def releaseRead (s : State) (t : Txn) (item : Nat) : Except TableFault Plan :=
  withItem s item fun d found =>
    match found with
    | none => pure (.refused .notFound)
    | some i =>
      if (d.item i).state ≠ some .withdrawn then pure (.refused .notFound)
      else do
        let d1 ← d.removeItem i
        pure (.commits d1.images (t.orderEntry .released 0 item 0 0) i)

def planRelease (s : State) (t : Txn) : Plan :=
  let o := t.order
  t.orderPlan .aboveReserve true (!itemInRange o.item) (releaseRead s t o.item)

/-! ## SET_CLOCK (R111, R112) -/

/-- The reading a SET_CLOCK sets. -/
def Order.clock (o : Order) : Clock := { day := o.a, minute := lowHalf o.b, second := highHalf o.b, isSet := true }

def clockLimit (o : Order) : Bool :=
  decide (65535 < o.a) || decide (1439 < lowHalf o.b) || decide (59 < highHalf o.b)

/-- Old or new reading as value 1 and value 2 hold it. -/
def Clock.minutes (c : Clock) : Nat := if c.isSet then c.day * 1440 + c.minute else 0

/-- The commit of R111, without table images. The old reading of the entry is the clock's at this step (log entry 36, DESIGN CHOICE:
R111 says only 'the old reading'). -/
def setClockPlan (s : State) (c : Clock) : Plan :=
  { entry := some
      { kind := .clockSet, source := .order, flags := { unset := !s.clock.isSet },
        stamp := { day := c.day, minute := c.minute }, borrower := 0, item := 0, value1 := s.clock.minutes,
        value2 := c.minutes }
    clock := some c
    result := .order (.done (if clockMovesOn s.clock c then 1 else 0)) }

def planSetClock (s : State) (t : Txn) : Plan :=
  let o := t.order
  t.orderPlan .aboveReserve false (clockLimit o) (pure (setClockPlan s o.clock))

/-! ## FORMAT_TABLES (R56, R57) -/

/-- Capacity and exponent of an operand: low and high half (R206). -/
structure Extent where
  address : Nat
  capacity : Nat
  exponent : Nat
  deriving DecidableEq, Repr

def Extent.length (e : Extent) (size : Nat) : Nat := extentLength e.exponent size e.capacity

def Extent.sized (e : Extent) : Bool :=
  decide (1 ≤ e.capacity) && decide (e.capacity ≤ 65534) && decide (8 ≤ e.exponent) && decide (e.exponent ≤ 16)

def Order.itemExtent (o : Order) (g : Geometry) : Extent :=
  { address := g.itemTable, capacity := lowHalf o.a, exponent := highHalf o.a }

def Order.borrowerExtent (o : Order) (g : Geometry) : Extent :=
  { address := g.borrowerTable, capacity := lowHalf o.b, exponent := highHalf o.b }

/-- Checks 2 and 3 of R56. -/
def formatLimit (g : Geometry) (i b : Extent) : Bool :=
  !i.sized || !b.sized || !g.inWindow i.address (i.length itemSize) || !g.inWindow b.address (b.length borrowerSize)
    || extentsOverlap i.address (i.length itemSize) b.address (b.length borrowerSize)

/-- The chain-next index of record `i` of a fresh pool (step 2 of R57). -/
def nextFree (capacity i : Nat) : Nat := if i + 1 < capacity then i + 1 else nullIndex

def freeItemWords (next : Nat) : List Nat := ((ItemRecord.fresh 0 0 .free).freed next).words

def freeBorrowerWords (next : Nat) : List Nat := ((BorrowerRecord.fresh 0 0 0).freed next).words

/-- Step 2 for one table: every record, in index order. -/
def poolWrites (e : Extent) (size : Nat) (words : Nat → List Nat) : List WordWrite :=
  (List.range e.capacity).flatMap fun i => putWords (recordAddress e.address e.exponent size i) (words (nextFree e.capacity i))

/-- Step 3 for one table: every bucket word null. -/
def bucketWrites (e : Extent) : List WordWrite :=
  putWords (bucketAddress e.address 0) (List.replicate (2 ^ e.exponent) nullIndex)

/-- Step 4 for one table: the header from its offset 2. -/
def headerWrites (e : Extent) : List WordWrite :=
  putWords (e.address + 2) [e.capacity, bytePair e.exponent 0, 0, 0, nullIndex, nullIndex, 0]

/-- A header's count raised by `n` (steps 1 and 5). -/
def countWrite (m : Memory) (e : Extent) (n : Nat) : WordWrite := { addr := e.address, word := (m.read16 e.address + n) % 65536 }

/-- Steps 1 to 5 of R57, the item table first in each. -/
def formatWrites (m : Memory) (i b : Extent) : List WordWrite :=
  [countWrite m i 1, countWrite m b 1] ++ poolWrites i itemSize freeItemWords ++ poolWrites b borrowerSize freeBorrowerWords
    ++ bucketWrites i ++ bucketWrites b ++ headerWrites i ++ headerWrites b ++ [countWrite m i 2, countWrite m b 2]

/-- An accepted FORMAT_TABLES (R57). -/
def formatPlan (s : State) (t : Txn) (i b : Extent) : Plan :=
  { before := formatWrites s.mem i b
    entry := some (t.orderEntry .tablesFormatted 0 0 i.capacity b.capacity)
    shelfChanged := (Header.read s.mem s.geometry.itemTable).shelfHead != nullIndex
    result := .order (.done ((i.capacity + b.capacity : Nat) : Int)) }

/-- FORMAT_TABLES; check 4 is what the grant found (R56). -/
def planFormatTables (s : State) (t : Txn) : Plan :=
  let i := t.order.itemExtent s.geometry
  let b := t.order.borrowerExtent s.geometry
  t.orderPlan .aboveReserve true (formatLimit s.geometry i b)
    (pure (if t.busy then .refused .busy else formatPlan s t i b))

/-! ## Meanings -/

/-- DECLARE_LOST (R105). -/
def execDeclareLost (s : State) : Host.Outcome State Fault Refusal := s.runTxn (isOrder kindDeclareLost) planDeclareLost

/-- WITHDRAW (R106). -/
def execWithdraw (s : State) : Host.Outcome State Fault Refusal := s.runTxn (isOrder kindWithdraw) planWithdraw

/-- RELEASE (R107). -/
def execRelease (s : State) : Host.Outcome State Fault Refusal := s.runTxn (isOrder kindRelease) planRelease

/-- SET_CLOCK (R111, R112). -/
def execSetClock (s : State) : Host.Outcome State Fault Refusal := s.runTxn (isOrder kindSetClock) planSetClock

/-- FORMAT_TABLES (R56, R57). -/
def execFormatTables (s : State) : Host.Outcome State Fault Refusal :=
  s.runTxn (isOrder kindFormatTables) planFormatTables

end Sys2Proof.Machine
end

