-- ==== Sys2Proof/Machine/Mark.lean ====
section
/-! DEFINITION. The three marks (R154): UPLOAD_STARTED with the cut (R156, R170), UPLOAD_ENDED (R157, R175) and PAGES_RELEASED
(R158): their plans, and the meanings of their steps. -/

namespace Sys2Proof.Machine

/-- The group write of an omitted mark, on desk memory `m` (R154). -/
def markOmittedWrites (m : Memory) (group : Nat) : List WordWrite :=
  groupWrites m group (putWords (group + 8) [sat16 (m.read16 (group + 8) + 1)])

/-- The entry of a mark. -/
def markEntry (t : Txn) (k : EntryKind) (value1 value2 : Nat) : EntryBody :=
  { kind := k, source := t.requester, flags := {}, stamp := t.at, borrower := 0, item := 0, value1 := value1,
    value2 := value2 }

/-- A mark after the writes `before` and with the view `view` of its grant, at room `t.room`: committed, or omitted at a gate
(R154). -/
def markPlan (s : State) (t : Txn) (before : List WordWrite) (view : Journal) (e : EntryBody) : Plan :=
  match t.gate .aboveReserve true with
  | none => { before := before, view := some view, entry := some e, result := .mark none }
  | some r =>
    { before := before ++ markOmittedWrites (s.mem.apply before) s.groupAddress, view := some view, result := .mark (some r) }

/-- UPLOAD_STARTED: the cut comes before the gates, which see the room it leaves (R156). -/
def planUploadStarted (s : State) (t : Txn) : Plan :=
  let cut := s.journal.cut s.geometry s.mem s.groupAddress
  markPlan s { t with room := cut.view.room } cut.writes cut.view (markEntry t .uploadStarted s.journal.lastSequence cut.view.cutCount)

/-- Value 2 of UPLOAD_ENDED: pages taken and notices applied, as the report holds them (R175). -/
def uploadTally (s : State) : Nat := s.anchor16 offPagesTaken * 65536 + s.anchor16 offApplied

/-- UPLOAD_ENDED: the cut count becomes 0 at the grant (R157). -/
def planUploadEnded (s : State) (t : Txn) : Plan :=
  markPlan s t [] { s.journal with cutCount := 0 } (markEntry t .uploadEnded s.upload.endReason.code (uploadTally s))

/-- Operands of PAGES_RELEASED. -/
def Txn.released (t : Txn) : Nat × Nat :=
  match t.kind with
  | .pagesReleased pages last => (pages, last)
  | _ => (0, 0)

/-- PAGES_RELEASED (R158, steps 4 and 5). -/
def planPagesReleased (s : State) (t : Txn) : Plan :=
  markPlan s t [] s.journal (markEntry t .pagesReleased t.released.1 t.released.2)

/-! ## Meanings -/

/-- UPLOAD_STARTED (R156, R170): the cut sequence is handed over with the cut. -/
def execUploadStarted (s : State) : Host.Outcome State Fault Refusal :=
  match s.busyWith (· == .uploadStarted) with
  | none => .next s
  | some t =>
    .next ((s.withUpload { s.upload with cutSequence := s.journal.lastSequence }).carryOut t (planUploadStarted s t))

/-- UPLOAD_ENDED (R157, R175). -/
def execUploadEnded (s : State) : Host.Outcome State Fault Refusal := s.runTxn (· == .uploadEnded) planUploadEnded

/-- PAGES_RELEASED (R154, R158). -/
def execPagesReleased (s : State) : Host.Outcome State Fault Refusal :=
  s.runTxn (fun k => match k with | .pagesReleased _ _ => true | _ => false) planPagesReleased

end Sys2Proof.Machine
end

