-- ==== Sys2Proof/Machine/Reports.lean ====
section
/-! DEFINITION. The three reports (R202): operand checks, walks with the checks of R64, entries in the layouts of R206, as
transactions in an OPEN desk and as the executor's own walks in a HALTED one. -/

namespace Sys2Proof.Machine

open Config

/-! ## Targets -/

/-- Where a report writes, or none when an operand check fails; `mode` 0 FIXED, 1 SET, 2 NEXT (R202). -/
def reportTarget (s : State) (o : Order) : Option Nat :=
  let a := if o.reportMode = 2 then s.executor.pointer else o.target
  if o.capacity = 0 ∨ 2 < o.reportMode ∨ (o.reportMode = 2 ∧ s.executor.pointer = 0) ∨ a % 16 ≠ 0
      ∨ ¬ s.geometry.inWindow a (16 * o.capacity) ∨ (o.kind = kindReportOverdue ∧ 65535 < o.a) then none
  else some a

/-- The running pointer after `n` entries written at `a`: FIXED leaves it as it is, SET has set it to `a`, also when a gate or
NOT_FOUND ends the order before a walk (R202). -/
def reportPointer (o : Order) (a n : Nat) : Option Nat := if o.reportMode = 0 then none else some (a + 16 * n)

/-! ## Walks -/

/-- What a walk has found: the entries written, whether more matched than the capacity, a fault, or NOT_FOUND. -/
structure ReportRun where
  entries : List (List Nat)
  truncated : Bool := false
  fault : Option TableFault := none
  unknown : Bool := false
  deriving DecidableEq, Repr

/-- The words of one entry, from the tables as they stand when the record is read, or none when the record does not match. -/
abbrev ReportPick := Draft → Nat → ItemRecord → Except TableFault (Option (List Nat))

/-- One more matching record, at most `capacity` written. -/
def ReportRun.add (r : ReportRun) (capacity : Nat) (e : List Nat) : ReportRun :=
  if r.entries.length < capacity then { r with entries := r.entries ++ [e] } else { r with truncated := true }

/-- The tables after entry `n` is written at the target `a`, as it is found (R202): what is read later, when the target lies over a
table, is read from what is written. The headers stay as the walk's first access has read them (R42). -/
def Draft.record (d : Draft) (a n : Nat) (e : List Nat) : Draft := { d with mem := d.mem.apply (putWords (a + 16 * n) e) }

/-- A pool walk over records `i`, `i + 1`, …, `n` of them, writing its entries at `a` (R64, R202). With the capacity reached it goes on to the next matching
record, whose checks it makes before the report ends DONE_TRUNCATED (log entry 36, DESIGN CHOICE: R202 says only that the
walk stops at the capacity). -/
def poolWalk (d : Draft) (pick : ReportPick) (a capacity : Nat) (r : ReportRun) (i : Nat) : Nat → ReportRun
  | 0 => r
  | n + 1 =>
    if !d.inside .item i then { r with fault := some (d.recordFault .item .tableWindow i) }
    else if (d.item i).state.isNone then { r with fault := some (d.recordFault .item .tableRecord i) }
    else
      match pick d i (d.item i) with
      | .error f => { r with fault := some f }
      | .ok none => poolWalk d pick a capacity r (i + 1) n
      | .ok (some e) =>
        let r1 := r.add capacity e
        if r1.truncated then r1 else poolWalk (d.record a r.entries.length e) pick a capacity r1 (i + 1) n

/-- The end of a shelf walk, `left` records still expected (R64). -/
def shelfEnd (d : Draft) (r : ReportRun) (pred : Option Nat) (left : Nat) : ReportRun :=
  if left ≠ 0 ∨ pred.getD nullIndex ≠ d.itemHeader.shelfTail then { r with fault := some (d.shelfFault pred) } else r

/-- A walk of the hold-shelf list from index `i`, found in the field at `field` of record `pred`, with the checks of a shelf
walk (R64, R202); the last argument counts the records still expected. Entries and capacity as for `poolWalk`; each record is
read whole before its entry is written. -/
def shelfWalk (d : Draft) (pick : ReportPick) (a capacity : Nat) (r : ReportRun) (pred : Option Nat)
    (previous field i : Nat) : Nat → ReportRun
  | 0 =>
    if i = nullIndex then shelfEnd d r pred 0
    else if d.itemHeader.capacity ≤ i then { r with fault := some (indexFault .item pred field) }
    else { r with fault := some (d.shelfFault (some i)) }
  | n + 1 =>
    if i = nullIndex then shelfEnd d r pred (n + 1)
    else if d.itemHeader.capacity ≤ i then { r with fault := some (indexFault .item pred field) }
    else if !d.inside .item i then { r with fault := some (d.recordFault .item .tableWindow i) }
    else if !shelfRecordOk (d.item i) previous then { r with fault := some (d.shelfFault (some i)) }
    else
      match pick d i (d.item i) with
      | .error f => { r with fault := some f }
      | .ok none => r
      | .ok (some e) =>
        let r1 := r.add capacity e
        if r1.truncated then r1
        else shelfWalk (d.record a r.entries.length e) pick a capacity r1 (some i) (d.item i).deadline
          (d.address .item i + 26) (d.item i).shelfNext n

/-- REPORT_OVERDUE: a loan due before the stamp, at least `m` days before its day. The borrower table is touched at the first
record that names a borrower to be read, before any entry is written: on `start` (R42, R63). -/
def pickOverdue (start : Draft) (st : Stamp) (m : Nat) : ReportPick := fun d i r =>
  if r.state = some .onLoan ∧ st.later r.due = true ∧ r.due.day + m ≤ st.day then
    match (start.touch .borrower).bind fun _ => d.itemBorrower i with
    | .error f => .error f
    | .ok b => .ok (some (words64 r.number ++ words32 b.number ++ [r.due.day, r.due.minute]))
  else .ok none

/-- REPORT_BORROWER_LOANS: an item ON_LOAN or LOST that names borrower record `j`. -/
def pickLoans (j : Nat) : ReportPick := fun _ _ r =>
  if (r.state = some .onLoan ∨ r.state = some .lost) ∧ r.borrower = j then
    .ok (some (words64 r.number
      ++ [r.due.day, r.due.minute, bytePair (itemStateCode r.state) r.renewCount,
          bytePair (bitOf r.hourLoan 0 + bitOf r.clamped 1) 0]))
  else .ok none

/-- REPORT_HOLD_SHELF: every record of the list; the borrower table is touched as for `pickOverdue`. -/
def pickShelf (start : Draft) : ReportPick := fun d i r =>
  match (start.touch .borrower).bind fun _ => d.holdBorrower i 0 r.head with
  | .error f => .error f
  | .ok b => .ok (some (words64 r.number ++ words32 b.number ++ [r.deadline, bytePair r.queue.length 0]))

/-- A walk that could not begin. -/
def runOfFault (x : Except TableFault ReportRun) : ReportRun :=
  match x with
  | .ok r => r
  | .error f => { entries := [], fault := some f }

/-- The walk of a report at a stamp, its entries written at `a` (R202). REPORT_BORROWER_LOANS looks its borrower up before it walks; the other two touch the
borrower table at the first record whose borrower they read. -/
def reportRun (s : State) (o : Order) (st : Stamp) (a : Nat) : ReportRun :=
  runOfFault do
    let d0 := Draft.start s.mem s.geometry
    if o.kind = kindReportBorrowerLoans then do
      let d1 ← d0.touch .borrower
      match ← d1.lookup .borrower o.borrower with
      | none => pure { entries := [], unknown := true }
      | some j => do
        let d ← d1.touch .item
        pure (poolWalk d (pickLoans j) a o.capacity { entries := [] } 0 d.itemHeader.capacity)
    else do
      let d ← d0.touch .item
      if o.kind = kindReportOverdue then
        pure (poolWalk d (pickOverdue d st o.a) a o.capacity { entries := [] } 0 d.itemHeader.capacity)
      else
        pure (shelfWalk d (pickShelf d) a o.capacity { entries := [] } none 0 (d.geometry.itemTable + 10)
          d.itemHeader.shelfHead d.itemHeader.shelfCount)

/-- The writes of the entries, in the order they were found. -/
def reportWrites (a : Nat) : List (List Nat) → List WordWrite
  | [] => []
  | e :: es => putWords a e ++ reportWrites (a + 16) es

/-- DONE, DONE_TRUNCATED or NOT_FOUND of a walk without a fault. -/
def ReportRun.result (r : ReportRun) : OrderResult :=
  if r.unknown then .refused .notFound
  else { outcome := if r.truncated then .doneTruncated else .done, count := r.entries.length }

/-- The report as a transaction in OPEN: operand checks (log entry 24, DEDUCED), halt and clock gates, walk (R202). A fault refuses
the order DESK_HALTED with the number of entries written (log entry 33, DESIGN CHOICE: R202 gives the count, R65 the outcome and
the reason alone). -/
def planReport (s : State) (t : Txn) : Plan :=
  match reportTarget s t.order with
  | none => .only (.order .limit)
  | some a =>
    match t.gate .none true with
    | some r => { Plan.refused r with pointer := reportPointer t.order a 0 }
    | none =>
      let run := reportRun s t.order t.at a
      { before := reportWrites a run.entries
        pointer := reportPointer t.order a run.entries.length
        fault := run.fault
        result := .order (if run.fault.isSome then { OrderResult.refused .deskHalted with count := run.entries.length }
          else run.result) }

/-- The report of a HALTED desk: the executor's own walk at the stamp of the take-up (R202). -/
def State.reportHalted (s : State) (o : Order) (stamp : Option Stamp) : State :=
  match reportTarget s o, stamp with
  | none, _ => s.finishOrder .limit
  | some a, none => (s.movePointer (reportPointer o a 0)).finishOrder (.refused .clockUnset)
  | some a, some st =>
    let run := reportRun s o st a
    ((s.writeAll (reportWrites a run.entries)).movePointer (reportPointer o a run.entries.length)).finishOrder
      (if run.fault.isSome then { outcome := .limit, count := run.entries.length } else run.result)

/-- A report: the executor's own when it was taken up in a HALTED desk, the engine's otherwise (R202, R205). -/
def State.runReport (s : State) (kind : Nat) : Host.Outcome State Fault Refusal :=
  match s.orderAt kind .owner with
  | some o => .next (s.reportHalted o (s.currentOrder.bind TakenOrder.stamp))
  | none => s.runTxn (isOrder kind) planReport

/-! ## Meanings -/

/-- REPORT_OVERDUE (R202). -/
def execReportOverdue (s : State) : Host.Outcome State Fault Refusal := s.runReport kindReportOverdue

/-- REPORT_BORROWER_LOANS (R202). -/
def execReportBorrowerLoans (s : State) : Host.Outcome State Fault Refusal := s.runReport kindReportBorrowerLoans

/-- REPORT_HOLD_SHELF (R202). -/
def execReportHoldShelf (s : State) : Host.Outcome State Fault Refusal := s.runReport kindReportHoldShelf

end Sys2Proof.Machine
end

