-- ==== Sys2Proof/Machine/Executor.lean ====
section
/-! DEFINITION. The work list executor (R198 to R201): posts, list starts, the take-up of orders, END; the orders of the stations
(R33, R34), of the calendar (R115), of the journal writer (R158), of the printer (R181) and of the executor itself (R203). -/

namespace Sys2Proof.Machine

/-! ## Posts (R199) -/

/-- What the fault record says of an address the part may not use (R197). -/
def addressNote (reason : StateReason) (a : Nat) : FaultNote :=
  { reason := reason, table := none, index := none, address := a, requester := some .order }

/-- A post or a list that names an address the part may not use: the fault record, then MEMORY_FAULT (R197; the order of the two
is log entry 41, DESIGN CHOICE). -/
def State.listFault (s : State) (reason : StateReason) (a : Nat) : State :=
  (s.writeFault (addressNote reason a)).raise .memoryFault

/-- The last two rows of R199: the window is tested in OPEN and HALTED alone. -/
def State.post (s : State) (a : Nat) : State :=
  if s.attached then
    if a % 32 ≠ 0 ∨ ¬ s.geometry.inWindow a 32 then s.listFault .postAddress a
    else s.withExecutor { s.executor with slot := some a }
  else if a % 32 ≠ 0 then s.raise .memoryFault
  else s.withExecutor { s.executor with slot := some a }

/-- WORKLIST_WRITE (R199). -/
def execWorklistWrite (value : RegWord) (s : State) : Host.Outcome State Fault Refusal :=
  if value.toNat = 0 then .next s
  else if s.desk.state = .unanchored ∨ s.executor.slot.isSome then .next (s.raise .postLost)
  else .next (s.post value.toNat)

/-- A list starts at `a` (R199). -/
def Executor.begin (e : Executor) (a : Nat) : Executor :=
  { e with slot := none, prefetched := none, pointer := 0
           running := some { start := a, address := a, taken := 0, stopped := false, current := none } }

/-- LIST_START (R199): the window is tested again for a list posted while ANCHORING. -/
def execListStart (s : State) : Host.Outcome State Fault Refusal :=
  match s.executor.slot, s.executor.running with
  | some a, none =>
    if s.attached then
      if s.geometry.inWindow a 32 then .next (s.withExecutor (s.executor.begin a))
      else .next ((s.withExecutor { s.executor with slot := none }).listFault .postAddress a)
    else .next s
  | _, _ => .next s

/-! ## The take-up of an order (R200, R201) -/

/-- The next block: the prefetched copy, or as it stands in desk memory. -/
def State.nextBlock (s : State) (l : RunningList) : List Byte := s.executor.prefetched.getD (s.mem.bytes l.address 32)

/-- The block after `l`'s, read ahead when it lies within the window (R200, R201). A block outside it is not read, and nothing else
comes of this test until the close: the fault waits for the next ORDER_TAKE_UP (log entry 41, DESIGN CHOICE). -/
def State.prefetch (s : State) (l : RunningList) : Option (List Byte) :=
  if s.geometry.inWindow (l.address + 32) 32 then some (s.mem.bytes (l.address + 32) 32) else none

/-- What an order waits for first: a grant when the engine carries it out, else its owner (R85, R205). -/
def State.firstWait (s : State) (o : Order) : OrderWait :=
  if o.isEngines ∨ (o.isReport ∧ s.desk.state = .opened) then .grant else .owner

/-- The outcome the executor itself gives an order as it is taken up (R200, R201; log entry 25, DESIGN CHOICE). -/
def State.takeUpOutcome (s : State) (l : RunningList) (o : Order) : Option OrderOutcome :=
  if l.stopped ∧ o.kind ≠ kindEnd then some .skipped
  else if 25 < o.kind then some .badOrder
  else if s.desk.state = .halted ∧ ¬ o.runsHalted then some .halted
  else none

/-- Order `o` of list `l` is taken up (step 1 of R200). One that ends HALTED here has reason 0 and result count 0 (log entry 40,
DESIGN CHOICE). -/
def State.takeUp (s : State) (l : RunningList) (o : Order) : State :=
  let t : TakenOrder := { order := o, wait := s.firstWait o, stamp := s.reading }
  let s1 := s.withExecutor
    { s.executor with
      running := some { l with taken := l.taken + 1, current := some t }
      prefetched := if o.kind = kindEnd then none else s.prefetch l }
  match s.takeUpOutcome l o with
  | some r => s1.finishOrder { outcome := r }
  | none => s1

/-- ORDER_TAKE_UP (R200, R201): the next order, or the close TOO_LONG. R201 gives a next block outside the window MEMORY_FAULT, the
record LIST_WINDOW and the close, has the window tested before the prefetch and the list closed where the block would have been
taken up, and does not say at which of the two points the fault comes, nor on which side of the list group's write: here both
come at the close, the fault record first, then MEMORY_FAULT, then the list group and LIST_DONE (log entry 41, DESIGN CHOICE). -/
def execOrderTakeUp (s : State) : Host.Outcome State Fault Refusal :=
  match s.executor.running with
  | none => .next s
  | some l =>
    if l.current.isSome ∨ ¬ s.attached then .next s
    else if ¬ s.geometry.inWindow l.address 32 then .next ((s.listFault .listWindow l.address).closeList .tooLong)
    else
      let o := Order.ofBlock (s.nextBlock l)
      if 256 ≤ l.taken ∧ o.kind ≠ kindEnd then .next (s.closeList .tooLong) else .next (s.takeUp l o)

/-- END (R201). -/
def execEndList (s : State) : Host.Outcome State Fault Refusal :=
  match s.orderAt kindEnd .owner with
  | none => .next s
  | some _ => .next ((s.finishOrder (.done 0)).closeList .done)

/-! ## Station orders (R33, R34) -/

/-- A station number 0..3. -/
def stationOf (n : Nat) : Option (Fin 4) := if h : n < 4 then some ⟨n, h⟩ else none

/-- SET_STATION_MODE (R33): the operands, and the mode-change wait. -/
def execSetStationMode (s : State) : Host.Outcome State Fault Refusal :=
  match s.orderAt kindSetStationMode .owner with
  | none => .next s
  | some o =>
    match stationOf o.a, Mode.ofCode o.b with
    | some i, some _ => .next ((s.setStation i { s.station i with modeWait := true }).orderWaits .flight)
    | _, _ => .next (s.finishOrder .limit)

/-- MODE_CHANGE_FINISH (R33), once nothing is in flight; a desk that has halted meanwhile ends the order HALTED. -/
def execModeChangeFinish (s : State) : Host.Outcome State Fault Refusal :=
  match s.orderAt kindSetStationMode .flight with
  | none => .next s
  | some o =>
    match stationOf o.a, Mode.ofCode o.b with
    | some i, some m =>
      if (s.station i).inFlight.isSome then .next s
      else if s.desk.state = .halted then
        .next ((s.setStation i { s.station i with modeWait := false }).finishOrder { outcome := .halted })
      else .next (s.changeMode i m)
    | _, _ => .next s

/-- The label a KEYED_LABEL order gives, or none when an operand is out of its range (R34). -/
def Order.keyedLabel (o : Order) : Option Label :=
  if o.b = 1 ∧ itemInRange o.item then some { kind := .item, number := o.item, direction := .forward, tag := .keyed }
  else if o.b = 2 ∧ borrowerInRange o.borrower then
    some { kind := .borrower, number := o.borrower, direction := .forward, tag := .keyed }
  else none

/-- The outcome of a keyed label at a CLOSED station (R34). -/
def keyedClosedOutcome (l : Label) : SlateOutcome :=
  match l.kind with
  | .item => { SlateOutcome.bare .stationClosed with refused := true, item := l.number }
  | .borrower => { SlateOutcome.bare .stationClosed with refused := true, borrower := l.number }

/-- A keyed label arrives at station `i` (R24, R34). -/
def State.keyedArrival (s : State) (i : Fin 4) (l : Label) : State :=
  let t := s.station i
  if t.mode = .closed then
    let o := { keyedClosedOutcome l with sessionItems := t.items.length }
    let s1 := s.setStation i (t.offer o .keyedClosed)
    if t.canEnter then s1.finishOrder (.refused .stationClosed) else s1.orderWaits .buffer
  else if t.slot.isNone then (s.setStation i (t.enterSlot l s.settings.sessionTimeout)).orderWaits .slate
  else s.orderWaits .slot

/-- KEYED_LABEL (R34). -/
def execKeyedLabel (s : State) : Host.Outcome State Fault Refusal :=
  match s.orderAt kindKeyedLabel .owner with
  | none => .next s
  | some o =>
    match stationOf o.a, o.keyedLabel with
    | some i, some l => .next (s.keyedArrival i l)
    | _, _ => .next (s.finishOrder .limit)

/-- KEYED_LABEL_ENTER (R34): the label arrives again once the slot is empty. -/
def execKeyedLabelEnter (s : State) : Host.Outcome State Fault Refusal :=
  match s.orderAt kindKeyedLabel .slot with
  | none => .next s
  | some o =>
    match stationOf o.a, o.keyedLabel with
    | some i, some l => if (s.station i).slot.isSome then .next s else .next (s.keyedArrival i l)
    | _, _ => .next s

/-! ## RELOAD_RULES and RELOAD_SETTINGS (R115, R203) -/

/-- Steps 2 to 4 of R115, the engine HELD or IDLE. The copy is taken whole: a restart that stops the order
before its end is begun leaves the old rules whole, and one that stops it later finds the new rules whole (log entry 36, DESIGN
CHOICE: R115 says a stopped copy 'may be left part old and part new'). -/
def State.reloadRules (s : State) : State :=
  let c := copyRules s.mem s.geometry.rulesArea
  ((s.withRules c.1).withEngine { s.engine with state := .idle, holdAsked := false }).finishOrder (.done c.2)

/-- RELOAD_RULES (R88, R115): the hold is asked for, or, once the engine is IDLE or HELD, taken, used and released. -/
def execReloadRules (s : State) : Host.Outcome State Fault Refusal :=
  match s.orderAt kindReloadRules .owner, s.orderAt kindReloadRules .hold with
  | some _, _ =>
    if s.engine.state = .busy then .next ((s.withEngine { s.engine with holdAsked := true }).orderWaits .hold)
    else .next s.reloadRules
  | none, some _ => if s.engine.state = .busy then .next s else .next s.reloadRules
  | none, none => .next s

/-- RELOAD_SETTINGS (R203): every value is handed to its block at once. -/
def execReloadSettings (s : State) : Host.Outcome State Fault Refusal :=
  match s.orderAt kindReloadSettings .owner with
  | none => .next s
  | some _ =>
    let c := copySettings s.mem s.geometry.settingsBlock
    .next ((s.takeSettings c.1).finishOrder (.done c.2))

/-! ## RELEASE_PAGES (R158) -/

/-- The last sequence of the newest of the `n` oldest pages. -/
def Journal.lastReleased (j : Journal) (n : Nat) : Nat :=
  let pg := j.page (j.ring.getD (n - 1) 0)
  wrap32 (pg.first + pg.count + 4294967295)

/-- RELEASE_PAGES (steps 1 to 3 of R158), which then stands for its mark. Taken up in OPEN, it goes on as in OPEN when the desk has
halted meanwhile (log entry 36, DESIGN CHOICE: R200 leaves this to the owner's rule, and R158 gives none). -/
def execReleasePages (s : State) : Host.Outcome State Fault Refusal :=
  match s.orderAt kindReleasePages .owner with
  | none => .next s
  | some o =>
    if o.a < 1 ∨ 128 < o.a ∨ s.journal.fullAtOldEnd < o.a then .next (s.finishOrder .limit)
    else .next ((s.freePages o.a).orderWaits (.markGrant o.a (s.journal.lastReleased o.a)))

/-! ## PRINT_TEXT (R181) -/

/-- The lines of a PRINT_TEXT as they stand in desk memory. -/
def textLines (m : Memory) (a : Nat) : Nat → List (List Nat)
  | 0 => []
  | n + 1 => (m.bytes a 24).map BitVec.toNat :: textLines m (a + 24) n

/-- The TEXT slip (R180). -/
def textSlip (reading : Option Stamp) (text : List (List Nat)) : Slip :=
  { kind := .text, station := none, stamp := reading, borrower := 0, entries := [], holdBorrower := 0, deadline := 0,
    text := text }

/-- PRINT_TEXT (R181). -/
def execPrintText (s : State) : Host.Outcome State Fault Refusal :=
  match s.orderAt kindPrintText .owner with
  | none => .next s
  | some o =>
    if o.a < 1 ∨ 8 < o.a ∨ ¬ s.geometry.inWindow o.b (24 * o.a) then .next (s.finishOrder .limit)
    else
      .next ((s.requestSlip (textSlip s.reading (textLines s.mem o.b o.a))).finishOrder
        { outcome := .done, count := if s.slipLost then 0 else o.a, slipLost := s.slipLost })

end Sys2Proof.Machine
end

