-- ==== Sys2Proof/Machine/Clock.lean ====
section
/-! DEFINITION. The desk clock's second (R109) with the day change and the upload minute event (R110). -/

namespace Sys2Proof.Machine

/-- The clock at the end of its range, where it stops (R109). -/
def Clock.atEnd (c : Clock) : Bool := c.day == 65535 && c.minute == 1439 && c.second == 59

/-- The clock one second on. -/
def Clock.tick (c : Clock) : Clock :=
  if c.second < 59 then { c with second := c.second + 1 }
  else if c.minute < 1439 then { c with second := 0, minute := c.minute + 1 }
  else { c with second := 0, minute := 0, day := c.day + 1 }

/-- The day change: DAY_CHANGED, and in OPEN or HALTED the sweep is asked to start (R109). -/
def State.dayChange (s : State) : State :=
  let s1 := s.raise .dayChanged
  if s.attached then s1.withSweep s1.sweep.start else s1

/-- The events of an advance from `old` to the clock of `s` (R109, R110). -/
def State.clockEvents (s : State) (old : Clock) : State :=
  let s1 := if s.clock.day = old.day then s else s.dayChange
  if s.clock.minute ≠ old.minute ∧ s.clock.minute = s.settings.uploadMinute then s1.uploadMinute else s1

/-- CLOCK_SECOND (R108, R109, R110). -/
def execClockSecond (s : State) : Host.Outcome State Fault Refusal :=
  if s.clock.isSet ∧ ¬ s.clock.atEnd then .next ((s.withClock s.clock.tick).clockEvents s.clock) else .next s

end Sys2Proof.Machine
end

