-- ==== Sys2Proof/Machine/Anchoring.lean ====
section
/-! DEFINITION. Anchoring (R196): the plan of each kind of transaction, the anchor block and its checks, replay (R62), the checks of
the headers and the journal (R63, R159), normalization (R160), the copies (R115, R203), and the close of an abandoned list
(R201). The steps are carried out by ANCHORING_END in Machine/Anchor.lean. -/

namespace Sys2Proof.Machine

open Config

/-! ## Transactions by kind -/

/-- The plan of an order's transaction. -/
def planOrder (s : State) (t : Txn) (o : Order) : Plan :=
  if o.kind = kindFormatTables then planFormatTables s t
  else if o.kind = kindAddBorrower then planAddBorrower s t
  else if o.kind = kindUpdateBorrower then planUpdateBorrower s t
  else if o.kind = kindRemoveBorrower then planRemoveBorrower s t
  else if o.kind = kindSetBlock then planSetBlock s t
  else if o.kind = kindClearBlock then planClearBlock s t
  else if o.kind = kindPayFine then planPayFine s t
  else if o.kind = kindAdjustFine then planAdjustFine s t
  else if o.kind = kindDeclareLost then planDeclareLost s t
  else if o.kind = kindWithdraw then planWithdraw s t
  else if o.kind = kindRelease then planRelease s t
  else if o.kind = kindSetClock then planSetClock s t
  else if o.kind = kindPlaceHold then planPlaceHold s t
  else if o.kind = kindCancelHold then planCancelHold s t
  else planReport s t

/-- The plan of the current transaction. -/
def planTxn (s : State) (t : Txn) : Plan :=
  match t.kind with
  | .sessionOpen _ => planSessionOpen s t
  | .sessionRefresh => planSessionRefresh s t
  | .noBorrower => planNoBorrower s t
  | .wrongLabel => planWrongLabel s t
  | .checkout => planCheckout s t
  | .renewal => planRenewal s t
  | .returnItem => planReturn s t
  | .borrowerInquiry => planBorrowerInquiry s t
  | .itemInquiry => planItemInquiry s t
  | .order o => planOrder s t o
  | .pagesReleased _ _ => planPagesReleased s t
  | .sweepStep => planSweepStep s t
  | .notice n => planNotice s t n
  | .uploadStarted => planUploadStarted s t
  | .uploadEnded => planUploadEnded s t

/-! ## The anchor block (R196, R206) -/

def Geometry.read (m : Memory) (a : Nat) : Geometry :=
  { pageCount := m.read16 (a + 0x06), windowBase := m.read32 (a + 0x08), windowUnits := m.read16 (a + 0x0C),
    itemTable := m.read32 (a + 0x10), borrowerTable := m.read32 (a + 0x14), pageTable := m.read32 (a + 0x18),
    rulesArea := m.read32 (a + 0x1C), settingsBlock := m.read32 (a + 0x20), slateArea := m.read32 (a + 0x24),
    font := m.read32 (a + 0x28) }

/-- The window check. -/
def Geometry.windowOk (g : Geometry) : Bool :=
  g.windowBase % 65536 == 0 && decide (1 ≤ g.windowUnits) && decide (g.windowUnits ≤ 256)
    && decide (g.windowEnd ≤ 16777216)

/-- Every structure lies wholly within the window. -/
def Geometry.placesInside (g : Geometry) (a : Nat) : Bool :=
  g.inWindow a 792 && g.inWindow g.itemTable 16 && g.inWindow g.borrowerTable 16 && g.inWindow g.pageTable (g.pageCount * 12)
    && g.inWindow g.rulesArea 1810 && g.inWindow g.settingsBlock 100 && g.inWindow g.slateArea 192 && g.inWindow g.font 4608

/-- The alignments. -/
def Geometry.aligned (g : Geometry) (a : Nat) : Bool :=
  a % 16 == 0 && g.itemTable % 16 == 0 && g.borrowerTable % 16 == 0 && g.slateArea % 16 == 0 && g.pageTable % 2 == 0
    && g.rulesArea % 2 == 0 && g.settingsBlock % 2 == 0 && g.font % 2 == 0

/-- The first anchoring step: the reason of the first check that fails (R196). -/
def anchorCheck (m : Memory) (a : Nat) (g : Geometry) : Option StateReason :=
  if a % 16 ≠ 0 ∨ m.read32 a ≠ anchorMagic then some .badMagic
  else if m.read16 (a + 4) ≠ 1 then some .badVersion
  else if !g.windowOk then some .badWindow
  else if g.pageCount < 1 ∨ 128 < g.pageCount then some .badPageCount
  else if !g.placesInside a then some .outsideWindow
  else if !g.aligned a then some .misaligned
  else none

/-! ## Replay (R62) -/

/-- An image as the slot holds it: its byte length beside its words. -/
structure SlotImage where
  image : Image
  length : Nat
  deriving DecidableEq, Repr

def readWords (m : Memory) (a : Nat) : Nat → List Nat
  | 0 => []
  | n + 1 => m.read16 a :: readWords m (a + 2) n

/-- Image `i` of the slot; a kind other than COUNTED is taken as PLAIN (log entry 17, DESIGN CHOICE). -/
def readSlotImage (m : Memory) (slot i : Nat) : SlotImage :=
  let a := slot + 40 + 72 * i
  let length := m.read16 (a + 4)
  { image := { target := m.read32 a, counted := m.read16 (a + 6) == 1, words := readWords m (a + 8) (min (length / 2) 32) }
    length := length }

def slotImages (m : Memory) (slot : Nat) : List SlotImage :=
  (List.range (m.read16 (slot + 2))).map (readSlotImage m slot)

/-- The checks on one image. -/
def SlotImage.ok (g : Geometry) (x : SlotImage) : Bool :=
  x.length % 2 == 0 && decide (2 ≤ x.length) && decide (x.length ≤ 64) && x.image.target % 2 == 0
    && (!x.image.counted || decide (4 ≤ x.length)) && g.inWindow x.image.target x.length

/-- The checks on an ARMED slot. -/
def slotOk (g : Geometry) (m : Memory) (slot : Nat) : Bool :=
  decide (m.read16 (slot + 2) ≤ 8) && (slotImages m slot).all (SlotImage.ok g) && g.inWindow (m.read32 (slot + 4)) 32

/-- The writes of a replay; none when the slot is EMPTY, an error when a check fails. -/
def replayWrites (g : Geometry) (m : Memory) (slot : Nat) : Except Unit (List WordWrite) :=
  if m.read16 slot ≠ 1 then .ok []
  else if slotOk g m slot then
    .ok (applyWrites ((slotImages m slot).map SlotImage.image) (m.read32 (slot + 4)) (readWords m (slot + 8) 16)
      ++ [emptyWrite slot])
  else .error ()

/-! ## The steps of anchoring (R196) -/

/-- A fault at anchoring, with requester none (R197). -/
def anchorFault (r : StateReason) (t : Option TableName) (i : Option Nat) (a : Nat) : FaultNote :=
  { reason := r, table := t, index := i, address := a, requester := none }

/-- Where anchoring ends. -/
inductive AnchorEnd where
  | failed (r : StateReason)
  | halted (n : FaultNote)
  | opened (view : Journal) (rules : Rules) (settings : Settings)
  deriving DecidableEq, Repr

/-- Anchoring as far as it goes: the writes of steps 2 to 5 and its end. -/
structure AnchorRun where
  writes : List WordWrite
  ending : AnchorEnd
  deriving DecidableEq, Repr

/-- Step 5, on the memory after normalization. The settings are read with the rules clamp count written, which a settings block laid
over offset 0x0E of the anchor block shows (log entry 36, DESIGN CHOICE: R196 names the two in this order, and does not say
outright that the second copy is read after the first count is written). -/
def anchorCopies (g : Geometry) (m : Memory) (a : Nat) (before : List WordWrite) (view : Journal) : AnchorRun :=
  let rules := copyRules m g.rulesArea
  let counted : WordWrite := { addr := a + 0x0E, word := rules.2 }
  let settings := copySettings (m.writeWord counted) g.settingsBlock
  { writes := before ++ [counted, { addr := a + 0x2C, word := settings.2 }]
    ending := .opened view rules.1 settings.1 }

/-- Where a journal shape fault lies (log entries 14 and 19, DESIGN CHOICE). -/
def shapeNote (g : Geometry) (group : Nat) : ShapeFault → FaultNote
  | .page p => anchorFault .journalShape none (some p) (descriptorAddress g p)
  | .group => anchorFault .journalShape none none group

/-- Step 4, then the rest. -/
def anchorJournal (g : Geometry) (m : Memory) (a : Nat) (before : List WordWrite) : AnchorRun :=
  match checkJournal g m (a + offJournal) with
  | .error f => { writes := before, ending := .halted (shapeNote g (a + offJournal) f) }
  | .ok sh =>
    let ws := normalizationWrites g m (a + offJournal) sh
    anchorCopies g (m.apply ws) a (before ++ ws) (normalizedView sh m (a + offJournal))

/-- Step 3, then the rest. The item table is checked first (log entry 36, DESIGN CHOICE: R63 does not say which comes first). -/
def anchorHeaders (g : Geometry) (m : Memory) (a : Nat) (before : List WordWrite) : AnchorRun :=
  if !headerOk g m .item (Header.read m g.itemTable) then
    { writes := before, ending := .halted (anchorFault .tableHeader (some .item) none g.itemTable) }
  else if !headerOk g m .borrower (Header.read m g.borrowerTable) then
    { writes := before, ending := .halted (anchorFault .tableHeader (some .borrower) none g.borrowerTable) }
  else anchorJournal g m a before

/-- Steps 1 to 5. -/
def anchorRun (m : Memory) (a : Nat) : AnchorRun :=
  let g := Geometry.read m a
  match anchorCheck m a g with
  | some r => { writes := [], ending := .failed r }
  | none =>
    match replayWrites g m (a + offSlot) with
    | .error _ => { writes := [], ending := .halted (anchorFault .commitSlot none none (a + offSlot)) }
    | .ok ws => anchorHeaders g (m.apply ws) a ws

/-- The writes that close an abandoned list: ABANDONED into the outcome word of its first unfinished order, if it has one within
the window, then the list group (R201). -/
def State.abandonedWrites (s : State) (l : AbandonedList) : List WordWrite :=
  let ws := match l.address with
    | some a => if s.geometry.inWindow a 32 then [{ addr := a, word := OrderOutcome.abandoned.code }] else []
    | none => []
  ws ++ (s.writeAll ws).listWrites l.start .abandoned

end Sys2Proof.Machine
end

