-- ==== Sys2Proof/Machine/Interrupt.lean ====
section
/-! DEFINITION. What an ANCHOR write or a loss of power leaves of the work in progress at the memory port (R37, R55, R61, R158,
R195; log entries 6 and 7, DESIGN CHOICE): for each client's work its writes in order, what else has come about once a number of
them is made, and the steps that can be in progress now, in which the work comes. -/

namespace Sys2Proof.Machine

/-- What work in progress has brought about besides its writes. -/
inductive Effect where
  /-- A cause raised. -/
  | raise (c : Cause)
  /-- Every cause of some flags raised. -/
  | causes (flags : BitVec 12)
  /-- The clock set at the arm of a SET_CLOCK (R111). -/
  | clock (c : Clock)
  /-- The desk halted by a transaction's fault (R65), and the STATE reason of an anchoring that has ended (R196). -/
  | halted (r : StateReason)
  | reason (r : StateReason)
  /-- The rules and the settings copied (R115, R203; step 5 of R196). -/
  | rules (r : Rules)
  | settings (t : Settings)
  /-- The outcome of a station taken by the slate writer (R37). The writer's turn stays where it was, even after the last access (log
  entry 20, DESIGN CHOICE). -/
  | outcomeTaken (i : Fin 4)
  /-- The running list at its end, with what is left of it to abandon (R201). -/
  | listEnds (l : Option AbandonedList)
  deriving DecidableEq, Repr

/-- An effect on the state. -/
def State.effect (s : State) : Effect → State
  | .raise c => s.raise c
  | .causes f => s.withNotices { s.notices with flags := s.notices.flags ||| f }
  | .clock c => s.setClockAt c
  | .halted r => (s.withDesk { s.desk with state := .halted, reason := r }).raise .halted
  | .reason r => s.withDesk { s.desk with reason := r }
  | .rules r => s.withRules r
  | .settings t => s.takeSettings t
  | .outcomeTaken i => s.setStation i { s.station i with buffer := none, sequence := (s.station i).nextSequence }
  | .listEnds l => s.withExecutor { s.executor with running := none, abandoned := l }

/-- Work in progress: its writes in order, and each effect with the number of writes after which it has come about. -/
structure Job where
  writes : List WordWrite := []
  effects : List (Nat × Effect) := []
  deriving DecidableEq, Repr

/-- What the first `n` writes of a job leave. -/
def State.leave (s : State) (j : Job) (n : Nat) : State :=
  (j.effects.filter fun e => decide (e.1 ≤ n)).foldl (fun u e => u.effect e.2) (s.writeAll (j.writes.take n))

/-- A job that raises causes once all is written. -/
def Job.whole (ws : List WordWrite) (es : List Effect) : Job := { writes := ws, effects := es.map fun e => (ws.length, e) }

/-- An effect after `n` writes, when a condition holds. -/
def effectIf (b : Bool) (n : Nat) (e : Effect) : List (Nat × Effect) := if b then [(n, e)] else []

/-! ## The engine and anchoring (R61, R152, R160, R195) -/

/-- The writes of a transaction up to the end of its cut (R156). -/
def State.cutLength (s : State) (t : Txn) : Nat :=
  if t.kind = .uploadStarted then (s.journal.cut s.geometry s.mem s.groupAddress).writes.length else 0

/-- A transaction: its writes outside the slot and its commit, with JOURNAL_LOW at the cut and at the release of the slot (R152)
and the clock at the arm (R111); or, when it finds a fault, the fault record and the entry to HALTED (R65). -/
def State.txnJob (s : State) (t : Txn) : Job :=
  let p := planTxn s t
  match p.fault with
  | some f => Job.whole (p.before ++ (s.writeAll p.before).faultWrites (f.note (some t.requester))) [.halted f.reason]
  | none =>
    let ws := p.writes s
    { writes := ws
      effects :=
        effectIf (fellLow s.journal.room (p.journal s).room) (s.cutLength t) (.raise .journalLow)
          ++ (match p.entry, p.clock with
              | some _, some c => [(p.armed s, .clock c)]
              | _, _ => [])
          ++ effectIf (p.entry.isSome && fellLow (p.journal s).room (p.append s).view.room) ws.length (.raise .journalLow) }

/-- A job that goes on, once anchoring has ended, with the close of an abandoned list (R201). -/
def Job.thenClose (j : Job) (s : State) : Job :=
  match s.executor.abandoned with
  | none => j
  | some l =>
    let ws := j.writes ++ (s.writeAll j.writes).abandonedWrites l
    { writes := ws, effects := j.effects ++ [(ws.length, .raise .listDone), (ws.length, .listEnds none)] }

/-- The anchoring in progress: JOURNAL_LOW once normalization has written the journal group (R160), each copy once its clamp count
is written (log entry 36, DESIGN CHOICE), and the end. -/
def State.anchoringJob (s : State) : Job :=
  let r := anchorRun s.mem s.desk.anchor
  let u := s.withGeometry (Geometry.read s.mem s.desk.anchor)
  match r.ending with
  | .failed _ => {}
  | .halted n =>
    (Job.whole (r.writes ++ (s.writeAll r.writes).faultWrites n) [.reason n.reason, .raise .halted]).thenClose u
  | .opened view rules settings =>
    let k := r.writes.length
    Job.thenClose
      { writes := r.writes
        effects := effectIf (decide (view.room ≤ Config.reserve)) (k - 2) (.raise .journalLow)
          ++ [(k - 1, .rules rules), (k, .settings settings), (k, .reason .none)] } u

/-! ## The other clients -/

/-- The outcome the slate writer has begun (R37): the outcome has left its buffer and taken its sequence. -/
def State.slateJob (s : State) : Job :=
  match s.nextOutcome with
  | none => {}
  | some i =>
    match (s.station i).buffer with
    | none => {}
    | some o =>
      let ws := slateWrites s.mem (slateAddress s.geometry i) o (s.station i).nextSequence
      { writes := ws, effects := [(0, .outcomeTaken i), (ws.length, .raise .stationOutcome)] }

/-- The counter mirror begun (R19, R38). -/
def State.mirrorJob (s : State) : Job :=
  match s.nextMirror with
  | none => {}
  | some i => { writes := s.mirrorWrites i }

/-- The frees of a RELEASE_PAGES that is carried out (step 3 of R158): one access a page, oldest first. -/
def State.freesJob (s : State) : Job :=
  match s.orderAt kindReleasePages .owner with
  | none => {}
  | some o =>
    if o.a < 1 ∨ 128 < o.a ∨ s.journal.fullAtOldEnd < o.a then {}
    else { writes := (s.journal.ring.take o.a).map fun p => stateWord s.geometry p .free }

/-- A TAKEN for the frame in hand is about to move the upload on (R171). -/
def State.takenFor (s : State) : Option PartFrame :=
  match s.acceptedFrame with
  | some (.taken _) => s.upload.frame
  | _ => none

/-- The state in which the journal writer is asked for the next page: at once, or when a TAKEN has moved the upload on (R172). -/
def State.askedForPage (s : State) : Option State :=
  if s.upload.asking then some s
  else match s.takenFor with
    | some (.opening ..) => some s
    | some (.page ..) => some s.freeOldestPage
    | _ => none

/-- The page the journal writer is about to hand over (R155, R172). -/
def State.pageAskedFor (s : State) : Option Nat := s.askedForPage.bind fun u => u.journal.sendable

/-- The SENDING page whose TAKEN has come (R172). -/
def State.pageTaken (s : State) : Option Nat :=
  match s.takenFor with
  | some (.page ..) => s.journal.sendingPage
  | _ => none

/-- The upload is neither IDLE nor ENDING: it can end (R175). -/
def Upload.lives (u : Upload) : Bool := u.state != .idle && u.state != .ending

/-- The SENDING page of an upload that can end (step 2 of R175). -/
def State.pageToKeep (s : State) : Option Nat := if s.upload.lives then s.journal.sendingPage else none

/-- The one access that changes a page's state. -/
def State.pageJob (s : State) (p : Option Nat) (st : PageState) : Job :=
  match p with
  | none => {}
  | some k => { writes := [stateWord s.geometry k st] }

/-- The dot line being struck is the last of the head slip, which completes when it is fed (R187, R190). -/
def State.completesSlip (s : State) : Bool :=
  match s.printer.queue.head? with
  | none => false
  | some slip =>
    s.printer.state == .printing && s.printer.strobe.isSome && decide (slip.dotLines s.settings ≤ s.printer.fed + 1)

/-- The frame in hand is about to be sent again (R171). -/
def State.retries (s : State) : Bool :=
  s.upload.replyTimer.isSome && s.upload.frame.isSome && decide (s.upload.sends < s.settings.tries)

/-- The upload minute is about to come and to be skipped (R110, R169). -/
def State.skipsStart (s : State) : Bool :=
  let c := s.clock.tick
  s.clock.isSet && !s.clock.atEnd && c.minute != s.clock.minute && c.minute == s.settings.uploadMinute
    && !(s.desk.state == .opened && s.upload.state == .idle)

/-- The cause raised with a count (R166, R190). -/
def countCause : GroupCount → Option Cause
  | .lineErrors => some .lineError
  | .slipsPrinted => some .slipPrinted
  | _ => none

/-- The writes that raise a count of a group (R166, R169, R177, R179). -/
def State.countWrites (s : State) : GroupCount → List WordWrite
  | .lineErrors => s.fieldWrites offLine offLineErrors (s.raised16 offLineErrors)
  | .startsSkipped => s.fieldWrites offLine offStartsSkipped (s.raised16 offStartsSkipped)
  | .slipsPrinted => s.printerWrites offSlipsPrinted
  | .slipsLost => s.printerWrites offSlipsLost
  | .pagesSent => s.fieldWrites offReport offPagesSent (s.raised16 offPagesSent)
  | .pagesTaken => s.fieldWrites offReport offPagesTaken (s.raised16 offPagesTaken)
  | .applied => s.fieldWrites offReport offApplied (s.raised16 offApplied)
  | .ignored => s.fieldWrites offReport offIgnored (s.raised16 offIgnored)
  | .dropped => s.fieldWrites offReport offDropped (s.raised16 offDropped)
  | .retries => s.fieldWrites offReport offRetries (s.raised16 offRetries)
  | .stray => s.fieldWrites offReport offStray (s.raised16 offStray)

/-- A count that rises, and its cause once it is written. -/
def State.countJob (s : State) (c : GroupCount) : Job :=
  Job.whole (s.countWrites c) ((countCause c).toList.map Effect.raise)

/-- The report written whole at the hand-over of UPLOAD_STARTED (R170). -/
def State.reportJob (s : State) : Job :=
  match s.busyWith (· == .uploadStarted) with
  | none => {}
  | some t =>
    { writes := s.cutReport t.at s.journal.lastSequence
        (s.journal.cut s.geometry s.mem s.groupAddress).view.cutCount }

/-- The reason word and result count of the order that runs or is taken up; its outcome word is not written (step 3 of R200).
What the order's owner has brought about before them is given by `State.broughtBy`. -/
def State.fieldsJob (s : State) (reason count : Nat) : Job :=
  match s.executor.running with
  | none => {}
  | some l => { writes := putWords (l.address + 2) [reason] ++ putWords (l.address + 8) (words32 count) }

/-- END with the close of its list (R200, R201): from its outcome word on no order of the list is unfinished. -/
def State.endJob (s : State) : Job :=
  match s.executor.running, s.orderAt kindEnd .owner with
  | some l, some _ =>
    let ws := (OrderResult.done 0).writes l.address
    let all := ws ++ (s.writeAll ws).listWrites l.start .done
    { writes := all
      effects := [(ws.length, .listEnds (some { start := l.start, address := none })), (all.length, .raise .listDone),
                  (all.length, .listEnds none)] }
  | _, _ => {}

/-- The close TOO_LONG of a list that is at its end without an END (R201). -/
def State.tooLongJob (s : State) : Job :=
  match s.executor.running with
  | none => {}
  | some l =>
    if l.current.isNone ∧ (¬ s.geometry.inWindow l.address 32
        ∨ 256 ≤ l.taken ∧ (Order.ofBlock (s.nextBlock l)).kind ≠ kindEnd) then
      Job.whole (s.listWrites l.start .tooLong) [.raise .listDone, .listEnds none]
    else {}

/-- The fault record of a post or a list whose address the part may not use (R197, R199, R201). MEMORY_FAULT is raised once it is
written whole (log entry 41, DESIGN CHOICE). -/
def State.addressJob (s : State) (reason : StateReason) (a : Nat) : Job :=
  Job.whole (s.faultWrites (addressNote reason a)) [.raise .memoryFault]

/-- A post of an address other than 0 into an empty slot, or the start of the list in the slot (R199). -/
def State.postJob (s : State) (a : Nat) : Job :=
  let posted := s.executor.slot = none ∧ a ≠ 0 ∧ a % 32 ≠ 0
  let starts := s.executor.slot = none ∧ a ≠ 0 ∨ s.executor.slot = some a ∧ s.executor.running = none
  if posted ∨ starts ∧ ¬ s.geometry.inWindow a 32 then s.addressJob .postAddress a else {}

/-- The record LIST_WINDOW, begun once the order before has ended (R201; log entry 41, DESIGN CHOICE). -/
def State.listFaultJob (s : State) : Job :=
  match s.executor.running with
  | none => {}
  | some l =>
    if l.current.isNone ∧ ¬ s.geometry.inWindow l.address 32 then s.addressJob .listWindow l.address else {}

/-- The entries of a report the executor makes in a HALTED desk (R202). -/
def State.reportHaltedJob (s : State) : Job :=
  match s.currentOrder with
  | none => {}
  | some k =>
    if k.order.isReport ∧ k.wait = .owner then
      match reportTarget s k.order, k.stamp with
      | some a, some st => { writes := reportWrites a (reportRun s k.order st a).entries }
      | _, _ => {}
    else {}

/-! ## The stop -/

/-- Work in progress in a desk that is OPEN or HALTED. -/
def State.attachedJob (s : State) : Work → Job
  | .engine => match s.busyWith fun _ => true with
    | some t => s.txnJob t
    | none => {}
  | .slateOutcome => s.slateJob
  | .counterMirror => s.mirrorJob
  | .freedPages => s.freesJob
  | .pageSending => s.pageJob s.pageAskedFor .sending
  | .pageTaken => s.pageJob s.pageTaken .free
  | .pageKept => s.pageJob s.pageToKeep .full
  | .count c => s.countJob c
  | .reportEnd code => { writes := s.fieldWrites offReport offEndReason code.val }
  | .uploadReport => s.reportJob
  | .orderFields reason count => s.fieldsJob reason.toNat count.toNat
  | .endList => s.endJob
  | .tooLong => s.tooLongJob
  | .postFault address => s.postJob address.toNat
  | .listFault => s.listFaultJob
  | .haltedReport => s.reportHaltedJob

/-- Work in progress; ANCHORING, anchoring alone works on desk memory, and UNANCHORED nothing does (R194). -/
def State.job (s : State) (w : Work) : Job :=
  if s.attached then s.attachedJob w
  else if s.desk.state = .anchoring ∧ w = .engine then s.anchoringJob
  else {}

/-! ## Steps in progress -/

/-- The next states among some outcomes. -/
def nextsOf (xs : List (Host.Outcome State Fault Refusal)) : List State :=
  xs.filterMap fun x => match x with
    | .next u => some u
    | _ => none

/-- A step that can be in progress: the works that are whole before its last work begins, and the state it ends in. -/
abbrev StepNow := List Work × State

/-- The works of the hand-over of a transaction before the center line goes on (R170, R173). -/
def Plan.handed (p : Plan) (k : TxnKind) : List Work :=
  match p.result with
  | .notice applied => [.count (if applied then .applied else .ignored)]
  | _ => if k = .uploadStarted then [.uploadReport] else []

/-- The transaction in progress, and what follows once its writes are whole (R89). -/
def State.engineNow (s : State) : List StepNow :=
  match s.busyWith fun _ => true with
  | none => []
  | some t => [(.engine :: (planTxn s t).handed t.kind, s.carryOut t (planTxn s t))]

/-- The steps in which the upload can end, or its end go on (R171, R173 to R176). -/
def State.endsNow (s : State) : List StepNow :=
  (nextsOf [execFinishedFrame s, execRefusedFrame s, execReplyTimeout s, execNoticeTimeout s, execLineDownTimeout s,
    execAbortUpload s]).map (fun u => ([], u)) ++ s.engineNow

/-- The steps in which the upload ends. -/
def State.endingsNow (s : State) : List StepNow :=
  if s.upload.lives then s.endsNow.filter fun x => !x.2.upload.lives else []

/-- The works of an end before the end reason is written: the SENDING page back to FULL, the notice dropped (steps 2 and 3 of
R175). -/
def State.endingWorks (s : State) : List Work :=
  (if s.pageToKeep.isSome then [.pageKept] else [])
    ++ (if s.upload.lives && s.upload.dropsHeld then [.count .dropped] else [])

/-- The end reason goes into the report in a step from `s` to `u`: the mark UPLOAD_ENDED is stood for (step 4 of R175). -/
def State.writesEnd (s u : State) : Bool := u.upload.endedMark == .standing && s.upload.endedMark != .standing

/-- A slip is requested, and lost, at the idle close of station `i` (R31, R32). -/
def State.idleSlipLost (s : State) (i : Fin 4) : Bool :=
  let t := s.station i
  t.deadline.isSome && t.slot.isNone && t.inFlight.isNone && (s.closeSession i).2

/-- At a mode change (R33). -/
def State.modeSlipLost (s : State) : Bool :=
  match s.orderAt kindSetStationMode .flight with
  | none => false
  | some o =>
    match stationOf o.a, Mode.ofCode o.b with
    | some i, some _ => (s.station i).inFlight.isNone && s.desk.state == .opened && (s.closeSession i).2
    | _, _ => false

/-- By a PRINT_TEXT (R181). -/
def State.textSlipLost (s : State) : Bool :=
  match s.orderAt kindPrintText .owner with
  | none => false
  | some o => decide (1 ≤ o.a ∧ o.a ≤ 8) && s.geometry.inWindow o.b (24 * o.a) && s.slipLost

/-- By the transaction in progress, or by its station at the completion, once its writes are whole (R30, R31, R89). -/
def State.txnSlipLost (s : State) : Bool :=
  match s.busyWith fun _ => true with
  | none => false
  | some t =>
    let p := planTxn s t
    (p.fault.isNone && p.slip.isSome && s.slipLost)
      || (match p.result, t.requester with
          | .station r, .station i =>
            let c := s.closeBefore i t.kind
            c.2 || (c.1.applyResult i r).2
          | _, _ => false)

/-- The steps of the executor and of the owners of orders in which an order can end (R200). -/
def State.ordersNow (s : State) : List StepNow :=
  (nextsOf [execReloadRules s, execReloadSettings s, execOrderTakeUp s, execSetStationMode s, execModeChangeFinish s,
      execKeyedLabel s, execKeyedLabelEnter s, execOutcomeBufferEnter 0 s, execOutcomeBufferEnter 1 s,
      execOutcomeBufferEnter 2 s, execOutcomeBufferEnter 3 s, execReleasePages s, execPrintText s, execStartUpload s]).map
      (fun u => ([], u))
    ++ (nextsOf [execSlateOutcomeWrite s]).map (fun u => ([.slateOutcome], u))
    ++ (nextsOf [execReportOverdue s, execReportBorrowerLoans s, execReportHoldShelf s]).map (fun u => ([.haltedReport], u))
    ++ s.endsNow

/-- An order ends with this reason word and result count in a step from `s` to `u`. -/
def State.endsOrder (s u : State) (reason count : Nat) : Bool :=
  match s.executor.running, u.executor.running with
  | some l, some k =>
    k.address == l.address + 32 && u.mem.read16 (l.address + 2) == reason && u.mem.read32 (l.address + 8) == count
  | _, _ => false

/-- For each step in progress that has the work, the works that are whole once it has begun. A count comes after the access it
counts (R172), what a hand-over brings after the transaction's writes (R89), the end reason after steps 2 and 3 of R175. Slips
printed rises with the last dot line alone, and slips lost with a request that finds the queue full (R179, R190, R191). -/
def State.countSteps (s : State) : GroupCount → List (List Work)
  | .lineErrors => match s.line.receiver with
    | .faulty | .inside _ => [[]]
    | _ => []
  | .startsSkipped => if s.skipsStart then [[]] else []
  | .slipsPrinted => if s.completesSlip then [[]] else []
  | .slipsLost =>
    (if (turnFrom 0).any s.idleSlipLost || s.modeSlipLost || s.textSlipLost then [[]] else [])
      ++ (if s.txnSlipLost then [[.engine]] else [])
  | .pagesSent => if s.pageAskedFor.isSome then [[.pageSending]] else []
  | .pagesTaken => if s.pageTaken.isSome then [[.pageTaken]] else []
  | .applied => if s.engineNow.any fun x => x.1.contains (.count .applied) then [[.engine]] else []
  | .ignored => if s.engineNow.any fun x => x.1.contains (.count .ignored) then [[.engine]] else []
  | .dropped =>
    (match s.acceptedFrame with
     | some (.notice _) => if s.upload.held.isSome then [[]] else []
     | _ => [])
      ++ (if s.upload.dropsHeld then
            s.endingsNow.map fun x => x.1 ++ (if s.pageToKeep.isSome then [.pageKept] else [])
          else [])
  | .retries => if s.retries then [[]] else []
  | .stray => match s.line.receiver with
    | .good _ => if s.acceptedFrame.isNone then [[]] else []
    | _ => []

/-- As `State.countSteps`, for any work; the works not named have their own conditions in their jobs. -/
def State.stepsOf (s : State) : Work → List (List Work)
  | .count c => s.countSteps c
  | .pageSending =>
    if s.upload.asking then [[]]
    else match s.takenFor with
      | some (.page ..) => [[.pageTaken, .count .pagesTaken]]
      | _ => [[]]
  | .pageKept => s.endingsNow.map Prod.fst
  | .reportEnd code =>
    (s.endsNow.filter fun x => s.writesEnd x.2 && x.2.upload.endReason.code == code.val).map fun x => x.1 ++ s.endingWorks
  | .uploadReport => [[.engine]]
  | .orderFields reason count =>
    (s.ordersNow.filter fun x => s.endsOrder x.2 reason.toNat count.toNat).map Prod.fst
  | .tooLong =>
    match s.executor.running with
    | some l => if s.geometry.inWindow l.address 32 then [[]] else [[.listFault]]
    | none => []
  | _ => [[]]

/-- A work can have begun, the works `made` being whole. -/
def State.begun (s : State) (made : List Work) (w : Work) : Bool :=
  (s.stepsOf w).any fun before => before.all fun b => made.contains b

/-- The step whose order's end is being written with this reason word and result count, the works `made` being whole. -/
def State.orderEnd (s : State) (made : List Work) (reason count : Nat) : Option StepNow :=
  s.ordersNow.find? fun x => s.endsOrder x.2 reason count && x.1.all fun b => made.contains b

/-- What the step of a work has brought about, besides what its works write, when the work begins. An order's end is written once
its owner has done its part: RELOAD_SETTINGS has handed every value over (step 3 of R203), RELOAD_RULES has its copy made and the
hold released (R115), and a hand-over has raised its causes (R138, R175; for FORMAT_TABLES log entry 7, DESIGN CHOICE). -/
def State.broughtBy (s : State) (made : List Work) : Work → List Effect
  | .orderFields reason count =>
    if s.attached then
      match s.orderEnd made reason.toNat count.toNat with
      | none => []
      | some x => [.rules x.2.rules, .settings x.2.settings, .causes x.2.notices.flags]
    else []
  | _ => []

/-- A work without what it carries: two works of one kind cannot be in progress together. -/
def workKind : Work → Work
  | .orderFields _ _ => .orderFields 0 0
  | .reportEnd _ => .reportEnd 0
  | .postFault _ => .postFault 0
  | w => w

/-- The works of a list, each kind at its first place alone. -/
def onceEach (seen : List Work) : List (Work × Nat) → List (Work × Nat)
  | [] => []
  | x :: rest => if workKind x.1 ∈ seen then onceEach seen rest else x :: onceEach (workKind x.1 :: seen) rest

/-- What works in progress in the state `s` leave of `u`, each after the number of its writes that were made, when the works
`made` are whole. -/
def State.leaveEach (s : State) (made : List Work) (u : State) : List (Work × Nat) → State
  | [] => u
  | x :: rest =>
    if s.begun made x.1 then
      s.leaveEach (if (u.job x.1).writes.length ≤ x.2 then x.1 :: made else made)
        (((s.broughtBy made x.1).foldl State.effect u).leave (u.job x.1) x.2) rest
    else s.leaveEach made u rest

/-- What a restart finds of the work in progress (log entry 7, DESIGN CHOICE). -/
def State.interrupt (s : State) (stopped : List (Work × Nat)) : State := s.leaveEach [] s (onceEach [] stopped)

end Sys2Proof.Machine
end

