-- ==== Sys2Proof/Machine/Anchor.lean ====
section
/-! DEFINITION. Registers, desk restart and anchoring's end (chapter 11, R193 to R196): the meanings of POWER_ON, of the register
writes and of ANCHORING_END. -/

namespace Sys2Proof.Machine

open Config

/-! ## Desk restart (R41, R195) -/

/-- A station context after a desk restart (R23, R41). -/
def Station.restart (t : Station) : Station := { Station.reset with sequence := t.sequence, tone := t.tone.stop }

/-- The abandoned list a restart leaves (R198, R201). -/
def Executor.abandons (e : Executor) : Option AbandonedList :=
  match e.running with
  | some l => some { start := l.start, address := some l.address }
  | none => e.abandoned

/-- The executor after a desk restart; a write of 0 forgets the abandoned list. -/
def Executor.restart (e : Executor) (detached : Bool) : Executor :=
  { Executor.reset with abandoned := if detached then none else e.abandons }

/-- Every block but the desk state and the executor (R195). -/
def State.restartBlocks (s : State) : State :=
  { s with
    channels := s.channels.map Channel.restart
    stations := s.stations.map Station.restart
    engine := .reset
    sweep := .reset
    journal := .empty
    upload := .reset
    line := s.line.restart
    printer := s.printer.restart }

/-- The desk after a write of ANCHOR (R194). -/
def Desk.anchorWritten (d : Desk) (a : Nat) : Desk :=
  if a = 0 then { state := .unanchored, reason := .detached, anchor := 0 } else { d with state := .anchoring, anchor := a }

/-- A desk restart by a write of `a`. -/
def State.restart (s : State) (a : Nat) : State :=
  ((s.restartBlocks.withExecutor (s.executor.restart (a == 0))).withDesk (s.desk.anchorWritten a)).raiseIf
    s.executor.slot.isSome .postLost

/-! ## Meanings -/

/-- POWER_ON: every block at its power-on value; desk memory and the levels of the input pins stay (00_scope.md, Resets;
log entry 8, DESIGN CHOICE). -/
def execPowerOn (stopped : List (Work × Nat)) (s : State) : Host.Outcome State Fault Refusal :=
  .next
    { State.reset with
      pending := s.pending
      choices := s.choices
      mem := (s.interrupt stopped).mem
      channels := s.channels.map fun c => { Channel.reset with level := c.level }
      line := { Line.reset with ready := s.line.ready }
      printer := { Printer.reset with paper := s.printer.paper } }

/-- ANCHOR_WRITE (R193, R195): bits 24 to 31 are ignored. -/
def execAnchorWrite (value : RegWord) (stopped : List (Work × Nat)) (s : State) : Host.Outcome State Fault Refusal :=
  .next ((s.interrupt stopped).restart (value.toNat % 16777216))

/-- A failed first step (R196): UNANCHORED, MEMORY_FAULT, the slot emptied, the abandoned list forgotten (R201). -/
def State.anchorFails (s : State) (r : StateReason) : State :=
  (((s.withDesk { s.desk with state := .unanchored, reason := r }).raise .memoryFault).raiseIf s.executor.slot.isSome
    .postLost).withExecutor { s.executor with slot := none, abandoned := none }

/-- The close of an abandoned list once anchoring has ended in OPEN or HALTED (R201). -/
def State.closeAbandoned (s : State) : State :=
  match s.executor.abandoned with
  | none => s
  | some l =>
    ((s.writeAll (s.abandonedWrites l)).raise .listDone).withExecutor { s.executor with abandoned := none }

/-- Steps 5 to 8 of R196 on the blocks. -/
def State.openDesk (s : State) (view : Journal) (rules : Rules) (settings : Settings) : State :=
  let s1 := (((s.withJournal view).withRules rules).takeSettings settings).raiseIf (decide (view.room ≤ reserve)) .journalLow
  let s2 := s1.withDesk { s1.desk with state := .opened, reason := .none }
  if s2.clock.isSet then s2.withSweep s2.sweep.start else s2

/-- ANCHORING_END (R196). -/
def execAnchoringEnd (s : State) : Host.Outcome State Fault Refusal :=
  if s.desk.state = .anchoring then
    let r := anchorRun s.mem s.desk.anchor
    let s1 := (s.withGeometry (Geometry.read s.mem s.desk.anchor)).writeAll r.writes
    match r.ending with
    | .failed x => .next (s.anchorFails x)
    | .halted n => .next (s1.enterHalted n).closeAbandoned
    | .opened view rules settings => .next (s1.openDesk view rules settings).closeAbandoned
  else .next s

/-- NOTICE_WRITE (R204). -/
def execNoticeWrite (value : RegWord) (s : State) : Host.Outcome State Fault Refusal :=
  if value.toNat < 12 then .next (s.withNotices (s.notices.clear value.toNat)) else .next s

/-- CEILING_WRITE (R193). -/
def execCeilingWrite (value : RegWord) (s : State) : Host.Outcome State Fault Refusal :=
  .next (s.withNotices { s.notices with ceiling := min value.toNat 16 })

/-- STATE_WRITE (R193): a write of the read-only register is ignored. -/
def execStateWrite (_value : RegWord) (s : State) : Host.Outcome State Fault Refusal := .next s

end Sys2Proof.Machine
end

