-- ==== Sys2Proof/Machine/Dispatch.lean ====
section
/-! DEFINITION. The meaning of each command: one arm a row of spec/opcode_table.json, in the table's order. -/

namespace Sys2Proof.Machine

def exec (i : Instr) (s : State) : Host.Outcome State Fault Refusal :=
  match i with
  | .powerOn stopped => Sys2Proof.Machine.execPowerOn stopped s
  | .anchorWrite value stopped => Sys2Proof.Machine.execAnchorWrite value stopped s
  | .anchoringEnd => Sys2Proof.Machine.execAnchoringEnd s
  | .worklistWrite value => Sys2Proof.Machine.execWorklistWrite value s
  | .noticeWrite value => Sys2Proof.Machine.execNoticeWrite value s
  | .ceilingWrite value => Sys2Proof.Machine.execCeilingWrite value s
  | .stateWrite value => Sys2Proof.Machine.execStateWrite value s
  | .elementEnd wand ticks => Sys2Proof.Machine.execElementEnd wand ticks s
  | .quietZoneBegin wand ticks => Sys2Proof.Machine.execQuietZoneBegin wand ticks s
  | .decodeComplete wand => Sys2Proof.Machine.execDecodeComplete wand s
  | .repeatTimerExpire station => Sys2Proof.Machine.execRepeatTimerExpire station s
  | .counterMirrorWrite => Sys2Proof.Machine.execCounterMirrorWrite s
  | .slateOutcomeWrite => Sys2Proof.Machine.execSlateOutcomeWrite s
  | .outcomeBufferEnter station => Sys2Proof.Machine.execOutcomeBufferEnter station s
  | .idleDeadlineExpire station => Sys2Proof.Machine.execIdleDeadlineExpire station s
  | .toneStepEnd station => Sys2Proof.Machine.execToneStepEnd station s
  | .engineGrant => Sys2Proof.Machine.execEngineGrant s
  | .sessionOpen => Sys2Proof.Machine.execSessionOpen s
  | .sessionRefresh => Sys2Proof.Machine.execSessionRefresh s
  | .noBorrower => Sys2Proof.Machine.execNoBorrower s
  | .wrongLabel => Sys2Proof.Machine.execWrongLabel s
  | .checkout => Sys2Proof.Machine.execCheckout s
  | .renewal => Sys2Proof.Machine.execRenewal s
  | .returnItem => Sys2Proof.Machine.execReturnItem s
  | .borrowerInquiry => Sys2Proof.Machine.execBorrowerInquiry s
  | .itemInquiry => Sys2Proof.Machine.execItemInquiry s
  | .listStart => Sys2Proof.Machine.execListStart s
  | .orderTakeUp => Sys2Proof.Machine.execOrderTakeUp s
  | .endList => Sys2Proof.Machine.execEndList s
  | .setStationMode => Sys2Proof.Machine.execSetStationMode s
  | .modeChangeFinish => Sys2Proof.Machine.execModeChangeFinish s
  | .keyedLabel => Sys2Proof.Machine.execKeyedLabel s
  | .keyedLabelEnter => Sys2Proof.Machine.execKeyedLabelEnter s
  | .formatTables => Sys2Proof.Machine.execFormatTables s
  | .addBorrower => Sys2Proof.Machine.execAddBorrower s
  | .updateBorrower => Sys2Proof.Machine.execUpdateBorrower s
  | .removeBorrower => Sys2Proof.Machine.execRemoveBorrower s
  | .setBlock => Sys2Proof.Machine.execSetBlock s
  | .clearBlock => Sys2Proof.Machine.execClearBlock s
  | .payFine => Sys2Proof.Machine.execPayFine s
  | .adjustFine => Sys2Proof.Machine.execAdjustFine s
  | .declareLost => Sys2Proof.Machine.execDeclareLost s
  | .withdraw => Sys2Proof.Machine.execWithdraw s
  | .release => Sys2Proof.Machine.execRelease s
  | .setClock => Sys2Proof.Machine.execSetClock s
  | .placeHold => Sys2Proof.Machine.execPlaceHold s
  | .cancelHold => Sys2Proof.Machine.execCancelHold s
  | .reportOverdue => Sys2Proof.Machine.execReportOverdue s
  | .reportBorrowerLoans => Sys2Proof.Machine.execReportBorrowerLoans s
  | .reportHoldShelf => Sys2Proof.Machine.execReportHoldShelf s
  | .reloadRules => Sys2Proof.Machine.execReloadRules s
  | .reloadSettings => Sys2Proof.Machine.execReloadSettings s
  | .releasePages => Sys2Proof.Machine.execReleasePages s
  | .pagesReleased => Sys2Proof.Machine.execPagesReleased s
  | .printText => Sys2Proof.Machine.execPrintText s
  | .startUpload => Sys2Proof.Machine.execStartUpload s
  | .abortUpload => Sys2Proof.Machine.execAbortUpload s
  | .clockSecond => Sys2Proof.Machine.execClockSecond s
  | .daySweepStep => Sys2Proof.Machine.execDaySweepStep s
  | .centerNotice => Sys2Proof.Machine.execCenterNotice s
  | .uploadStarted => Sys2Proof.Machine.execUploadStarted s
  | .uploadEnded => Sys2Proof.Machine.execUploadEnded s
  | .frameSent => Sys2Proof.Machine.execFrameSent s
  | .takenFrame => Sys2Proof.Machine.execTakenFrame s
  | .refusedFrame => Sys2Proof.Machine.execRefusedFrame s
  | .noticeFrame => Sys2Proof.Machine.execNoticeFrame s
  | .finishedFrame => Sys2Proof.Machine.execFinishedFrame s
  | .strayFrame => Sys2Proof.Machine.execStrayFrame s
  | .frameDiscard => Sys2Proof.Machine.execFrameDiscard s
  | .frameGapTimeout => Sys2Proof.Machine.execFrameGapTimeout s
  | .receiveQueueOverrun => Sys2Proof.Machine.execReceiveQueueOverrun s
  | .replyTimeout => Sys2Proof.Machine.execReplyTimeout s
  | .noticeTimeout => Sys2Proof.Machine.execNoticeTimeout s
  | .lineRdyChange high => Sys2Proof.Machine.execLineRdyChange high s
  | .lineDownTimeout => Sys2Proof.Machine.execLineDownTimeout s
  | .dotLineRendered => Sys2Proof.Machine.execDotLineRendered s
  | .dotLineStart => Sys2Proof.Machine.execDotLineStart s
  | .dotLineFed => Sys2Proof.Machine.execDotLineFed s
  | .paperSensorChange high => Sys2Proof.Machine.execPaperSensorChange high s
  | .paperTimerExpire => Sys2Proof.Machine.execPaperTimerExpire s
  | .octetReceived octet taken => Sys2Proof.Machine.execOctetReceived octet taken s
  | .tonePeriodEnd station => Sys2Proof.Machine.execTonePeriodEnd station s

end Sys2Proof.Machine
end

