-- ==== Sys2Proof/Safety.lean ====
section
/-! DEFINITION. What the claims about this part speak of: labels as they are printed, a transaction under way and its gates, and
the conditions every step keeps. -/

namespace Sys2Proof.Machine

open Config

/-! ## Printed labels (section 1.3) -/

/-- The two wide positions of a character (R10). -/
def LabelChar.wide : LabelChar → Nat × Nat
  | .digit d => [(1, 4), (1, 5), (1, 6), (1, 7), (2, 4), (2, 5), (2, 6), (2, 7), (3, 4), (3, 5)].getD d (0, 0)
  | .ten => (3, 6)
  | .startItem => (1, 2)
  | .startBorrower => (1, 3)
  | .stop => (2, 3)

/-- The seven elements of a character printed with module width `u` (section 1.3). -/
def LabelChar.elements (u : Nat) (c : LabelChar) : List Nat :=
  [1, 2, 3, 4, 5, 6, 7].map fun p => if p = c.wide.1 ∨ p = c.wide.2 then 2 * u else u

/-- Characters with a gap of any width between neighbours (R11). -/
def printCharacters (u : Nat) : List LabelChar → List Nat → List Nat
  | [], _ => []
  | [c], _ => c.elements u
  | c :: cs, gaps => c.elements u ++ gaps.headD 0 :: printCharacters u cs gaps.tail

/-- The last `n` decimal digits of a number, the most significant first (R11). -/
def decimalDigits (number : Nat) : Nat → List Nat
  | 0 => []
  | n + 1 => decimalDigits (number / 10) n ++ [number % 10]

/-- The check character of a value 0..10 (R11, R17). -/
def checkChar (v : Nat) : LabelChar := if v = 10 then .ten else .digit v

/-- The characters of a label of a kind and a number (R11, R18). -/
def labelCharacters (kind : LabelKind) (number : Nat) : List LabelChar :=
  match kind with
  | .item =>
    let ds := decimalDigits number 10
    .startItem :: ds.map .digit ++ [checkChar (checkValue ds), .stop]
  | .borrower =>
    let ds := decimalDigits number 8
    .startBorrower :: ds.map .digit ++ [checkChar (checkValue ds), .stop]

/-- The widths of a printed label. -/
def printLabel (kind : LabelKind) (number u : Nat) (gaps : List Nat) : List Nat :=
  printCharacters u (labelCharacters kind number) gaps

/-- A number a label of the kind may carry (00_scope.md, Identifiers). -/
def numberInRange : LabelKind → Nat → Bool
  | .item, n => itemInRange n
  | .borrower, n => borrowerInRange n

/-! ## Stations -/

/-- The outcome buffer takes an outcome that is not DISCARDED: it is empty or holds DISCARDED (R36). -/
def Station.bufferTakes (t : Station) : Prop := ∀ o, t.buffer = some o → o.reason = .discarded

/-- An outcome enters the buffer at once: it takes it, and no outcome waits before it (R36, log entry 21, DESIGN CHOICE). -/
def Station.entersAtOnce (t : Station) : Prop := t.bufferTakes ∧ t.waiting = []

/-- The outcome DISCARDED that names a label (R24, R35). -/
def discardedOutcome (l : Label) (count : Nat) : SlateOutcome :=
  { refused := false, reason := .discarded, borrower := if l.kind = .borrower then l.number else 0,
    item := if l.kind = .item then l.number else 0, due := { day := 0, minute := 0 }, fine := 0,
    blocks := { manual := false, center := false, lost := false, fines := false, expired := false }, itemState := none,
    sessionItems := count, slipLost := false, keyed := false }

/-- The buffer after a DISCARDED outcome is offered: it enters, replaces another DISCARDED, or is dropped (R36). -/
def Station.bufferAfterDiscarded (t : Station) (o : SlateOutcome) : Option SlateOutcome :=
  match t.buffer with
  | none => some o
  | some b => if b.reason = .discarded then some o else some b

/-- The buffer after the pending label, if any, has been discarded (step 1 of R33). -/
def Station.bufferWithoutPending (t : Station) : Option SlateOutcome :=
  match t.slot with
  | none => t.buffer
  | some l => t.bufferAfterDiscarded (discardedOutcome l t.items.length)

/-- The outcome SESSION_CLOSED (R31, R35). -/
def closedOutcome (borrower count : Nat) (lost : Bool) : SlateOutcome :=
  { refused := false, reason := .sessionClosed, borrower := borrower, item := 0, due := { day := 0, minute := 0 }, fine := 0,
    blocks := { manual := false, center := false, lost := false, fines := false, expired := false }, itemState := none,
    sessionItems := count, slipLost := lost, keyed := false }

/-- A close of station `i` requests its DUE_DATE slip (R31). -/
def State.closePrints (s : State) (i : Fin 4) : Prop :=
  (s.station i).items ≠ [] ∧ s.settings.slipFlags.getLsbD i.val = true

/-- The DUE_DATE slip of a close: station, clock reading, session borrower, the entries in list order, each with the flags HOUR_LOAN,
CLAMPED and RENEWED alone (R31, R180). -/
def State.closeSlip (s : State) (i : Fin 4) (borrower : Nat) : Slip :=
  { kind := .dueDate, station := some i,
    stamp := if s.clock.isSet then some { day := s.clock.day, minute := s.clock.minute } else none,
    borrower := borrower
    entries := (s.station i).items.map fun e =>
      { item := e.item, due := e.due,
        flags := { hourLoan := e.flags.hourLoan, clamped := e.flags.clamped, limited := false, renewed := e.flags.renewed,
                   holdFulfilled := false } }
    holdBorrower := 0, deadline := 0, text := [] }

/-! ## Transactions -/

/-- The engine is BUSY with transaction `t` in a desk that is OPEN or HALTED (R84). -/
def State.engaged (s : State) (t : Txn) : Prop :=
  s.engine.state = .busy ∧ s.engine.current = some t ∧ (s.desk.state = .opened ∨ s.desk.state = .halted)

/-- The transaction passes the halt and clock gates with stamp `st`, and the journal room gate with at least `room` (R90). -/
def Txn.admitted (t : Txn) (st : Stamp) (room : Nat) : Prop := t.halted = false ∧ t.stamp = some st ∧ room ≤ t.room

/-- The read phase's view of the tables as desk memory holds them. -/
def State.tables (s : State) : Draft := Draft.start s.mem s.geometry

/-- The header of a table passes the checks of a transaction's first access (R63). -/
def State.headerGood (s : State) (t : TableName) : Prop := s.tables.touch t = .ok s.tables

/-- The gates' refusal of an order, a refusal by its checks, and LIMIT: nothing is written but the order block (R70),
its result count 0, and for LIMIT its reason too (log entry 40, DESIGN CHOICE). -/
def orderRefused (r : Reason) : Plan := { result := .order { outcome := .refused, reason := some r } }

def orderLimit : Plan := { result := .order { outcome := .limit } }

/-- An order that finds nothing to change ends DONE with a result. -/
def orderDone (count : Int) : Plan := { result := .order { outcome := .done, count := count } }

/-- A committed order: its images, its entry with source ORDER and no flags, and its result. -/
def orderCommit (images : List Image) (k : EntryKind) (st : Stamp) (borrower item value1 value2 : Nat) (count : Int) : Plan :=
  { images := images
    entry := some { kind := k, source := .order, flags := {}, stamp := st, borrower := borrower, item := item,
                    value1 := value1, value2 := value2 }
    result := .order { outcome := .done, count := count } }

/-- A station's transaction that changes no table and answers `x`. -/
def stationAnswer (x : StationResult) : Plan := { result := .station x }

/-- A station's refusal that names the item and the session borrower, or the borrower scanned (R35). -/
def stationRefused (r : Reason) (borrower item : Nat) : Plan :=
  stationAnswer { refused := true, reason := r, borrower := borrower, item := item }

/-- The refusal BORROWER_BLOCKED with its set (R68). -/
def stationBlocked (b : Blocks) (borrower item : Nat) : Plan :=
  stationAnswer { refused := true, reason := .borrowerBlocked, borrower := borrower, item := item, blocks := b }

/-- The label is an item label, or a borrower label, of a number. -/
def Txn.names (t : Txn) (k : LabelKind) (number : Nat) : Prop := ∃ l, t.label = some l ∧ l.kind = k ∧ l.number = number

/-- REVERSED and KEYED as the label gives them (R95). -/
def Txn.marks (t : Txn) : EntryFlags :=
  match t.label with
  | none => {}
  | some l => { reversed := l.tag == .wand && l.direction == .reversed, keyed := l.tag == .keyed }

/-! ## Chains (R44) -/

/-- The chain that begins at an index runs through these records, each naming the next, and ends at the null index. -/
def Draft.chained (d : Draft) (t : TableName) (start : Nat) : List Nat → Prop
  | [] => start = nullIndex
  | i :: is => start = i ∧ d.chained t (d.chainRecord t i).next is

/-- A record a chain walk of a bucket passes: below the capacity, inside the window, in use, its number falling in the bucket
(R64). -/
def Draft.walkable (d : Draft) (t : TableName) (bucket i : Nat) : Prop :=
  i < (d.header t).capacity ∧ d.inside t i = true ∧ (d.chainRecord t i).inUse = some true ∧
    (d.chainRecord t i).number % 2 ^ (d.header t).exponent = bucket

/-! ## The hold-shelf list (R52, R64) -/

/-- The records run through the hold-shelf next indices from an index to the null index. -/
def Draft.shelved (d : Draft) (start : Nat) : List Nat → Prop
  | [] => start = nullIndex
  | i :: is => start = i ∧ d.shelved (d.item i).shelfNext is

/-- The records of the hold-shelf list, head first, in a table whose list passes every check of a shelf walk (R52, R64). -/
def Draft.shelfList (d : Draft) (list : List Nat) : Prop :=
  d.shelved d.itemHeader.shelfHead list ∧ list.length = d.itemHeader.shelfCount ∧
    d.itemHeader.shelfTail = list.getLast?.getD nullIndex ∧ d.itemHeader.capacity ≤ 65534 ∧ list.Nodup ∧
    (∀ i ∈ list, i < d.itemHeader.capacity ∧ d.inside .item i = true ∧ (d.item i).state = some .onHoldShelf ∧
      (d.item i).queue ≠ []) ∧
    list.Pairwise fun i j => (d.item i).deadline ≤ (d.item j).deadline

/-! ## The commit slot (R58) -/

/-- An image the slot can hold, whose target keeps clear of the slot at address `slot` (616 bytes). -/
def Image.storable (g : Geometry) (slot : Nat) (x : Image) : Prop :=
  1 ≤ x.words.length ∧ x.words.length ≤ 32 ∧ (∀ w ∈ x.words, w < 65536) ∧ x.target % 2 = 0 ∧ x.target < 4294967296 ∧
    (x.counted = true → 2 ≤ x.words.length) ∧ g.inWindow x.target (2 * x.words.length) = true ∧
    (x.target + 2 * x.words.length ≤ slot ∨ slot + 616 ≤ x.target)

/-! ## What every step keeps -/

/-- A wand channel within R1, R3, R5, R6, R9, R12, R19. -/
def Channel.bounded (c : Channel) : Prop :=
  c.counter ≤ 65535 ∧ (c.complete.map List.length).sum + c.inCapture.length ≤ 128 ∧ c.complete.length ≤ 2 ∧
    (c.capture = .capturing → c.complete.length ≤ 1 ∧ c.last ≠ none) ∧ (c.capture ≠ .capturing → c.inCapture = []) ∧
    (c.mergePending = true → c.last ≠ none) ∧ (c.decoder = .decoding ↔ c.complete ≠ []) ∧
    c.counters.format ≤ 65535 ∧ c.counters.character ≤ 65535 ∧ c.counters.speed ≤ 65535 ∧ c.counters.check ≤ 65535 ∧
    c.counters.noise ≤ 65535 ∧ c.counters.repeated ≤ 65535

/-- A session item list of at most 12 entries, no item twice (R30), and the 16-bit counts of a station (R37, R38). -/
def Station.bounded (t : Station) : Prop :=
  t.items.length ≤ 12 ∧ (t.items.map SessionItem.item).Nodup ∧ t.closedScans ≤ 65535 ∧ t.sequence ≤ 65535

/-- Settings in the ranges of R2, R23, R127, R161 and R187. -/
def Settings.bounded (t : Settings) : Prop :=
  (1000 ≤ t.quietLimit ∧ t.quietLimit ≤ 65535) ∧ t.repeatWindow ≤ 5000 ∧ (10 ≤ t.sessionTimeout ∧ t.sessionTimeout ≤ 600) ∧
    (1 ≤ t.pickupDays ∧ t.pickupDays ≤ 30) ∧ (1 ≤ t.divisor ∧ t.divisor ≤ 4095) ∧
    (1 ≤ t.replyTimeout ∧ t.replyTimeout ≤ 60) ∧ (1 ≤ t.tries ∧ t.tries ≤ 5) ∧
    (50 ≤ t.strobeWidth ∧ t.strobeWidth ≤ 2000) ∧ (500 ≤ t.stepPeriod ∧ t.stepPeriod ≤ 20000)

/-- A frame in assembly within R166. -/
def FrameReceiver.bounded : FrameReceiver → Prop
  | .inside p => p.length ≤ 1040 ∧ p.payload.length ≤ 16
  | _ => True

/-- The invariant of every step: memory in canonical form, every quantity in its range, the engine BUSY exactly with a
transaction (R84), the printer IDLE exactly with an empty queue (R182). -/
def State.sound (s : State) : Prop :=
  s.mem.wf = true ∧ (∀ i, (s.channel i).bounded) ∧ (∀ i, (s.station i).bounded) ∧ s.settings.bounded ∧
    s.notices.ceiling ≤ 16 ∧ (s.clock.day ≤ 65535 ∧ s.clock.minute ≤ 1439 ∧ s.clock.second ≤ 59) ∧
    (s.engine.state = .busy ↔ s.engine.current ≠ none) ∧ (s.engine.holdAsked = true → s.engine.state = .busy) ∧
    s.printer.queue.length ≤ 16 ∧ (s.printer.state = .idle ↔ s.printer.queue = []) ∧
    s.line.queue.length ≤ 4 ∧ s.line.receiver.bounded

/-- A station as the whole of a desk that is not anchored keeps it: CLOSED, with nothing in it but its sequence, closed scans,
repeat check and tone (R23, R41). -/
def Station.quiet (t : Station) : Prop :=
  t.mode = .closed ∧ t.session = none ∧ t.items = [] ∧ t.slot = none ∧ t.inFlight = none ∧ t.deadline = none ∧
    t.buffer = none ∧ t.waiting = [] ∧ t.modeWait = false

/-- While the desk is UNANCHORED or ANCHORING no block works on desk memory's structures (R84, R147, R168, R178, R194, R198);
UNANCHORED, no list is held either (R196, R201). -/
def State.quiet (s : State) : Prop :=
  (s.desk.state = .unanchored ∨ s.desk.state = .anchoring →
    s.engine = .reset ∧ s.sweep = .reset ∧ s.journal = .empty ∧ s.executor.running = none ∧ s.upload = .reset ∧
      s.line.transmission = none ∧ s.printer.queue = [] ∧ s.printer.state = .idle ∧ ∀ i, (s.station i).quiet) ∧
  (s.desk.state = .unanchored → s.executor.slot = none ∧ s.executor.abandoned = none)

end Sys2Proof.Machine
end

