-- ==== Sys2Proof/Certificates/Slice0/Obligations.lean ====
section
/-! DEFINITION. The statements for the provers. -/

open Sys2Proof Sys2Proof.Machine

/-! ## Wand channels -/

/-- R10, R11, R13 to R18: a label printed in the symbology with any module width from 1 and any gaps decodes, in either
direction, to its kind and number. And every sweep, by its widths: a count other than 103 and 87 is a FORMAT misread; the list
is reversed when it does not begin with a start character; then a character without an assigned pair of wide elements is a
CHARACTER misread, a character more than twice or less than half as wide as its neighbour a SPEED misread, a layout that R16
and R17 do not allow a FORMAT misread, a check value that does not agree or the number 0 a CHECK misread, and all else a label.
-/
def Obligations.PrintedLabelDecodes : Prop :=
  (∀ (kind : LabelKind) (number u : Nat) (gaps : List Nat), numberInRange kind number = true → 1 ≤ u →
    decodeSweep (printLabel kind number u gaps)
        = .ok { kind := kind, number := number, direction := .forward, tag := .wand } ∧
      decodeSweep (printLabel kind number u gaps).reverse
        = .ok { kind := kind, number := number, direction := .reversed, tag := .wand }) ∧
  (∀ ws : List Nat,
    let pairs : List (Nat × Nat) :=
      [(1, 4), (1, 5), (1, 6), (1, 7), (2, 4), (2, 5), (2, 6), (2, 7), (3, 4), (3, 5), (3, 6), (1, 2), (1, 3), (2, 3)]
    let width : List Nat → Nat → Nat → Nat := fun vs c q => vs.getD (8 * c + q - 1) 0
    let sum : List Nat → Nat → Nat := fun vs c => ((List.range 7).map fun q => width vs c (q + 1)).sum
    let reads : List Nat → Nat → Nat → Prop := fun vs c x => x < 14 ∧
      ∀ q, 1 ≤ q → q ≤ 7 → (sum vs c < 6 * width vs c q ↔ q = (pairs.getD x (0, 0)).1 ∨ q = (pairs.getD x (0, 0)).2)
    let starts : List Nat → Prop := fun vs => reads vs 0 11 ∨ reads vs 0 12
    (ws.length ≠ 103 → ws.length ≠ 87 → decodeSweep ws = .error .format) ∧
    (∀ (k : Nat) (vs : List Nat) (dir : Direction), k = 13 ∨ k = 11 → ws.length + 1 = 8 * k →
      (starts ws ∧ vs = ws ∧ dir = .forward) ∨ (¬ starts ws ∧ vs = ws.reverse ∧ dir = .reversed) →
      let assigned := ∀ c, c < k → ∃ x, reads vs c x
      let even := ∀ c, c + 1 < k → sum vs c ≤ 2 * sum vs (c + 1) ∧ sum vs (c + 1) ≤ 2 * sum vs c
      let laid := ((k = 13 ∧ reads vs 0 11) ∨ (k = 11 ∧ reads vs 0 12)) ∧ reads vs (k - 1) 13 ∧
        (∀ c, 1 ≤ c → c ≤ k - 3 → ∃ x, x ≤ 9 ∧ reads vs c x) ∧ ∃ x, x ≤ 10 ∧ reads vs (k - 2) x
      (¬ assigned → decodeSweep ws = .error .character) ∧
      (assigned → ¬ even → decodeSweep ws = .error .speed) ∧
      (assigned → even → ¬ laid → decodeSweep ws = .error .format) ∧
      (∀ (ds : List Nat) (v : Nat), assigned → even → laid → ds.length = k - 3 →
        (∀ c, c < k - 3 → reads vs (c + 1) (ds.getD c 0)) → reads vs (k - 2) v →
        let weighted := ((List.range (k - 3)).map fun i => (i + 2) * ds.getD i 0).sum
        let number := ds.foldl (fun n d => 10 * n + d) 0
        (v ≠ (11 - weighted % 11) % 11 ∨ number = 0 → decodeSweep ws = .error .check) ∧
        (v = (11 - weighted % 11) % 11 → number ≠ 0 →
          decodeSweep ws
            = .ok { kind := if k = 13 then .item else .borrower, number := number, direction := dir, tag := .wand }))))

/-- R1, R3, R5, R6, R7, R8, R19: what the end of the running element does to the channel, when no quiet zone has fallen due before
it. `w` is the ended width. R4: a quiet zone that has fallen due before the end has begun before it. The ticks of a command
are the model's own operand (log entry 3); that the element just ended becomes the last element although R8 discards the sweep
is the model's choice, R3 against R8 (log entry 33). That the mirror flag is set in the step of the add, and by an add to a
counter that stays at 65535 too, is the model's choice (log entry 36). -/
def Obligations.ElementEndByCase : Prop :=
  (∀ (s : State) (wand : Fin 4) (ticks : Nat),
     let c := s.channel wand
     let w := min (c.counter + ticks) 65535
     let after : Channel → Host.Outcome State Fault Refusal := fun d =>
       .next (s.setChannel wand { d with counter := 0, level := if c.level = .bar then .space else .bar })
     (c.level = .bar ∨ c.capture = .quiet ∨
         ((if c.mergePending then (c.last.map Element.width).getD 0 else 0) + w ≤ s.settings.quietLimit ∧
           (if c.mergePending then (c.last.map Element.width).getD 0 else 0) + w < 65535)) →
     (∀ l, c.mergePending = true → c.last = some l →
       exec (.elementEnd wand ticks) s
         = after { c with last := some { l with width := min (l.width + w) 65535 }, mergePending := false }) ∧
     (∀ l, c.mergePending = false → c.last = some l → w < s.settings.glitchLimit →
       exec (.elementEnd wand ticks) s
         = after { c with last := some { l with width := min (l.width + w) 65535 }, mergePending := true }) ∧
     (c.mergePending = false → (∀ l, c.last = some l → s.settings.glitchLimit ≤ w) →
       let e : Element := { kind := c.level, width := w }
       (c.capture = .settling ∨ (c.capture = .quiet ∧ c.level = .space) →
         exec (.elementEnd wand ticks) s = after { c with last := some e }) ∧
       (c.capture = .quiet → c.level = .bar → c.complete.length < 2 →
         exec (.elementEnd wand ticks) s = after { c with last := some e, capture := .capturing, inCapture := [] }) ∧
       (c.capture = .quiet → c.level = .bar → 2 ≤ c.complete.length →
         exec (.elementEnd wand ticks) s
           = after { c with
               last := some e, capture := .settling, mirrorPending := true,
               counters := { c.counters with noise := min (c.counters.noise + 1) 65535 } }) ∧
       (∀ l, c.capture = .capturing → c.last = some l →
         (c.complete.map List.length).sum + c.inCapture.length < 128 →
         exec (.elementEnd wand ticks) s = after { c with last := some e, inCapture := c.inCapture ++ [l.width] }) ∧
       (∀ l, c.capture = .capturing → c.last = some l →
         128 ≤ (c.complete.map List.length).sum + c.inCapture.length →
         exec (.elementEnd wand ticks) s
           = after { c with
               last := some e, capture := .settling, inCapture := [], mirrorPending := true,
               counters := { c.counters with noise := min (c.counters.noise + 1) 65535 } }))) ∧
  (∀ (s : State) (wand : Fin 4) (ticks : Nat),
     ∃ t, exec (.quietZoneBegin wand ticks) s = .next t ∧ exec (.elementEnd wand ticks) s = exec (.elementEnd wand 0) t)

/-- R4, R5, R7, R8, R12, R19: what a quiet zone does to the channel. The ticks of a command are the model's own operand (log entry
3). That the mirror flag is set in the step of the add, and by an add to a counter that stays at 65535 too, is the model's
choice (log entry 36). -/
def Obligations.QuietZoneByState : Prop :=
  ∀ (s : State) (wand : Fin 4) (ticks : Nat),
    let c := s.channel wand
    let w := min (c.counter + ticks) 65535
    let effective := (if c.mergePending then (c.last.map Element.width).getD 0 else 0) + w
    let after : Channel → Host.Outcome State Fault Refusal := fun d => .next (s.setChannel wand { d with counter := w })
    (c.level = .bar ∨ c.capture = .quiet ∨ (effective ≤ s.settings.quietLimit ∧ effective < 65535) →
      exec (.quietZoneBegin wand ticks) s = after c) ∧
    (c.level = .space → s.settings.quietLimit < effective ∨ 65535 ≤ effective →
      (c.capture = .settling → exec (.quietZoneBegin wand ticks) s = after { c with capture := .quiet }) ∧
      (c.capture = .capturing → c.mergePending = true →
        exec (.quietZoneBegin wand ticks) s
          = after { c with
              capture := .quiet, last := none, mergePending := false, complete := c.complete ++ [c.inCapture],
              inCapture := [], decoder := .decoding }) ∧
      (∀ l, c.capture = .capturing → c.mergePending = false → c.last = some l →
        (c.complete.map List.length).sum + c.inCapture.length < 128 →
        exec (.quietZoneBegin wand ticks) s
          = after { c with
              capture := .quiet, complete := c.complete ++ [c.inCapture ++ [l.width]], inCapture := [],
              decoder := .decoding }) ∧
      (∀ l, c.capture = .capturing → c.mergePending = false → c.last = some l →
        128 ≤ (c.complete.map List.length).sum + c.inCapture.length →
        exec (.quietZoneBegin wand ticks) s
          = after { c with
              capture := .quiet, last := none, inCapture := [], mirrorPending := true,
              counters := { c.counters with noise := min (c.counters.noise + 1) 65535 } }))

/-- R9, R12, R19 to R21, R24, R38: a decode completes. A misread is counted; a label passes the repeat check, and a delivered
label is a closed scan, enters the slot, or is discarded with an outcome and the REFUSE tone. R20: at its expiry the repeat
timer stops and the last label is kept; nothing else changes. That the mirror flag is set in the step of the add, and by an
add to a counter that stays at 65535 too, and that a timer armed under an old window drops the same label also when the window
is now 0, are the model's choices (log entry 36). -/
def Obligations.DecodeCompletes : Prop :=
  (∀ (s : State) (wand : Fin 4) (ws : List Nat) (rest : List (List Nat)),
     (s.channel wand).decoder = .decoding → (s.channel wand).complete = ws :: rest →
     let t := s.station wand
     let c : Channel := { s.channel wand with complete := rest, decoder := if rest = [] then .idle else .decoding }
     let timer := if s.settings.repeatWindow = 0 then none else some s.settings.repeatWindow
     (∀ m, decodeSweep ws = .error m →
       exec (.decodeComplete wand) s = .next (s.setChannel wand { c with
         mirrorPending := true
         counters := match m with
           | .format => { c.counters with format := min (c.counters.format + 1) 65535 }
           | .character => { c.counters with character := min (c.counters.character + 1) 65535 }
           | .speed => { c.counters with speed := min (c.counters.speed + 1) 65535 }
           | .check => { c.counters with check := min (c.counters.check + 1) 65535 } })) ∧
     (∀ l, decodeSweep ws = .ok l →
       (t.repeatTimer.isSome = true → t.lastLabel = some (l.kind, l.number) →
         exec (.decodeComplete wand) s = .next ((s.setStation wand { t with repeatTimer := timer }).setChannel wand
           { c with mirrorPending := true, counters := { c.counters with repeated := min (c.counters.repeated + 1) 65535 } })) ∧
       (¬ (t.repeatTimer.isSome = true ∧ t.lastLabel = some (l.kind, l.number)) →
         let d : Station := { t with repeatTimer := timer, lastLabel := some (l.kind, l.number) }
         (t.mode = .closed →
           exec (.decodeComplete wand) s = .next ((s.setStation wand
             { d with closedScans := min (t.closedScans + 1) 65535 }).setChannel wand { c with mirrorPending := true })) ∧
         (t.mode ≠ .closed → t.slot = none →
           exec (.decodeComplete wand) s = .next ((s.setStation wand
             { d with slot := some l, deadline := some s.settings.sessionTimeout }).setChannel wand c)) ∧
         (∀ p, t.mode ≠ .closed → t.slot = some p →
           exec (.decodeComplete wand) s = .next ((s.setStation wand
             { d with
               buffer := t.bufferAfterDiscarded (discardedOutcome l t.items.length)
               tone := t.tone.start .refuse }).setChannel wand c))))) ∧
  (∀ (s : State) (i : Fin 4),
     exec (.repeatTimerExpire i) s = .next (s.setStation i { s.station i with repeatTimer := none }))

/-! ## Stations -/

/-- R31, R32, R36: expiry of a running idle deadline. The session closes when no label is pending or in flight; its DUE_DATE slip
is requested when the list holds an entry and the slip flag is set, and SESSION_CLOSED enters the buffer or waits for it. That
a new outcome queues behind the outcomes that wait is the model's choice (log entry 21). -/
def Obligations.IdleDeadlineCloses : Prop :=
  ∀ (s : State) (i : Fin 4) (d : Nat),
    let t := s.station i
    t.deadline = some d →
    (t.slot ≠ none ∨ t.inFlight ≠ none ∨ t.session = none →
      exec (.idleDeadlineExpire i) s = .next (s.setStation i { t with deadline := none })) ∧
    (∀ se, t.slot = none → t.inFlight = none → t.session = some se →
      let closed : Station := { t with deadline := none, session := none, items := [] }
      (¬ s.closePrints i →
        let o := closedOutcome se.number t.items.length false
        (t.entersAtOnce → exec (.idleDeadlineExpire i) s = .next (s.setStation i { closed with buffer := some o })) ∧
        (¬ t.entersAtOnce →
          exec (.idleDeadlineExpire i) s
            = .next (s.setStation i { closed with waiting := t.waiting ++ [(o, .idleClose)] }))) ∧
      (s.closePrints i →
        let o := closedOutcome se.number t.items.length (decide (16 ≤ s.printer.queue.length))
        let s1 := s.requestSlip (s.closeSlip i se.number)
        (t.entersAtOnce → exec (.idleDeadlineExpire i) s = .next (s1.setStation i { closed with buffer := some o })) ∧
        (¬ t.entersAtOnce →
          exec (.idleDeadlineExpire i) s
            = .next (s1.setStation i { closed with waiting := t.waiting ++ [(o, .idleClose)] }))))

/-- R26, R33, R34, R36: the oldest waiting outcome enters the buffer, and its producer goes on. That the outcomes enter oldest
first, and replace a DISCARDED one, is the model's choice (log entry 21), as are that a KEYED_LABEL at a CLOSED station ends
when its outcome enters (log entry 33), that a mode change discards a label that has come meanwhile, and that it ends HALTED in
a desk that has halted meanwhile (log entry 36). That the reason and the result count of an order are 0 where its rule gives
none is the model's choice (log entry 40). -/
def Obligations.WaitingOutcomeEnters : Prop :=
  ∀ (s : State) (i : Fin 4) (o : SlateOutcome) (p : Producer) (rest : List (SlateOutcome × Producer)),
    let t := s.station i
    t.waiting = (o, p) :: rest → t.bufferTakes →
    let t1 : Station := { t with buffer := some o, waiting := rest }
    (p = .completion →
      exec (.outcomeBufferEnter i) s
        = .next (s.setStation i { t1 with inFlight := none, deadline := some s.settings.sessionTimeout })) ∧
    (p = .idleClose → exec (.outcomeBufferEnter i) s = .next (s.setStation i t1)) ∧
    (∀ n m, p = .modeChange n m →
      (s.desk.state ≠ .halted →
        exec (.outcomeBufferEnter i) s
          = .next ((s.setStation i
              { t1 with slot := none, buffer := t1.bufferWithoutPending, mode := m, modeWait := false, deadline := none }).finishOrder
              { outcome := .done, count := n })) ∧
      (s.desk.state = .halted →
        exec (.outcomeBufferEnter i) s
          = .next ((s.setStation i { t1 with modeWait := false }).finishOrder { outcome := .halted, count := 0 }))) ∧
    (p = .keyedClosed →
      exec (.outcomeBufferEnter i) s
        = .next ((s.setStation i t1).finishOrder { outcome := .refused, reason := some .stationClosed }))

/-- R35, R37: the slate writer serves the first station in turn whose buffer holds an outcome. It writes, in order: the change
count odd, every outcome field, the count even, the outcome sequence raised by 1; it raises STATION_OUTCOME. The outcome of a
keyed label ends its order (R34). R19, R37, R38: with no outcome waiting, the writer serves the first channel in turn whose
mirror is pending: its six counters and the closed-scan count, one 16-bit access each; the flag is cleared. How the writer's
turns go on, and that bytes 44 to 47 of a slate, which no rule names, are never written, are the model's choices (log entries
20, 33). -/
def Obligations.SlatesAreWritten : Prop :=
  (∀ (s : State) (k : Fin 4) (o : SlateOutcome),
     let i := s.writer.outcomeTurn + k
     let t := s.station i
     let a := s.geometry.slateArea + 48 * i.val
     let odd := if s.mem.read16 a % 2 = 0 then s.mem.read16 a + 1 else s.mem.read16 a
     s.desk.state = .opened ∨ s.desk.state = .halted → t.buffer = some o →
     (∀ j : Fin 4, j < k → (s.station (s.writer.outcomeTurn + j)).buffer = none) →
     let fields : List Nat :=
       [if o.refused then 3 + 256 * o.reason.code else o.reason.code,
        o.borrower % 65536, o.borrower / 65536 % 65536,
        o.item % 65536, o.item / 65536 % 65536, o.item / 4294967296 % 65536, o.item / 281474976710656 % 65536,
        o.due.day, o.due.minute, o.fine % 65536, o.fine / 65536 % 65536,
        o.blocks.code + 256 * itemStateCode o.itemState,
        o.sessionItems % 256 + (if o.slipLost then 256 else 0)]
     let written := ((s.writeAll
         ({ addr := a, word := odd } :: putWords (a + 2) fields ++
           [{ addr := a, word := (odd + 1) % 65536 }, { addr := a + 28, word := (t.sequence + 1) % 65536 }])).raise
             .stationOutcome).setStation i { t with buffer := none, sequence := (t.sequence + 1) % 65536 }
     let after := written.withWriter { s.writer with outcomeTurn := i + 1 }
     (¬ (o.keyed = true ∧ s.currentOrder.map TakenOrder.wait = some .slate) → exec .slateOutcomeWrite s = .next after) ∧
     (o.keyed = true → s.currentOrder.map TakenOrder.wait = some .slate →
       exec .slateOutcomeWrite s = .next (after.finishOrder
         { outcome := if o.refused then .refused else .done, reason := some o.reason, count := o.sessionItems,
           blocks := o.blocks }))) ∧
  (∀ (s : State) (k : Fin 4),
     let i := s.writer.mirrorTurn + k
     let c := s.channel i
     s.desk.state = .opened ∨ s.desk.state = .halted → (∀ j, (s.station j).buffer = none) → c.mirrorPending = true →
     (∀ j : Fin 4, j < k → (s.channel (s.writer.mirrorTurn + j)).mirrorPending = false) →
     exec .counterMirrorWrite s
       = .next (((s.writeAll (putWords (s.geometry.slateArea + 48 * i.val + 30)
           [c.counters.format, c.counters.character, c.counters.speed, c.counters.check, c.counters.noise, c.counters.repeated,
            (s.station i).closedScans])).setChannel i { c with mirrorPending := false }).withWriter
         { s.writer with mirrorTurn := i + 1 }))

/-- R39, R40: at a boundary that ends a step, a stop silences the generator; else a waiting pattern is latched; else the next step
of the pattern; after the last step the generator is silent. A tone's period is the nearest whole number of SYSCLK periods, a
half rounded up, and its duty that number div 2; a gap keeps the period and has duty 0. A pattern is latched at once by a
silent generator and waits for the end of the period in a sounding one. The frequency of SYSCLK is an opaque constant (log
entry 9). That a pattern started while the generator runs out its period after a desk restart takes the stop back is the
model's choice (log entry 36). -/
def Obligations.TonesRunByPeriods : Prop :=
  (∀ (s : State) (i : Fin 4) (x : ToneOutput),
     let t := s.station i
     let silent : ToneGen := { output := none, steps := [], next := none, stopping := false }
     let sounding : ToneStep → List ToneStep → ToneGen := fun st rest =>
       { output := some
           (if st.hz = 0 then { period := x.period, duty := 0 }
            else { period := (2 * Config.sysclkHz + st.hz) / (2 * st.hz), duty := (2 * Config.sysclkHz + st.hz) / (2 * st.hz) / 2 })
         steps := st :: rest, next := none, stopping := false }
     t.tone.output = some x →
     (t.tone.stopping = true →
       exec (.toneStepEnd i) s = .next (s.setStation i { t with tone := silent }) ∧
       exec (.tonePeriodEnd i) s = .next (s.setStation i { t with tone := silent })) ∧
     (∀ st rest, t.tone.stopping = false → t.tone.next = some (st :: rest) →
       exec (.toneStepEnd i) s = .next (s.setStation i { t with tone := sounding st rest }) ∧
       exec (.tonePeriodEnd i) s = .next (s.setStation i { t with tone := sounding st rest })) ∧
     (∀ a st rest, t.tone.stopping = false → t.tone.next = none → t.tone.steps = a :: st :: rest →
       exec (.toneStepEnd i) s = .next (s.setStation i { t with tone := sounding st rest })) ∧
     (∀ a, t.tone.stopping = false → t.tone.next = none → t.tone.steps = [a] →
       exec (.toneStepEnd i) s = .next (s.setStation i { t with tone := silent }))) ∧
  (∀ g : ToneGen,
     let wave : Nat → ToneOutput := fun hz =>
       { period := (2 * Config.sysclkHz + hz) / (2 * hz), duty := (2 * Config.sysclkHz + hz) / (2 * hz) / 2 }
     let tone : Nat → Nat → ToneStep := fun hz ms => { hz := hz, ms := ms }
     let attention := [tone 1500 300, tone 0 150, tone 1500 300]
     let refuse := [tone 1000 100, tone 0 100, tone 1000 100, tone 0 100, tone 1000 100]
     (g.output = none →
       g.start .accept = { output := some (wave 2000), steps := [tone 2000 120], next := none, stopping := false } ∧
       g.start .attention = { output := some (wave 1500), steps := attention, next := none, stopping := false } ∧
       g.start .refuse = { output := some (wave 1000), steps := refuse, next := none, stopping := false }) ∧
     (g.output ≠ none →
       g.start .accept = { g with next := some [tone 2000 120], stopping := false } ∧
       g.start .attention = { g with next := some attention, stopping := false } ∧
       g.start .refuse = { g with next := some refuse, stopping := false }))

/-- R33: SET_STATION_MODE ends LIMIT for a station above 3 or a mode outside the five; else it sets the mode-change wait. R31,
R33, R36: with nothing in flight the mode change discards the pending label, closes the session and sets the mode; a desk that
has halted meanwhile ends the order HALTED with no other change. That SESSION_CLOSED queues behind outcomes that wait is the
model's choice (log entry 21). That the reason and the result count of an order are 0 where its rule gives none is the model's
choice (log entry 40). -/
def Obligations.ModesAreSet : Prop :=
  (∀ (s : State) (o : Order), s.orderAt kindSetStationMode .owner = some o →
     (3 < o.a ∨ 4 < o.b → exec .setStationMode s = .next (s.finishOrder { outcome := .limit })) ∧
     (∀ i : Fin 4, o.a = i.val → o.b ≤ 4 →
       exec .setStationMode s
         = .next ((s.setStation i { s.station i with modeWait := true }).orderWaits .flight))) ∧
  (∀ (s : State) (o : Order) (i : Fin 4) (m : Mode),
     s.orderAt kindSetStationMode .flight = some o → o.a = i.val → Mode.ofCode o.b = some m →
     (s.station i).inFlight = none →
     let t := s.station i
     let closed : Station := { t with slot := none, buffer := t.bufferWithoutPending, session := none, items := [] }
     let set : Station := { closed with mode := m, modeWait := false, deadline := none }
     (s.desk.state = .halted →
       exec .modeChangeFinish s
         = .next ((s.setStation i { t with modeWait := false }).finishOrder { outcome := .halted, count := 0 })) ∧
     (s.desk.state ≠ .halted → t.session = none →
       exec .modeChangeFinish s
         = .next ((s.setStation i { set with items := t.items }).finishOrder { outcome := .done, count := 0 })) ∧
     (∀ se, s.desk.state ≠ .halted → t.session = some se →
       let lost := decide (16 ≤ s.printer.queue.length)
       (¬ s.closePrints i → closed.entersAtOnce →
         exec .modeChangeFinish s
           = .next ((s.setStation i { set with buffer := some (closedOutcome se.number t.items.length false) }).finishOrder
               { outcome := .done, count := t.items.length })) ∧
       (s.closePrints i → closed.entersAtOnce →
         exec .modeChangeFinish s
           = .next (((s.requestSlip (s.closeSlip i se.number)).setStation i
               { set with buffer := some (closedOutcome se.number t.items.length lost) }).finishOrder
                 { outcome := .done, count := t.items.length })) ∧
       (s.closePrints i → ¬ closed.entersAtOnce →
         exec .modeChangeFinish s
           = .next (((s.requestSlip (s.closeSlip i se.number)).setStation i { closed with waiting :=
               t.waiting ++ [(closedOutcome se.number t.items.length lost, .modeChange t.items.length m)] }).orderWaits
                 .buffer)) ∧
       (¬ s.closePrints i → ¬ closed.entersAtOnce →
         exec .modeChangeFinish s
           = .next ((s.setStation i { closed with waiting :=
               t.waiting ++ [(closedOutcome se.number t.items.length false, .modeChange t.items.length m)] }).orderWaits
                 .buffer))))

/-- R24, R34: KEYED_LABEL. Operands out of their ranges end LIMIT. A CLOSED station refuses with the outcome STATION_CLOSED, no
tone and no deadline; an empty slot takes the label FORWARD and tagged KEYED; a full slot makes the order wait, and
KEYED_LABEL_ENTER puts the label in once the slot is empty. The repeat check is not touched. That the outcome queues behind
those that wait, and that the order of a CLOSED station ends with count 0 when its outcome enters, are the model's choices (log
entries 21, 33). That the reason and the result count of an order are 0 where its rule gives none is the model's choice (log
entry 40). -/
def Obligations.KeyedLabelArrives : Prop :=
  ∀ (s : State) (o : Order),
    let label : Label := { kind := if o.b = 1 then .item else .borrower,
                           number := if o.b = 1 then o.item else o.borrower, direction := .forward, tag := .keyed }
    let inRange := (o.b = 1 ∧ 1 ≤ o.item ∧ o.item ≤ 9999999999) ∨ (o.b = 2 ∧ 1 ≤ o.borrower ∧ o.borrower ≤ 99999999)
    (s.orderAt kindKeyedLabel .owner = some o →
      (3 < o.a ∨ ¬ inRange → exec .keyedLabel s = .next (s.finishOrder { outcome := .limit })) ∧
      (∀ i : Fin 4, o.a = i.val → inRange →
        let t := s.station i
        let refusal : SlateOutcome :=
          { discardedOutcome label t.items.length with refused := true, reason := .stationClosed }
        (t.mode = .closed → t.entersAtOnce →
          exec .keyedLabel s = .next ((s.setStation i { t with buffer := some refusal }).finishOrder
            { outcome := .refused, reason := some .stationClosed })) ∧
        (t.mode = .closed → ¬ t.entersAtOnce →
          exec .keyedLabel s = .next ((s.setStation i
            { t with waiting := t.waiting ++ [(refusal, .keyedClosed)] }).orderWaits .buffer)) ∧
        (t.mode ≠ .closed → t.slot = none →
          exec .keyedLabel s = .next ((s.setStation i
            { t with slot := some label, deadline := some s.settings.sessionTimeout }).orderWaits .slate)) ∧
        (t.mode ≠ .closed → t.slot ≠ none → exec .keyedLabel s = .next (s.orderWaits .slot)))) ∧
    (∀ i : Fin 4, s.orderAt kindKeyedLabel .slot = some o → o.a = i.val → inRange → (s.station i).mode ≠ .closed →
      (s.station i).slot = none →
      exec .keyedLabelEnter s = .next ((s.setStation i
        { s.station i with slot := some label, deadline := some s.settings.sessionTimeout }).orderWaits .slate))

/-! ## The decision engine -/

/-- R86, R88: an IDLE engine of an OPEN or HALTED desk grants the first standing position from the rotation pointer on. The
pointer moves past it, the transaction takes its stamp, rules and room and whether a station is busy (R56), and the grant goes
to its requester: a station's label moves from the slot to in flight, an order or a mark is waited for. R25, R85, R87: what each of the six positions stands for. A station stands for the label in
its slot while nothing is in flight and no mode change waits; position 5 serves the only one of sweep and center line that
stands, and turns the preference to the other; with both standing the preference decides and turns. R27, R28, R29: the
interpretation that mode and session give a label. -/
def Obligations.GrantFollowsTheRotation : Prop :=
  (∀ (s : State) (k : Fin 6) (g : Grant) (bg : Background),
     let p := s.engine.pointer + k
     s.desk.state = .opened ∨ s.desk.state = .halted → s.engine.state = .idle → s.standsAt p = some (g, bg) →
     (∀ j : Fin 6, j < k → s.standsAt (s.engine.pointer + j) = none) →
     let txn : Requester → TxnKind → Option Label → Txn := fun r kind l =>
       { requester := r, kind := kind, label := l,
         stamp := if s.clock.isSet then some { day := s.clock.day, minute := s.clock.minute } else none,
         rules := s.rules, halted := s.desk.state == .halted, room := s.journal.room,
         busy := decide (∃ i : Fin 4, (s.station i).slot ≠ none ∨ (s.station i).inFlight ≠ none) }
     let busy : Txn → State → Host.Outcome State Fault Refusal := fun t u =>
       .next (u.withEngine { s.engine with state := .busy, current := some t, pointer := p + 1, background := bg })
     (∀ i l kind, g = .station i l kind →
       exec .engineGrant s = busy (txn (.station i) kind (some l))
         (s.setStation i { s.station i with inFlight := (s.station i).slot, slot := none })) ∧
     (∀ kind, g = .order kind → (∀ a b, kind ≠ .pagesReleased a b) →
       exec .engineGrant s = busy (txn .order kind none) (s.orderWaits .engine)) ∧
     (∀ pages last, g = .order (.pagesReleased pages last) →
       exec .engineGrant s = busy (txn .order (.pagesReleased pages last) none) (s.orderWaits (.mark pages))) ∧
     (g = .center .started →
       exec .engineGrant s = busy (txn .center .uploadStarted none)
         (s.withUpload { s.upload with startedMark := .granted })) ∧
     (g = .center .ended →
       exec .engineGrant s = busy (txn .center .uploadEnded none)
         (s.withUpload { s.upload with endedMark := .granted })) ∧
     (g = .sweep →
       exec .engineGrant s = busy (txn .sweep .sweepStep none) (s.withSweep { s.sweep with inEngine := true })) ∧
     (∀ n, g = .center (.notice n) →
       exec .engineGrant s = busy (txn .center (.notice n) none)
         (s.withUpload { s.upload with held := some { notice := n, granted := true } }))) ∧
  (∀ (s : State),
     (∀ (p : Fin 6) (i : Fin 4), p.val = i.val →
       s.standsAt p
         = match (s.station i).slot with
           | none => none
           | some l =>
             if (s.station i).inFlight ≠ none ∨ (s.station i).modeWait = true then none
             else ((s.station i).interpretation l).map fun k => (.station i l k, s.engine.background)) ∧
     (∀ o w, s.currentOrder = some o → o.wait = w →
       (w = .grant → s.standsAt 4 = some (.order (.order o.order), s.engine.background)) ∧
       (∀ a b, w = .markGrant a b → s.standsAt 4 = some (.order (.pagesReleased a b), s.engine.background))) ∧
     (s.currentOrder = none → s.standsAt 4 = none) ∧
     (s.upload.request
       = if s.upload.startedMark = .standing then some .started
         else if s.upload.held ≠ none ∧ (s.upload.held.map HeldNotice.granted) = some false then
           s.upload.held.map fun h => .notice h.notice
         else if s.upload.endedMark = .standing then some .ended else none) ∧
     (let sweeps := s.sweep.state = .running ∧ s.sweep.inEngine = false
      (¬ sweeps → s.upload.request = none → s.standsAt 5 = none) ∧
      (sweeps → s.upload.request = none → s.standsAt 5 = some (.sweep, .center)) ∧
      (∀ r, ¬ sweeps → s.upload.request = some r → s.standsAt 5 = some (.center r, .sweep)) ∧
      (∀ r, sweeps → s.upload.request = some r → s.engine.background = .sweep → s.standsAt 5 = some (.sweep, .center)) ∧
      (∀ r, sweeps → s.upload.request = some r → s.engine.background = .center → s.standsAt 5 = some (.center r, .sweep)))) ∧
  (∀ (t : Station) (l : Label),
     t.interpretation l
       = if t.mode = .closed then none
         else some
           (if l.kind = .item then
              (if t.mode = .returning then .returnItem
               else if t.mode = .inquiry then .itemInquiry
               else if t.session = none then .noBorrower
               else if t.mode = .checkout then .checkout
               else .renewal)
            else
              (if t.mode = .returning then .wrongLabel
               else if t.mode = .inquiry then .borrowerInquiry
               else match t.session with
                 | none => .sessionOpen false
                 | some se => if se.number = l.number then .sessionRefresh else .sessionOpen true)))

/-- R59, R89, R111, R112, R136, R138, R150, R152, R156: a transaction that commits writes its commit through the slot, moves the
journal on from the view its cut has left, raises JOURNAL_LOW when room falls from above 64 to 64 or below, sets the clock of
a SET_CLOCK, requests its slip, lets the engine go, and hands over. One without an entry hands over alone, a report after its
entries, a mark that is omitted after its view. What a transaction of a station or of an order leaves unchanged: every byte
outside its own writes, the printer group and, for an order, the first 12 bytes of its block; and every block that takes no
part. -/
def Obligations.CommitIsConcluded : Prop :=
  (∀ (s : State) (t : Txn) (before : List WordWrite) (images : List Image) (e : EntryBody) (view : Option Journal)
     (clock : Option Clock) (slip : Option Slip) (shelf : Bool) (r : TxnResult) (pointer : Option Nat),
     let m := s.mem.apply before
     let j := view.getD s.journal
     let cut : State → State := fun u => u.raiseIf (decide (64 < s.journal.room) && decide (j.room ≤ 64)) .journalLow
     let a := j.append s.geometry m (s.desk.anchor + 0x30)
     let mem := m.apply (commitWrites (s.desk.anchor + 0xB0) (images ++ a.images) a.target (e.words j.nextSequence))
     let committed := (cut ((s.withMem mem).withJournal a.view)).raiseIf
       (decide (64 < j.room) && decide (a.view.room ≤ 64)) .journalLow
     let started := if s.sweep.state = .idle then { s.sweep with state := .running, changed := false }
       else { s.sweep with state := .running }
     let armed := match clock with
       | none => committed
       | some c =>
         if s.clock.isSet = false ∨ s.clock.day < c.day then ((committed.withClock c).raise .dayChanged).withSweep started
         else committed.withClock c
     let asked := match slip with
       | none => armed
       | some x => armed.requestSlip x
     let lost := slip.isSome && decide (16 ≤ s.printer.queue.length)
     let released : Engine :=
       { s.engine with state := if s.engine.holdAsked then .held else .idle, current := none, holdAsked := false }
     s.conclude t
         { before := before, images := images, entry := some e, view := view, clock := clock, slip := slip, shelfChanged := shelf,
           result := r }
         = ((asked.withEngine released).handOver t r lost true).raiseIf shelf .holdShelfChanged ∧
       s.conclude t { before := before, view := view, pointer := pointer, result := r }
         = (((cut ((s.withMem m).withJournal j)).withEngine released).withExecutor
             { s.executor with pointer := pointer.getD s.executor.pointer }).handOver t r false false) ∧
  (∀ (s : State) (t : Txn) (p : Plan),
     let u := s.conclude t p
     let kept : Nat → Prop := fun a =>
       (∀ w ∈ p.writes s, a ≠ w.addr ∧ a ≠ w.addr + 1) ∧ (a < s.desk.anchor + 0x60 ∨ s.desk.anchor + 0x70 ≤ a)
     let others := u.desk = s.desk ∧ u.geometry = s.geometry ∧ u.settings = s.settings ∧ u.rules = s.rules ∧
       u.channels = s.channels ∧ u.writer = s.writer ∧ u.upload = s.upload ∧ u.line = s.line ∧ u.pending = s.pending ∧
       u.choices = s.choices ∧
       (p.clock = none → u.clock = s.clock ∧ u.sweep = s.sweep)
     (∀ i x, t.requester = .station i → p.result = .station x →
       others ∧ (∀ j, j ≠ i → u.station j = s.station j) ∧ (p.pointer = none → u.executor = s.executor) ∧
       (∀ a, kept a → u.mem.read8 a = s.mem.read8 a)) ∧
     (∀ x l, t.requester = .order → p.result = .order x → s.executor.running = some l →
       others ∧ u.stations = s.stations ∧
       (∀ a, kept a → a < l.address ∨ l.address + 12 ≤ a → u.mem.read8 a = s.mem.read8 a)))

/-- R89, R142, R144, R154, R158, R170, R173, R175: the result of a transaction goes to its requester: a station completes its
label, the executor ends the order, the sweep goes on, ends or waits for room, a notice is counted and may end the upload, and a
mark ends the step that stood for it. R175, R176: an upload that becomes IDLE ends an ABORT_UPLOAD that waits for it. That the
reason and the result count of an order are 0 where its rule gives none is the model's choice (log entry 40). -/
def Obligations.ResultsAreHandedOver : Prop :=
  ∀ (s : State) (t : Txn) (lost committed : Bool),
    let waits := s.currentOrder.map TakenOrder.wait
    let idle : Upload :=
      { state := .idle, frame := none, asking := false, sends := 0, replyTimer := none, noticeTimer := none, held := none,
        finishedNoted := false, watch := false, endReason := s.upload.endReason, cutMade := false,
        startStamp := s.upload.startStamp, cutSequence := s.upload.cutSequence, startedMark := .absent, endedMark := .absent }
    let becomesIdle : State → State → Prop := fun u v =>
      (∀ n, waits = some (.uploadIdle n) → v = (u.withUpload idle).finishOrder { outcome := .done, count := n }) ∧
      ((∀ n, waits ≠ some (.uploadIdle n)) → v = u.withUpload idle)
    (∀ i x, t.requester = .station i →
      s.handOver t (.station x) lost committed = s.completeLabel i t.kind x lost) ∧
    (∀ x, t.requester = .order → s.handOver t (.order x) lost committed = s.finishOrder { x with slipLost := lost }) ∧
    (t.requester = .sweep →
      let changed := s.sweep.changed || committed
      s.handOver t (.sweep .goesOn) lost committed = s.withSweep { s.sweep with inEngine := false, changed := changed } ∧
      s.handOver t (.sweep .done) lost committed
        = (s.withSweep { state := .idle, inEngine := false, changed := changed }).raiseIf changed .holdShelfChanged ∧
      (s.journal.room = 0 →
        s.handOver t (.sweep .journalFull) lost committed
          = s.withSweep { state := .deferred, inEngine := false, changed := changed }) ∧
      (s.journal.room ≠ 0 →
        s.handOver t (.sweep .journalFull) lost committed
          = s.withSweep { state := .running, inEngine := false, changed := changed })) ∧
    (∀ applied, t.requester = .center →
      let counted := (s.count16 offReport (if applied then 0x82 else 0x84)).withUpload { s.upload with held := none }
      (s.upload.state ≠ .ending → s.upload.finishedNoted = false →
        s.handOver t (.notice applied) lost committed = counted) ∧
      (s.upload.state ≠ .ending → s.upload.finishedNoted = true →
        s.handOver t (.notice applied) lost committed = counted.endUpload .ok) ∧
      (s.upload.state = .ending → s.upload.cutMade = true →
        s.handOver t (.notice applied) lost committed
          = (counted.writeField offReport offEndReason s.upload.endReason.code).withUpload
              { s.upload with held := none, endedMark := .standing }) ∧
      (s.upload.state = .ending → s.upload.cutMade = false →
        becomesIdle (s.count16 offReport (if applied then 0x82 else 0x84)) (s.handOver t (.notice applied) lost committed))) ∧
    (∀ refusal pages last, t.requester = .order → t.kind = .pagesReleased pages last →
      s.handOver t (.mark refusal) lost committed
        = s.finishOrder { outcome := .done, reason := refusal, count := pages }) ∧
    (∀ refusal st, t.requester = .center → t.kind = .uploadStarted → t.stamp = some st →
      let a := s.desk.anchor + 0x70
      let cut := s.upload.cutSequence
      let pages := s.journal.cutCount
      let made : Upload := { s.upload with cutMade := true, startStamp := st, startedMark := .absent }
      let report := (s.withUpload made).writeAll
        (groupWrites s.mem a (putWords (a + 2)
          [5, st.day, st.minute, cut % 65536, cut / 65536 % 65536, pages, 0, 0, 0, 0, 0, 0, s.mem.read16 (a + 26), 0, 0]))
      let opening : PartFrame := .opening s.settings.branch st.day st.minute cut pages
      let goesOn : State → State := fun u =>
        if s.upload.state = .ending then
          (u.writeField offReport offEndReason s.upload.endReason.code).withUpload { made with endedMark := .standing }
        else
          (u.withUpload { made with frame := some opening, asking := false, sends := 1, replyTimer := none }).withLine
            { s.line with transmission := some { frame := opening, begun := 0 }, sent := [] }
      (waits = some .cut →
        s.handOver t (.mark refusal) lost committed
          = goesOn (report.finishOrder { outcome := .done, reason := refusal, count := pages })) ∧
      (waits ≠ some .cut → s.handOver t (.mark refusal) lost committed = goesOn report)) ∧
    (∀ refusal, t.requester = .center → t.kind = .uploadEnded →
      becomesIdle (s.raise .uploadEnded) (s.handOver t (.mark refusal) lost committed))

/-- R90: the gates in their order, for every transaction of a station's label, of an order but the reports, of the day sweep and
of a notice: a HALTED desk refuses all; an unset clock refuses all but the inquiries and SET_CLOCK; room 64 or less refuses the
first class and room 0 the second. A refused transaction writes nothing, and a refusal at a station names the numbers that label
and session name (R35). R79, R144: a notice refused at a gate is IGNORED; a sweep step refused for room waits, and one refused
otherwise ends the sweep, which for an unset clock is the model's choice (log entry 33). That the reason and the result count of
an order are 0 where its rule gives none is the model's choice (log entry 40). -/
def Obligations.GatesRefuseInOrder : Prop :=
  ∀ (s : State) (t : Txn),
    let k := t.kind
    let order : List Nat → Prop := fun ks => ∃ o, k = .order o ∧ o.kind ∈ ks
    let aboveReserve := k = .checkout ∨ k = .renewal ∨ order [3, 4, 5, 7, 11, 12, 13, 14, 16]
    let oneOrMore := k = .returnItem ∨ order [6, 8, 9, 10, 17]
    let noRoom := (∃ c, k = .sessionOpen c) ∨ k = .sessionRefresh ∨ k = .noBorrower ∨ k = .wrongLabel ∨
      k = .borrowerInquiry ∨ k = .itemInquiry
    let clockFree := k = .borrowerInquiry ∨ k = .itemInquiry ∨ order [14]
    let refusedWith : Reason → Prop := fun r =>
      ((∃ o, k = .order o) → planTxn s t = orderRefused r) ∧
      (∀ i l, (∀ o, k ≠ .order o) → t.requester = .station i → t.label = some l →
        planTxn s t = stationRefused r
          (if l.kind = .item then (match (s.station i).session with | some se => se.number | none => 0) else l.number)
          (if l.kind = .item then l.number else 0))
    (aboveReserve ∨ oneOrMore ∨ noRoom →
      (t.halted = true → refusedWith .deskHalted) ∧
      (t.halted = false → t.stamp = none → ¬ clockFree → refusedWith .clockUnset) ∧
      (t.halted = false → (clockFree ∨ t.stamp ≠ none) → aboveReserve → t.room ≤ 64 → refusedWith .journalFull) ∧
      (t.halted = false → (clockFree ∨ t.stamp ≠ none) → oneOrMore → t.room = 0 → refusedWith .journalFull)) ∧
    (k = .sweepStep →
      (t.halted = true ∨ t.stamp = none → planTxn s t = { result := .sweep .done }) ∧
      (t.halted = false → t.stamp ≠ none → t.room = 0 → planTxn s t = { result := .sweep .journalFull })) ∧
    (∀ n, k = .notice n → t.halted = true ∨ t.stamp = none ∨ t.room = 0 → planTxn s t = { result := .notice false })

/-- R92, R103, R104: the station transactions that change no table: a session opened or refreshed, an item without a session, a
borrower label in RETURN, and the inquiries with what they report. -/
def Obligations.QuietLabelsAreAnswered : Prop :=
  ∀ (s : State) (t : Txn) (i : Fin 4) (n : Nat), s.engaged t → t.requester = .station i →
    (∀ c st, t.kind = .sessionOpen c → t.names .borrower n → t.admitted st 0 → s.headerGood .borrower →
      (s.tables.lookup .borrower n = .ok none →
        exec .sessionOpen s = .next (s.conclude t (stationRefused .unknownBorrower n 0))) ∧
      (∀ j, s.tables.lookup .borrower n = .ok (some j) →
        let set := (s.tables.borrower j).blocks t.rules (some st)
        (set.any = true → exec .sessionOpen s = .next (s.conclude t (stationBlocked set n 0))) ∧
        (set.any = false →
          exec .sessionOpen s = .next (s.conclude t (stationAnswer
            { refused := false, reason := .sessionOpened, borrower := n,
              opens := some { number := n, index := j } }))))) ∧
    (∀ st se, t.kind = .sessionRefresh → t.admitted st 0 → (s.station i).session = some se →
      exec .sessionRefresh s = .next (s.conclude t (stationAnswer
        { refused := false, reason := .sessionOpened, borrower := se.number }))) ∧
    (∀ st, t.kind = .noBorrower → t.names .item n → t.admitted st 0 → (s.station i).session = none →
      exec .noBorrower s = .next (s.conclude t (stationRefused .noBorrower 0 n))) ∧
    (∀ st, t.kind = .wrongLabel → t.names .borrower n → t.admitted st 0 →
      exec .wrongLabel s = .next (s.conclude t (stationRefused .wrongLabel n 0))) ∧
    (t.kind = .borrowerInquiry → t.names .borrower n → t.halted = false → s.headerGood .borrower →
      (s.tables.lookup .borrower n = .ok none →
        exec .borrowerInquiry s = .next (s.conclude t (stationRefused .unknownBorrower n 0))) ∧
      (∀ j, s.tables.lookup .borrower n = .ok (some j) →
        let b := s.tables.borrower j
        exec .borrowerInquiry s = .next (s.conclude t (stationAnswer
          { refused := false, reason := .inquiryBorrower, borrower := n, due := { day := b.expiry, minute := b.loans },
            fine := b.fines, blocks := b.blocks t.rules t.stamp })))) ∧
    (t.kind = .itemInquiry → t.names .item n → t.halted = false → s.headerGood .item →
      let answer : Nat → Stamp → Nat → ItemState → Host.Outcome State Fault Refusal := fun borrower due fine st =>
        .next (s.conclude t (stationAnswer
          { refused := false, reason := .inquiryItem, borrower := borrower, item := n, due := due, fine := fine,
            itemState := some st }))
      (s.tables.lookup .item n = .ok none → exec .itemInquiry s = answer 0 { day := 0, minute := 0 } 0 .onShelf) ∧
      (∀ j, s.tables.lookup .item n = .ok (some j) →
        let r := s.tables.item j
        (r.state = some .withdrawn → exec .itemInquiry s = answer 0 { day := 0, minute := 0 } 0 .withdrawn) ∧
        (∀ b, r.state = some .onLoan → s.headerGood .borrower → s.tables.itemBorrower j = .ok b →
          exec .itemInquiry s = answer b.number r.due
            (match t.stamp with
              | none => 0
              | some st => t.rules.fine (t.rules.policyEntry r.itemClass b.cls) r.hourLoan r.due st) .onLoan) ∧
        (∀ b, r.state = some .lost → s.headerGood .borrower → s.tables.itemBorrower j = .ok b →
          exec .itemInquiry s = answer b.number { day := 0, minute := 0 } 0 .lost) ∧
        (∀ b, r.state = some .onHoldShelf → s.headerGood .borrower → s.tables.holdBorrower j 0 r.head = .ok b →
          exec .itemInquiry s = answer b.number { day := r.deadline, minute := 1439 } 0 .onHoldShelf) ∧
        (∀ b, r.state = some .onShelf → s.headerGood .borrower → s.tables.holdBorrower j 0 r.head = .ok b →
          exec .itemInquiry s = answer b.number { day := 0, minute := 0 } 0 .onShelf)))

/-- R93, R94, R95: a checkout. The checks in their order; a new record, or the borrower's own hold fulfilled, with the due stamp
the calendar gives, one loan more, and the entry CHECKOUT. That a holds count of 0 stays 0 where R94 lets it fall by 1, and that
a record with an empty queue, which has no head, is refused HELD_FOR_OTHER, are the model's choices (log entry 16). -/
def Obligations.CheckoutLends : Prop :=
  ∀ (s : State) (t : Txn) (i : Fin 4) (n : Nat) (st : Stamp) (se : Session),
    s.engaged t → t.requester = .station i → t.kind = .checkout → t.names .item n → t.admitted st 65 →
    (s.station i).session = some se → s.headerGood .borrower → s.headerGood .item →
    let d := s.tables
    let answer : Plan → Prop := fun p => exec .checkout s = .next (s.conclude t p)
    let refused : Reason → Prop := fun r => answer (stationRefused r se.number n)
    (d.sessionBorrower se = none → refused .unknownBorrower) ∧
    (∀ b, d.sessionBorrower se = some b → (b.blocks t.rules (some st)).any = true →
      answer (stationBlocked (b.blocks t.rules (some st)) se.number n)) ∧
    (∀ b found, d.sessionBorrower se = some b → (b.blocks t.rules (some st)).any = false → d.lookup .item n = .ok found →
      let cls := match found with
        | none => t.rules.classOfNumber n
        | some j => (d.item j).itemClass
      let pol := t.rules.policyEntry cls b.cls
      let due := t.rules.dueStamp pol st b.expiry
      let borrower (holds : Nat) : BorrowerRecord := { b with loans := b.loans + 1, activity := st.day, holds := holds }
      let lent (d1 : Draft) (holds : Nat) (fulfils shelf : Bool) : Plan :=
        { images := (d1.putBorrower se.index (borrower holds)).images
          entry := some
            { kind := .checkout, source := .station i
              flags := { t.marks with hourLoan := due.flags.hourLoan, clamped := due.flags.clamped,
                                      limited := due.flags.limited, holdFulfilled := fulfils }
              stamp := st, borrower := se.number, item := n, value1 := due.due.day, value2 := due.due.minute }
          shelfChanged := shelf
          result := .station
            { refused := false, reason := .checkedOut, borrower := se.number, item := n, due := due.due,
              entry := some { item := n, due := due.due, flags := { due.flags with holdFulfilled := fulfils } } } }
      (pol.kind = .none → refused .notLoanable) ∧
      (pol.kind ≠ .none → found = none →
        ((t.rules.borrowerClass b.cls).loanLimit ≤ b.loans → refused .loanLimit) ∧
        (b.loans < (t.rules.borrowerClass b.cls).loanLimit →
          (d.takeFree .item = .ok none → refused .tableFull) ∧
          (∀ j next, d.takeFree .item = .ok (some (j, next)) →
            answer (lent (d.insertItem j next
              { count := 0, state := some .onLoan, itemClass := cls, number := n, borrower := se.index, due := due.due,
                loanDay := st.day, renewCount := 0, hourLoan := due.flags.hourLoan, clamped := due.flags.clamped,
                queue := [], deadline := 0, shelfNext := 0xFFFF, chainNext := 0xFFFF }) b.holds false false)))) ∧
      (∀ j, pol.kind ≠ .none → found = some j →
        let r := d.item j
        let out (d1 : Draft) : ItemRecord :=
          { d1.item j with
            state := some .onLoan, borrower := se.index, due := due.due, loanDay := st.day, renewCount := 0,
            hourLoan := due.flags.hourLoan, clamped := due.flags.clamped, deadline := 0, shelfNext := 0xFFFF,
            queue := r.queue.tail }
        (r.state = some .onLoan → r.borrower ≠ se.index → refused .onLoanElsewhere) ∧
        (r.state = some .lost → refused .itemLost) ∧
        (r.state = some .withdrawn → refused .itemWithdrawn) ∧
        (r.state = some .onShelf ∨ r.state = some .onHoldShelf → r.head ≠ se.index → refused .heldForOther) ∧
        (r.state = some .onShelf ∨ r.state = some .onHoldShelf → r.head = se.index →
          (t.rules.borrowerClass b.cls).loanLimit ≤ b.loans → refused .loanLimit) ∧
        (r.state = some .onShelf → r.head = se.index → b.loans < (t.rules.borrowerClass b.cls).loanLimit →
          answer (lent (d.putItem j (out d)) (b.holds - 1) true false)) ∧
        (∀ d1, r.state = some .onHoldShelf → r.head = se.index → b.loans < (t.rules.borrowerClass b.cls).loanLimit →
          d.shelfRemove j = .ok d1 → answer (lent (d1.putItem j (out d1)) (b.holds - 1) true true))))

/-- R96, R97, R98: a renewal, asked for in RENEW or reached by a checkout of an item on loan to the session borrower; asked for when
the session borrower's record is no longer that borrower's it is refused UNKNOWN_BORROWER. At equal stamps the new flags are
kept, the model's choice (log entry 33). -/
def Obligations.RenewalExtends : Prop :=
  (∀ (s : State) (t : Txn) (i : Fin 4) (n : Nat) (st : Stamp) (se : Session),
    s.engaged t → t.requester = .station i → t.kind = .renewal → t.names .item n → t.admitted st 65 →
    (s.station i).session = some se → s.headerGood .borrower → s.tables.sessionBorrower se = none →
    exec .renewal s = .next (s.conclude t (stationRefused .unknownBorrower se.number n))) ∧
  ∀ (s : State) (t : Txn) (i : Fin 4) (n : Nat) (st : Stamp) (se : Session) (b : BorrowerRecord) (found : Option Nat),
    s.engaged t → t.requester = .station i → t.names .item n → t.admitted st 65 → (s.station i).session = some se →
    s.headerGood .borrower → s.headerGood .item → s.tables.sessionBorrower se = some b →
    s.tables.lookup .item n = .ok found →
    let d := s.tables
    let asked : Plan → Prop := fun p => t.kind = .renewal → exec .renewal s = .next (s.conclude t p)
    let both : Plan → Prop := fun p =>
      (t.kind = .renewal → exec .renewal s = .next (s.conclude t p)) ∧
      (t.kind = .checkout → exec .checkout s = .next (s.conclude t p))
    let notOnLoan : ItemState → Plan := fun x =>
      stationAnswer { refused := false, reason := .notOnLoan, borrower := se.number, item := n, itemState := some x }
    (found = none → asked (notOnLoan .onShelf)) ∧
    (∀ j x, found = some j → (d.item j).state = some x → x ≠ .onLoan → asked (notOnLoan x)) ∧
    (∀ j, found = some j → (d.item j).state = some .onLoan → (d.item j).borrower ≠ se.index →
      asked (stationRefused .onLoanElsewhere se.number n)) ∧
    (∀ j, found = some j → (d.item j).state = some .onLoan → (d.item j).borrower = se.index →
      (b.blocks t.rules (some st)).any = true → asked (stationBlocked (b.blocks t.rules (some st)) se.number n)) ∧
    (∀ j, found = some j → (d.item j).state = some .onLoan → (d.item j).borrower = se.index →
      (b.blocks t.rules (some st)).any = false →
      let r := d.item j
      let pol := t.rules.policyEntry r.itemClass b.cls
      let new := t.rules.dueStamp pol st b.expiry
      let fine := t.rules.fine pol r.hourLoan r.due st
      let due := if r.due.later new.due then r.due else new.due
      let hour := if r.due.later new.due then r.hourLoan else new.flags.hourLoan
      let clamped := if r.due.later new.due then r.clamped else new.flags.clamped
      let limited := if r.due.later new.due then false else new.flags.limited
      (pol.kind = .none → both (stationRefused .notLoanable se.number n)) ∧
      (pol.kind ≠ .none → r.queue ≠ [] → both (stationRefused .holdsWaiting se.number n)) ∧
      (pol.kind ≠ .none → r.queue = [] → pol.renewLimit ≤ r.renewCount →
        both (stationRefused .renewLimit se.number n)) ∧
      (pol.kind ≠ .none → r.queue = [] → r.renewCount < pol.renewLimit →
        both
          { images := ((d.putItem j
                { r with due := due, renewCount := r.renewCount + 1, hourLoan := hour, clamped := clamped }).putBorrower
              se.index { b with fines := min 999999 (b.fines + fine), activity := st.day }).images
            entry := some
              { kind := .renew, source := .station i
                flags := { t.marks with hourLoan := hour, clamped := clamped, limited := limited, renewed := true }
                stamp := st, borrower := se.number, item := n, value1 := fine, value2 := due.day * 1440 + due.minute }
            result := .station
              { refused := false, reason := .renewed, borrower := se.number, item := n, due := due, fine := fine,
                entry := some
                  { item := n, due := due,
                    flags := { hourLoan := hour, clamped := clamped, limited := limited, renewed := true,
                               holdFulfilled := false } } } }))

/-- R99 to R102, R47, R53: a return. Nothing changes for an item without a record, on the hold shelf or withdrawn; an item on
loan charges its fine, a lost one falls off the lost count; with an empty hold queue the record is freed, else the item is
trapped with a new pickup deadline and a HOLD slip for the head borrower. A refusal of a WITHDRAWN item names the session
borrower where the station holds a session (R35), which no station in RETURN does (R29). That a loans count of 0 stays 0 is the
model's choice (log entry 16); of the lost count R100 says it. -/
def Obligations.ReturnSettles : Prop :=
  ∀ (s : State) (t : Txn) (i : Fin 4) (n : Nat) (st : Stamp),
    s.engaged t → t.requester = .station i → t.kind = .returnItem → t.names .item n → t.admitted st 1 →
    s.headerGood .item → s.headerGood .borrower →
    let d := s.tables
    let answer : Plan → Prop := fun p => exec .returnItem s = .next (s.conclude t p)
    let unchanged : Reason → ItemState → Plan := fun r x =>
      stationAnswer { refused := false, reason := r, item := n, itemState := some x }
    let entry : EntryFlags → Nat → Nat → Nat → EntryBody := fun f borrower fine deadline =>
      { kind := .returned, source := .station i, flags := f, stamp := st, borrower := borrower, item := n, value1 := fine,
        value2 := deadline }
    let result : Nat → Nat → Bool → TxnResult := fun borrower fine trapped =>
      .station { refused := false, reason := .returned, borrower := borrower, item := n, fine := fine,
                 itemState := some (if trapped then .onHoldShelf else .onShelf), trapped := trapped }
    (d.lookup .item n = .ok none → answer (unchanged .notOnLoan .onShelf)) ∧
    (∀ j, d.lookup .item n = .ok (some j) →
      let r := d.item j
      let deadline := t.rules.pickupDeadline st.day s.settings.pickupDays
      let freed : Draft → EntryFlags → Nat → Nat → Prop := fun d1 f borrower fine =>
        ∀ d2, r.queue = [] → d1.removeItem j = .ok d2 →
          answer { images := d2.images, entry := some (entry f borrower fine 0), result := result borrower fine false }
      let trapped : Draft → EntryFlags → Nat → Nat → Prop := fun d1 f borrower fine =>
        ∀ e rest head d2, r.queue = e :: rest → d1.holdBorrower j 0 e.borrower = .ok head →
          d1.shelfInsert j
              { d1.item j with
                state := some .onHoldShelf, borrower := 0xFFFF, due := { day := 0, minute := 0 }, loanDay := 0,
                renewCount := 0, hourLoan := false, clamped := false, shelfNext := 0xFFFF, deadline := deadline,
                queue := r.queue } = .ok d2 →
          answer
            { images := d2.images
              entry := some (entry { f with trapped := true } borrower fine deadline)
              slip := some
                { kind := .hold, station := some i, stamp := some st, borrower := 0,
                  entries := [{ item := n, due := { day := 0, minute := 0 }, flags := DueFlags.empty }],
                  holdBorrower := head.number, deadline := deadline, text := [] }
              shelfChanged := true
              result := result borrower fine true }
      (r.state = some .onHoldShelf → answer (unchanged .alreadyOnHoldShelf .onHoldShelf)) ∧
      (r.state = some .withdrawn → (s.station i).session = none → answer (stationRefused .itemWithdrawn 0 n)) ∧
      (∀ se, r.state = some .withdrawn → (s.station i).session = some se →
        answer (stationRefused .itemWithdrawn se.number n)) ∧
      (r.state = some .onShelf → trapped d t.marks 0 0) ∧
      (∀ b, r.state = some .onLoan → d.itemBorrower j = .ok b →
        let fine := t.rules.fine (t.rules.policyEntry r.itemClass b.cls) r.hourLoan r.due st
        let d1 := d.putBorrower r.borrower { b with loans := b.loans - 1, fines := min 999999 (b.fines + fine) }
        freed d1 { t.marks with overdue := st.later r.due } b.number fine ∧
          trapped d1 { t.marks with overdue := st.later r.due } b.number fine) ∧
      (∀ b, r.state = some .lost → d.itemBorrower j = .ok b →
        let d1 := d.putBorrower r.borrower { b with lost := b.lost - 1 }
        freed d1 { t.marks with found := true } b.number 0 ∧ trapped d1 { t.marks with found := true } b.number 0))

/-! ## Borrowers -/

/-- R67: the effective block set from the record, the rules in force and the stamp. -/
def Obligations.BlocksFollowTheRecord : Prop :=
  ∀ (b : BorrowerRecord) (rules : Rules) (stamp : Option Stamp),
    let limit := (rules.borrowerClass b.cls).fineBlockLimit
    ((b.blocks rules stamp).manual = true ↔ b.manual ≠ none) ∧
    ((b.blocks rules stamp).center = true ↔ b.center ≠ none) ∧
    ((b.blocks rules stamp).lost = true ↔ 0 < b.lost) ∧
    ((b.blocks rules stamp).fines = true ↔ 0 < limit ∧ limit ≤ b.fines) ∧
    ((b.blocks rules stamp).expired = true ↔ ∃ st, stamp = some st ∧ b.expiry < st.day)

/-- R70 to R73: ADD_BORROWER, UPDATE_BORROWER and REMOVE_BORROWER: the range check, the checks in their order, the record and
the entry with class and expiry day combined. That the reason and the result count of an order are 0 where its rule gives none
is the model's choice (log entry 40). -/
def Obligations.RegistrationOrders : Prop :=
  ∀ (s : State) (t : Txn) (o : Order) (st : Stamp), s.engaged t → t.kind = .order o → s.headerGood .borrower →
    let d := s.tables
    let cls := min o.a 7
    let inRange := 1 ≤ o.borrower ∧ o.borrower ≤ 99999999
    let does : Instr → Plan → Prop := fun c p => exec c s = .next (s.conclude t p)
    (o.kind = 4 → t.admitted st 65 →
      (¬ inRange ∨ 65535 < o.b → does .addBorrower orderLimit) ∧
      (inRange → o.b ≤ 65535 →
        (∀ j, d.lookup .borrower o.borrower = .ok (some j) → does .addBorrower (orderRefused .duplicate)) ∧
        (d.lookup .borrower o.borrower = .ok none →
          (d.takeFree .borrower = .ok none → does .addBorrower (orderRefused .tableFull)) ∧
          (∀ j next, d.takeFree .borrower = .ok (some (j, next)) →
            does .addBorrower (orderCommit
              (d.insertBorrower j next
                { count := 0, inUse := some true, cls := cls, number := o.borrower, expiry := o.b, activity := 0, fines := 0,
                  loans := 0, holds := 0, lost := 0, manual := none, center := none, chainNext := 0xFFFF }).images
              .borrowerAdded st o.borrower 0 0 (cls * 100000 + o.b) j))))) ∧
    (o.kind = 5 → t.admitted st 65 →
      (¬ inRange ∨ 65535 < o.b → does .updateBorrower orderLimit) ∧
      (inRange → o.b ≤ 65535 →
        (d.lookup .borrower o.borrower = .ok none → does .updateBorrower (orderRefused .notFound)) ∧
        (∀ j, d.lookup .borrower o.borrower = .ok (some j) →
          let b := d.borrower j
          (cls = b.cls ∧ o.b = b.expiry → does .updateBorrower (orderDone 0)) ∧
          (¬ (cls = b.cls ∧ o.b = b.expiry) →
            does .updateBorrower (orderCommit (d.putBorrower j { b with cls := cls, expiry := o.b }).images .borrowerChanged st
              o.borrower 0 (b.cls * 100000 + b.expiry) (cls * 100000 + o.b) 1))))) ∧
    (o.kind = 6 → t.admitted st 1 →
      (¬ inRange → does .removeBorrower orderLimit) ∧
      (inRange →
        (d.lookup .borrower o.borrower = .ok none → does .removeBorrower (orderRefused .notFound)) ∧
        (∀ j, d.lookup .borrower o.borrower = .ok (some j) →
          let b := d.borrower j
          (0 < b.loans → does .removeBorrower (orderRefused .hasLoans)) ∧
          (b.loans = 0 → 0 < b.holds → does .removeBorrower (orderRefused .hasHolds)) ∧
          (b.loans = 0 → b.holds = 0 → 0 < b.lost → does .removeBorrower (orderRefused .hasLost)) ∧
          (b.loans = 0 → b.holds = 0 → b.lost = 0 → 0 < b.fines → does .removeBorrower (orderRefused .hasFines)) ∧
          (∀ d1, b.loans = 0 → b.holds = 0 → b.lost = 0 → b.fines = 0 → d.removeBorrower j = .ok d1 →
            does .removeBorrower (orderCommit d1.images .borrowerRemoved st o.borrower 0 (b.cls * 100000 + b.expiry) b.activity
              j)))))

/-- R74, R75: SET_BLOCK and CLEAR_BLOCK on the stored blocks. R76, R77, R78: PAY_FINE and ADJUST_FINE; the entry is written even
when the record does not change. That fines above 999999 count as 999999 and that a number is looked up without a range check
are the model's choices (log entry 33). That the reason and the result count of an order are 0 where its rule gives none is the
model's choice (log entry 40). -/
def Obligations.AccountOrders : Prop :=
  (∀ (s : State) (t : Txn) (o : Order) (st : Stamp), s.engaged t → t.kind = .order o → s.headerGood .borrower →
     let d := s.tables
     let does : Instr → Plan → Prop := fun c p => exec c s = .next (s.conclude t p)
     (o.kind = 7 → t.admitted st 65 →
       (255 < o.a → does .setBlock orderLimit) ∧
       (o.a ≤ 255 → d.lookup .borrower o.borrower = .ok none → does .setBlock (orderRefused .notFound)) ∧
       (∀ j, o.a ≤ 255 → d.lookup .borrower o.borrower = .ok (some j) →
         let b := d.borrower j
         let images := (d.putBorrower j { b with manual := some o.a }).images
         (b.manual = none → does .setBlock (orderCommit images .blockSet st o.borrower 0 256 o.a 1)) ∧
         (∀ old, b.manual = some old → does .setBlock (orderCommit images .blockSet st o.borrower 0 old o.a 0)))) ∧
     (o.kind = 8 → t.admitted st 1 →
       (o.a ≠ 1 → o.a ≠ 2 → does .clearBlock orderLimit) ∧
       (o.a = 1 ∨ o.a = 2 → d.lookup .borrower o.borrower = .ok none → does .clearBlock (orderRefused .notFound)) ∧
       (∀ j, d.lookup .borrower o.borrower = .ok (some j) →
         let b := d.borrower j
         (o.a = 1 → b.manual = none → does .clearBlock (orderDone 0)) ∧
         (∀ note, o.a = 1 → b.manual = some note →
           does .clearBlock (orderCommit (d.putBorrower j { b with manual := none }).images .blockCleared st o.borrower 0 1 note
             1)) ∧
         (o.a = 2 → b.center = none → does .clearBlock (orderDone 0)) ∧
         (∀ origin day, o.a = 2 → b.center = some (origin, day) →
           does .clearBlock (orderCommit (d.putBorrower j { b with center := none }).images .blockCleared st o.borrower 0 2
             origin 1))))) ∧
  (∀ (s : State) (t : Txn) (o : Order) (st : Stamp), s.engaged t → t.kind = .order o → s.headerGood .borrower →
     t.admitted st 1 →
     let d := s.tables
     let does : Instr → Plan → Prop := fun c p => exec c s = .next (s.conclude t p)
     (o.kind = 9 →
       (o.a = 0 ∨ 999999 < o.a → does .payFine orderLimit) ∧
       (1 ≤ o.a → o.a ≤ 999999 → d.lookup .borrower o.borrower = .ok none → does .payFine (orderRefused .notFound)) ∧
       (∀ j, 1 ≤ o.a → o.a ≤ 999999 → d.lookup .borrower o.borrower = .ok (some j) →
         let b := d.borrower j
         (b.fines = 0 → does .payFine (orderCommit [] .pay st o.borrower 0 0 0 o.a)) ∧
         (1 ≤ b.fines → o.a ≤ b.fines →
           does .payFine (orderCommit (d.putBorrower j { b with fines := min 999999 (b.fines - o.a) }).images .pay st o.borrower 0
             o.a (min 999999 (b.fines - o.a)) 0)) ∧
         (1 ≤ b.fines → b.fines < o.a →
           does .payFine (orderCommit (d.putBorrower j { b with fines := 0 }).images .pay st o.borrower 0 b.fines 0
             (((o.a - b.fines : Nat)) : Int))))) ∧
     (o.kind = 10 →
       let amount := ofSigned32 o.a
       (amount = 0 ∨ amount < -999999 ∨ 999999 < amount → does .adjustFine orderLimit) ∧
       (amount ≠ 0 → -999999 ≤ amount → amount ≤ 999999 →
         (d.lookup .borrower o.borrower = .ok none → does .adjustFine (orderRefused .notFound)) ∧
         (∀ j, d.lookup .borrower o.borrower = .ok (some j) →
           let b := d.borrower j
           let owed : Int := max 0 (min 999999 ((b.fines : Int) + amount))
           (owed = b.fines →
             does .adjustFine (orderCommit [] .fineAdjust st o.borrower 0 0 b.fines 0)) ∧
           (owed ≠ b.fines →
             does .adjustFine (orderCommit (d.putBorrower j { b with fines := owed.toNat }).images .fineAdjust st o.borrower 0
               (signed32 (owed - b.fines)) owed.toNat (owed - b.fines)))))))

/-- R79, R80, R81: a center notice. A malformed one, or one for a number not found, is ignored; SET stores the notice's origin and
day; CLEAR removes the CENTER block and records what it removed. -/
def Obligations.NoticesAreApplied : Prop :=
  ∀ (s : State) (t : Txn) (n : CenterNotice), s.engaged t → t.kind = .notice n →
    let d := s.tables
    let does : Plan → Prop := fun p => exec .centerNotice s = .next (s.conclude t p)
    let inRange := 1 ≤ n.borrower ∧ n.borrower ≤ 99999999
    let committed : BorrowerRecord → Nat → Stamp → EntryKind → Nat → Nat → Plan := fun b j st k origin day =>
      { images := (d.putBorrower j b).images
        entry := some
          { kind := k, source := .center, flags := {}, stamp := st, borrower := n.borrower, item := 0, value1 := origin,
            value2 := day }
        result := .notice true }
    (t.halted = true ∨ t.stamp = none ∨ t.room = 0 → does { result := .notice false }) ∧
    ((n.action ≠ 1 ∧ n.action ≠ 2) ∨ ¬ inRange → does { result := .notice false }) ∧
    (∀ st, t.admitted st 1 → n.action = 1 ∨ n.action = 2 → inRange → s.headerGood .borrower →
      (d.lookup .borrower n.borrower = .ok none → does { result := .notice false }) ∧
      (∀ j, d.lookup .borrower n.borrower = .ok (some j) →
        let b := d.borrower j
        (n.action = 1 → does (committed { b with center := some (n.origin, n.day) } j st .centerBlock n.origin n.day)) ∧
        (n.action = 2 → b.center = none → does { result := .notice true }) ∧
        (∀ origin day, n.action = 2 → b.center = some (origin, day) →
          does (committed { b with center := none } j st .centerClear origin day))))

/-- R105, R106, R107: DECLARE_LOST, WITHDRAW and RELEASE: the refusal of each state, the record and the borrower's counts after
each, the entry and the result. That a lost count above 15 is taken like 15, that a count of 0 stays 0, and that an ON_SHELF
record with an empty queue is refused HAS_HOLDS, are the model's choices (log entry 16). That the reason and the result count of
an order are 0 where its rule gives none is the model's choice (log entry 40). -/
def Obligations.ItemOrders : Prop :=
  ∀ (s : State) (t : Txn) (o : Order) (st : Stamp), s.engaged t → t.kind = .order o → s.headerGood .item →
    s.headerGood .borrower → t.admitted st 65 →
    let d := s.tables
    let does : Instr → Plan → Prop := fun c p => exec c s = .next (s.conclude t p)
    let empty : ItemRecord → ItemState → Nat → ItemRecord := fun r x borrower =>
      { r with
        state := some x, borrower := borrower, due := { day := 0, minute := 0 }, loanDay := 0, renewCount := 0,
        hourLoan := false, clamped := false, deadline := 0, shelfNext := 0xFFFF }
    (o.item = 0 ∨ 9999999999 < o.item →
      (o.kind = 11 → does .declareLost orderLimit) ∧ (o.kind = 12 → does .withdraw orderLimit) ∧
      (o.kind = 13 → does .release orderLimit)) ∧
    (1 ≤ o.item → o.item ≤ 9999999999 → d.lookup .item o.item = .ok none →
      (o.kind = 11 → does .declareLost (orderRefused .notOnLoan)) ∧
      (o.kind = 12 → d.takeFree .item = .ok none → does .withdraw (orderRefused .tableFull)) ∧
      (∀ j next, o.kind = 12 → d.takeFree .item = .ok (some (j, next)) →
        does .withdraw (orderCommit
          (d.insertItem j next
            { count := 0, state := some .withdrawn, itemClass := t.rules.classOfNumber o.item, number := o.item,
              borrower := 0xFFFF, due := { day := 0, minute := 0 }, loanDay := 0, renewCount := 0, hourLoan := false,
              clamped := false, queue := [], deadline := 0, shelfNext := 0xFFFF, chainNext := 0xFFFF }).images
          .withdrawn st 0 o.item 0 0 1)) ∧
      (o.kind = 13 → does .release (orderRefused .notFound))) ∧
    (∀ j, 1 ≤ o.item → o.item ≤ 9999999999 → d.lookup .item o.item = .ok (some j) →
      let r := d.item j
      (o.kind = 11 → r.state ≠ some .onLoan → does .declareLost (orderRefused .notOnLoan)) ∧
      (∀ b, o.kind = 11 → r.state = some .onLoan → d.itemBorrower j = .ok b →
        (15 ≤ b.lost → does .declareLost (orderRefused .hasLost)) ∧
        (b.lost < 15 →
          does .declareLost (orderCommit
            ((d.putItem j (empty r .lost r.borrower)).putBorrower r.borrower
              { b with loans := b.loans - 1, lost := b.lost + 1 }).images
            .lost st b.number o.item r.due.day (b.lost + 1) ((b.lost + 1 : Nat) : Int)))) ∧
      (o.kind = 12 →
        (r.state = some .onShelf → does .withdraw (orderRefused .hasHolds)) ∧
        (r.state = some .onLoan → does .withdraw (orderRefused .onLoanElsewhere)) ∧
        (r.state = some .onHoldShelf → does .withdraw (orderRefused .alreadyOnHoldShelf)) ∧
        (r.state = some .withdrawn → does .withdraw (orderRefused .itemWithdrawn)) ∧
        (r.state = some .lost → r.queue ≠ [] → does .withdraw (orderRefused .hasHolds)) ∧
        (∀ b, r.state = some .lost → r.queue = [] → d.itemBorrower j = .ok b →
          does .withdraw (orderCommit
            ((d.putItem j (empty r .withdrawn 0xFFFF)).putBorrower r.borrower { b with lost := b.lost - 1 }).images
            .withdrawn st b.number o.item 1 0 0))) ∧
      (o.kind = 13 → r.state ≠ some .withdrawn → does .release (orderRefused .notFound)) ∧
      (∀ d1, o.kind = 13 → r.state = some .withdrawn → d.removeItem j = .ok d1 →
        does .release (orderCommit d1.images .released st 0 o.item 0 0 j)))

/-! ## Commands, registers and resets -/

/-- A step carries out the command at the front of the queue with the rest of the queue: each step whole, as
95_what_each_step_holds.md gives it (log entry 31). On an empty queue the part goes on by itself, the model's choice (log
entries 2, 37): one bit time of its transmitter (R162), and then the hand-over of a page asked for (R172). An octet in progress
goes on whatever LINE_RDY does; after its last bit the next octet of the frame begins while LINE_RDY is high, with the parity
then in force (R161), and else LINE_TX stays high. The queue is the model's own. -/
def Obligations.StepRunsTheFrontCommand : Prop :=
  (∀ (s : State) (c : Instr) (rest : List Instr), s.pending = c :: rest → step s = exec c (s.withPending rest)) ∧
  (∀ s : State, s.pending = [] →
    let goesOn : State → Prop := fun u =>
      (s.upload.asking = false → step s = .next u) ∧ (s.upload.asking = true → step s = .next u.nextPage)
    let line : List Bool → Line := fun bits => { s.line with octet := bits }
    (∀ x y bits, s.line.octet = x :: y :: bits → goesOn (s.withLine (line (y :: bits)))) ∧
    (s.line.octet.length ≤ 1 →
      (s.line.ready = false ∨ s.line.transmission = none → goesOn (s.withLine (line []))) ∧
      (∀ t, s.line.transmission = some t →
        ((t.frame.octets s.mem).length ≤ t.begun → goesOn (s.withLine (line []))) ∧
        (∀ b, s.line.ready = true → (t.frame.octets s.mem)[t.begun]? = some b →
          let levels := octetLevels s.settings.parity b
          goesOn (s.withLine
            { s.line with
              octet := levels, sent := s.line.sent ++ [levels]
              transmission := some { frame := t.frame, begun := t.begun + 1 } })))))

/-- What power-on leaves where the spec names the value: R2, R22, R23, R84, R108, R113, R139, R147, R168, R178, R193, R204.
00_scope.md, Resets; R194: power-on puts every block at its power-on value. Desk memory keeps what the interrupted work had
written; the levels of the input pins and the queue of commands are outside the part. That pins keep their levels, how far the
interrupted work came and the values the spec does not name are the model's choices (log entries 6, 8, 27). -/
def Obligations.PowerOnResets : Prop :=
  (let s := State.reset
   s.readAnchor = 0 ∧ s.readWorklist = 0 ∧ s.readNotice = 16 ∧ s.readCeiling = 16 ∧ s.readState = 0 ∧ s.noticeOut = false ∧
   s.desk.state = .unanchored ∧ s.desk.reason = .none ∧ s.clock.isSet = false ∧ s.notices.flags = 0 ∧
   s.executor.running = none ∧ s.executor.slot = none ∧ s.executor.abandoned = none ∧
   s.engine.state = .idle ∧ s.engine.pointer = 0 ∧ s.engine.background = .sweep ∧ s.sweep.state = .idle ∧
   s.journal.room = 0 ∧ s.journal.cutCount = 0 ∧ s.upload.state = .idle ∧ s.line.queue = [] ∧
   s.printer.state = .idle ∧ s.printer.queue = [] ∧
   s.settings.prescale = 0 ∧ s.settings.glitchLimit = 0 ∧ s.settings.quietLimit = 65535 ∧ s.settings.repeatWindow = 0 ∧
   s.settings.sessionTimeout = 600 ∧ s.settings.uploadMinute = 65535 ∧ s.settings.pickupDays = 7 ∧
   (∀ p ∈ s.rules.policy, p.kind = .none) ∧
   (∀ i : Fin 4, (s.station i).mode = .closed ∧ (s.station i).session = none ∧ (s.station i).slot = none ∧
     (s.station i).inFlight = none ∧ (s.station i).buffer = none ∧ (s.station i).sequence = 0 ∧
     (s.station i).closedScans = 0 ∧ (s.station i).tone.output = none) ∧
   (∀ i : Fin 4, (s.channel i).capture = .settling ∧ (s.channel i).counter = 0 ∧ (s.channel i).complete = [] ∧
     (s.channel i).inCapture = [] ∧ (s.channel i).decoder = .idle ∧ (s.channel i).mirrorPending = false)) ∧
  (∀ (s : State) (stopped : List (Work × Nat)), ∃ t, exec (.powerOn stopped) s = .next t ∧ t.pending = s.pending ∧
     t.choices = s.choices ∧
     t.mem = (s.interrupt stopped).mem ∧
     t.desk = { state := .unanchored, reason := .none, anchor := 0 } ∧ t.clock.isSet = false ∧
     t.notices = { flags := 0, ceiling := 16 } ∧ t.settings = State.reset.settings ∧ t.rules = State.reset.rules ∧
     t.executor = State.reset.executor ∧ t.engine = State.reset.engine ∧ t.sweep = State.reset.sweep ∧
     t.journal = State.reset.journal ∧ t.upload = State.reset.upload ∧ t.line.queue = [] ∧ t.line.receiver = .hunting ∧
     t.line.transmission = none ∧ t.line.octet = [] ∧ t.line.ready = s.line.ready ∧ t.printer.queue = [] ∧
     t.printer.state = .idle ∧ t.printer.paper = s.printer.paper ∧ t.stations = State.reset.stations ∧
     (∀ i : Fin 4, t.channel i = { State.reset.channel i with level := (s.channel i).level }))

/-- R193, R204: the register writes. NOTICE 0..11 clears that one cause and any other value clears nothing; CEILING takes at
most 16; a write of STATE changes nothing. R204: a read of NOTICE returns the lowest-numbered pending cause below CEILING, or 16
when there is none; NOTICE_OUT is asserted exactly when there is one; raising a cause sets its flag and no other. R193, R206:
what a read of the other registers returns: CEILING its value; ANCHOR the low 24 bits of the value last written; WORKLIST the
posted address, or 0; STATE the desk state, the clock-set flag, the states of the printer, the upload and the executor, and the
reason, each in its place. That bits 9 to 15 of STATE, which R206 does not name, read 0 is the model's choice (log entry 36). -/
def Obligations.RegistersAct : Prop :=
  (∀ (s : State) (v : RegWord),
     (v.toNat < 12 →
       ∃ u, exec (.noticeWrite v) s = .next (s.withNotices u) ∧ u.ceiling = s.notices.ceiling ∧
         ∀ n, n < 12 → u.flags.getLsbD n = (s.notices.flags.getLsbD n && decide (n ≠ v.toNat))) ∧
     (12 ≤ v.toNat → exec (.noticeWrite v) s = .next s) ∧
     (v.toNat ≤ 16 → exec (.ceilingWrite v) s = .next (s.withNotices { flags := s.notices.flags, ceiling := v.toNat })) ∧
     (16 < v.toNat → exec (.ceilingWrite v) s = .next (s.withNotices { flags := s.notices.flags, ceiling := 16 })) ∧
     exec (.stateWrite v) s = .next s) ∧
  (∀ (s : State),
     let shown : Nat → Prop := fun n => s.notices.flags.getLsbD n = true ∧ n < s.notices.ceiling
     (∀ n, n < 12 → shown n → (∀ k, k < n → ¬ shown k) → s.readNotice = n ∧ s.noticeOut = true) ∧
     ((∀ n, n < 12 → ¬ shown n) → s.readNotice = 16 ∧ s.noticeOut = false) ∧
     (∀ (c : Cause) (n : Nat), n < 12 →
       (s.raise c).notices.flags.getLsbD n = (s.notices.flags.getLsbD n || decide (n = c.number)))) ∧
  (∀ (s : State),
     let desk := match s.desk.state with | .unanchored => 0 | .anchoring => 1 | .opened => 2 | .halted => 3
     let printer := match s.printer.state with | .idle => 0 | .printing => 1 | .paperOut => 2
     let upload := match s.upload.state with
       | .idle => 0 | .opening => 1 | .sending => 2 | .closing => 3 | .receivingNotices => 4 | .ending => 5
     let reason := match s.desk.reason with
       | .none => 0 | .detached => 1 | .badMagic => 2 | .badVersion => 3 | .badWindow => 4 | .outsideWindow => 5
       | .misaligned => 6 | .badPageCount => 7 | .commitSlot => 16 | .tableHeader => 17 | .tableWindow => 18 | .tableIndex => 19
       | .tableChain => 20 | .tableRecord => 21 | .tableBucket => 22 | .tableFreeList => 23 | .tableShelf => 24
       | .journalShape => 25 | .postAddress => 32 | .listWindow => 33
     s.readCeiling = s.notices.ceiling ∧ s.readAnchor = s.desk.anchor ∧
     (s.executor.slot = none → s.readWorklist = 0) ∧ (∀ a, s.executor.slot = some a → s.readWorklist = a) ∧
     (∀ v stopped u, exec (.anchorWrite v stopped) s = .next u → u.readAnchor = v.toNat % 2 ^ 24) ∧
     s.readState % 4 = desk ∧ (s.readState / 2 ^ 2 % 2 = 1 ↔ s.clock.isSet = true) ∧ s.readState / 2 ^ 3 % 4 = printer ∧
     s.readState / 2 ^ 5 % 8 = upload ∧ (s.readState / 2 ^ 8 % 2 = 1 ↔ ∃ l, s.executor.running = some l) ∧
     s.readState / 2 ^ 9 % 2 ^ 7 = 0 ∧ s.readState / 2 ^ 16 = reason)

/-- R22, R23, R40, R41, R84, R193, R194, R195, R198, R201: a write of ANCHOR restarts every block. The running list is abandoned
and the pending slot emptied, with POST_LOST when it held a list; an address other than 0 begins anchoring and keeps the STATE
reason, 0 detaches and forgets the abandoned list. Bits 24 to 31 are ignored. R37, R61, R152, R158: what the restart finds
stopped. A commit, a slate write and the frees of RELEASE_PAGES stop after any of their accesses; an outcome begun has left its
buffer and taken its sequence, and JOURNAL_LOW stands once a commit has released its slot. Which work had come how far is the
model's operand (log entries 6, 7). -/
def Obligations.AnchorWriteRestarts : Prop :=
  (∀ (s : State) (v : RegWord) (stopped : List (Work × Nat)),
    let a := v.toNat % 16777216
    let u := s.interrupt stopped
    ∃ t, exec (.anchorWrite v stopped) s = .next t ∧ t.mem = u.mem ∧ t.clock = u.clock ∧ t.rules = u.rules ∧
      t.settings = u.settings ∧ t.pending = s.pending ∧ t.choices = s.choices ∧
      (a ≠ 0 → t.desk = { state := .anchoring, reason := u.desk.reason, anchor := a }) ∧
      (a = 0 → t.desk = { state := .unanchored, reason := .detached, anchor := 0 } ∧ t.executor.abandoned = none) ∧
      t.executor.slot = none ∧ t.executor.running = none ∧ t.executor.prefetched = none ∧ t.executor.pointer = 0 ∧
      (∀ l, a ≠ 0 → u.executor.running = some l →
        t.executor.abandoned = some { start := l.start, address := some l.address }) ∧
      (a ≠ 0 → u.executor.running = none → t.executor.abandoned = u.executor.abandoned) ∧
      (s.executor.slot ≠ none → t.notices = (u.raise .postLost).notices) ∧
      (s.executor.slot = none → t.notices = u.notices) ∧
      t.engine.state = .idle ∧ t.engine.current = none ∧ t.engine.pointer = 0 ∧ t.engine.background = .sweep ∧
      t.engine.holdAsked = false ∧ t.sweep.state = .idle ∧ t.sweep.inEngine = false ∧ t.upload.state = .idle ∧
      t.journal.pages = [] ∧ t.journal.room = 0 ∧ t.printer.queue = [] ∧ t.printer.state = .idle ∧
      t.line.receiver = .hunting ∧ t.line.queue = [] ∧ t.line.transmission = none ∧ t.line.octet = s.line.octet ∧
      t.line.ready = s.line.ready ∧
      (∀ i : Fin 4, (t.station i).mode = .closed ∧ (t.station i).session = none ∧ (t.station i).items = [] ∧
        (t.station i).slot = none ∧ (t.station i).inFlight = none ∧ (t.station i).deadline = none ∧
        (t.station i).buffer = none ∧ (t.station i).waiting = [] ∧ (t.station i).closedScans = 0 ∧
        (t.station i).modeWait = false ∧ (t.station i).sequence = (u.station i).sequence ∧
        (t.station i).repeatTimer = none ∧ (t.station i).lastLabel = none ∧
        ((s.station i).tone.output = none →
          (t.station i).tone = { output := none, steps := [], next := none, stopping := false }) ∧
        (∀ x, (s.station i).tone.output = some x →
          (t.station i).tone = { output := some x, steps := [], next := none, stopping := true })) ∧
      (∀ i : Fin 4, (t.channel i).capture = .settling ∧ (t.channel i).counter = 0 ∧ (t.channel i).last = none ∧
        (t.channel i).mergePending = false ∧ (t.channel i).complete = [] ∧ (t.channel i).inCapture = [] ∧
        (t.channel i).decoder = .idle ∧ (t.channel i).counters = (State.reset.channel i).counters ∧
        (t.channel i).mirrorPending = true ∧ (t.channel i).level = (s.channel i).level)) ∧
  (∀ (s : State) (n : Nat), s.interrupt [] = s ∧
    (∀ t p e, s.engaged t → planTxn s t = p → p.fault = none → p.view = none → p.clock = none → p.entry = some e →
      let u := s.interrupt [(.engine, n)]
      u.mem = s.mem.apply ((p.writes s).take n) ∧
        u.notices = (s.raiseIf
          (decide ((p.writes s).length ≤ n ∧ 64 < s.journal.room ∧ (p.append s).view.room ≤ 64)) .journalLow).notices) ∧
    (∀ (k : Fin 4) o, s.desk.state = .opened ∨ s.desk.state = .halted →
      let i := s.writer.outcomeTurn + k
      let t := s.station i
      let a := s.geometry.slateArea + 48 * i.val
      let ws := groupWrites s.mem a (putWords (a + 2) o.words) ++ [{ addr := a + 28, word := (t.sequence + 1) % 65536 }]
      t.buffer = some o → (∀ j : Fin 4, j < k → (s.station (s.writer.outcomeTurn + j)).buffer = none) →
      let u := s.interrupt [(.slateOutcome, n)]
      u.mem = s.mem.apply (ws.take n) ∧ (u.station i).buffer = none ∧ (u.station i).sequence = (t.sequence + 1) % 65536 ∧
        u.notices = (s.raiseIf (decide (ws.length ≤ n)) .stationOutcome).notices) ∧
    (∀ o, s.desk.state = .opened ∨ s.desk.state = .halted → s.orderAt kindReleasePages .owner = some o →
      1 ≤ o.a → o.a ≤ 128 → o.a ≤ (s.journal.ring.takeWhile fun p => (s.journal.page p).state == .full).length →
      s.interrupt [(.freedPages, n)]
        = s.writeAll (((s.journal.ring.take o.a).take n).map fun p =>
            { addr := s.geometry.pageTable + 12 * p + 4, word := 0 })))

/-- R63, R159, R160, R194, R196, R201: the end of an anchoring. The checks of the first step in their order, each with its reason;
a fault in the slot, in a table header or in the journal's shape, which halts the desk; or OPEN, with the replayed, normalized
and copied state. An abandoned list is then closed ABANDONED. A failed check keeps the addresses of the anchoring before, the
model's choice (log entry 12), as are the place a journal fault names (log entries 14, 19), the item table's check before the
borrower table's, the settings read after the rules clamp count is written (log entry 36) and the zero bytes of the groups (log
entry 33). The fault count and the count of completed
lists are read from desk memory, raised and written back, as the model deduces (log entry 13), and a table's extent is
compared with the other's when that header gives one (log entry 15, deduced). R160: normalization makes a SENDING page FULL
and, with no page FILLING and some page FREE, the page after the newest FILLING, and sets the next sequence, the next page,
the room and the cut count, in the view and in desk memory. The conditions of R63 on a header, and those of R159 under which
the page table and the journal group pass and give the shape that is normalized. R62: which slots replay. A slot that is not
ARMED is left as it is; an ARMED one fails when its image count is above 8, when an image has an odd length or one outside 2..64,
an odd target or one whose bytes leave the window, or is COUNTED and shorter than 4, or when the 32 bytes of the entry's target
leave the window; every other ARMED slot makes the three passes of R60, writes the entry and then EMPTY. That a slot state other
than ARMED counts as EMPTY, and an image kind other than COUNTED as PLAIN, is the model's choice (log entry 17). -/
def Obligations.AnchoringEnds : Prop :=
  (∀ (s : State), s.desk.state = .anchoring →
    let m := s.mem
    let a := s.desk.anchor
    let g : Geometry :=
      { pageCount := m.read16 (a + 0x06), windowBase := m.read32 (a + 0x08), windowUnits := m.read16 (a + 0x0C),
        itemTable := m.read32 (a + 0x10), borrowerTable := m.read32 (a + 0x14), pageTable := m.read32 (a + 0x18),
        rulesArea := m.read32 (a + 0x1C), settingsBlock := m.read32 (a + 0x20), slateArea := m.read32 (a + 0x24),
        font := m.read32 (a + 0x28) }
    let inside : Nat → Nat → Prop := fun x n => g.windowBase ≤ x ∧ x + n ≤ g.windowBase + 65536 * g.windowUnits
    let magic := a % 16 = 0 ∧ m.read32 a = 0x5A310410
    let version := m.read16 (a + 4) = 1
    let window := g.windowBase % 65536 = 0 ∧ 1 ≤ g.windowUnits ∧ g.windowUnits ≤ 256 ∧
      g.windowBase + 65536 * g.windowUnits ≤ 16777216
    let pages := 1 ≤ g.pageCount ∧ g.pageCount ≤ 128
    let places := inside a 792 ∧ inside g.itemTable 16 ∧ inside g.borrowerTable 16 ∧ inside g.pageTable (12 * g.pageCount) ∧
      inside g.rulesArea 1810 ∧ inside g.settingsBlock 100 ∧ inside g.slateArea 192 ∧ inside g.font 4608
    let aligned := g.itemTable % 16 = 0 ∧ g.borrowerTable % 16 = 0 ∧ g.slateArea % 16 = 0 ∧ g.pageTable % 2 = 0 ∧
      g.rulesArea % 2 = 0 ∧ g.settingsBlock % 2 = 0 ∧ g.font % 2 = 0
    let fails : StateReason → Prop := fun r =>
      exec .anchoringEnd s = .next ((((s.withDesk { state := .unanchored, reason := r, anchor := a }).raise .memoryFault).raiseIf
        s.executor.slot.isSome .postLost).withExecutor { s.executor with slot := none, abandoned := none })
    let closes : State → State := fun u =>
      match u.executor.abandoned with
      | none => u
      | some l =>
        let told : List WordWrite := match l.address with
          | none => []
          | some x => if g.inWindow x 32 then [{ addr := x, word := 8 }] else []
        let b := a + 0x40
        let m1 := u.mem.apply told
        let c := m1.read16 b
        let odd := if c % 2 = 0 then (c + 1) % 65536 else c
        let completed := (m1.read32 (b + 8) + 1) % 4294967296
        ((u.writeAll (told ++
            [{ addr := b, word := odd }, { addr := b + 2, word := 3 }, { addr := b + 4, word := l.start % 65536 },
             { addr := b + 6, word := l.start / 65536 % 65536 }, { addr := b + 8, word := completed % 65536 },
             { addr := b + 10, word := completed / 65536 }, { addr := b + 12, word := 0 }, { addr := b + 14, word := 0 },
             { addr := b, word := (odd + 1) % 65536 }])).raise .listDone).withExecutor
          { u.executor with abandoned := none }
    let halts : Memory → StateReason → Option TableName → Option Nat → Nat → Prop := fun m1 r t i x =>
      exec .anchoringEnd s = .next (closes (((s.withGeometry g).withMem m1).enterHalted
        { reason := r, table := t, index := i, address := x, requester := none }))
    let checked := magic ∧ version ∧ window ∧ pages ∧ places ∧ aligned
    (∃ t, exec .anchoringEnd s = .next t) ∧
    (¬ magic → fails .badMagic) ∧
    (magic → ¬ version → fails .badVersion) ∧
    (magic → version → ¬ window → fails .badWindow) ∧
    (magic → version → window → ¬ pages → fails .badPageCount) ∧
    (magic → version → window → pages → ¬ places → fails .outsideWindow) ∧
    (magic → version → window → pages → places → ¬ aligned → fails .misaligned) ∧
    (checked →
      (replayWrites g m (a + 0xB0) = .error () → halts m .commitSlot none none (a + 0xB0)) ∧
      (∀ ws, replayWrites g m (a + 0xB0) = .ok ws →
        let m1 := m.apply ws
        let item := headerOk g m1 .item (Header.read m1 g.itemTable)
        let borrower := headerOk g m1 .borrower (Header.read m1 g.borrowerTable)
        (item = false → halts m1 .tableHeader (some .item) none g.itemTable) ∧
        (item = true → borrower = false → halts m1 .tableHeader (some .borrower) none g.borrowerTable) ∧
        (∀ p, item = true → borrower = true → checkJournal g m1 (a + 0x30) = .error (.page p) →
          halts m1 .journalShape none (some p) (g.pageTable + 12 * p)) ∧
        (item = true → borrower = true → checkJournal g m1 (a + 0x30) = .error .group →
          halts m1 .journalShape none none (a + 0x30)) ∧
        (∀ sh, item = true → borrower = true → checkJournal g m1 (a + 0x30) = .ok sh →
          let view := normalizedView sh m1 (a + 0x30)
          let m2 := m1.apply (normalizationWrites g m1 (a + 0x30) sh)
          let rules := copyRules m2 g.rulesArea
          let settings := copySettings (m2.apply [{ addr := a + 0x0E, word := rules.2 }]) g.settingsBlock
          let m3 := m2.apply [{ addr := a + 0x0E, word := rules.2 }, { addr := a + 0x2C, word := settings.2 }]
          let line : Line := if s.settings.parity = settings.1.parity then s.line
            else { s.line with pastParity := s.settings.parity :: s.line.pastParity }
          let opened := (((((((s.withGeometry g).withMem m3).withJournal view).withRules rules.1).withSettings
            settings.1).withLine line).raiseIf (decide (view.room ≤ 64)) .journalLow).withDesk
              { state := .opened, reason := .none, anchor := a }
          exec .anchoringEnd s = .next (closes
            (if s.clock.isSet then
               opened.withSweep
                 (if s.sweep.state = .idle then { s.sweep with state := .running, changed := false }
                  else { s.sweep with state := .running })
             else opened)))))) ∧
  (∀ (g : Geometry) (m : Memory) (group : Nat) (sh : JournalShape), m.wf = true →
    g.pageCount ≤ 128 → g.pageTable + 12 * g.pageCount ≤ group ∨ group + 8 ≤ g.pageTable →
    checkJournal g m group = .ok sh →
    let n := g.pageCount
    let page : Nat → Page := fun i => sh.pages.getD i .nothing
    let next := m.read16 (group + 2)
    let settled := sh.pages.map fun p => if p.state = .sending then { p with state := .full } else p
    let follows : Nat → Nat := fun i => ((page i).first + (page i).count) % 4294967296
    let view := normalizedView sh m group
    let m1 := m.apply (normalizationWrites g m group sh)
    let leaves : List Page → Option Nat → Nat → Nat → Prop := fun ps filling sequence nextPage =>
      view.pages = ps ∧ view.filling = filling ∧ view.nextSequence = sequence ∧ view.nextPage = nextPage
    let begins : Nat → Nat → Prop := fun q sequence =>
      leaves (settled.set q { page q with state := .filling, first := sequence, count := 0 }) (some q) sequence ((q + 1) % n)
    let noFilling := ∀ i, i < n → (page i).state ≠ .filling
    (∀ p, p < n → (page p).state = .filling → leaves settled (some p) (follows p) ((p + 1) % n)) ∧
    (noFilling → (∀ i, i < n → (page i).state = .free) → begins next (m.read32 (group + 4))) ∧
    (∀ i, noFilling → (∃ q, q < n ∧ (page q).state = .free) → sh.newest = some i →
      (page i).state ≠ .free ∧ (page ((i + 1) % n)).state = .free ∧ begins ((i + 1) % n) (follows i)) ∧
    (noFilling → (∀ i, i < n → (page i).state ≠ .free) → leaves settled none (follows ((next + n - 1) % n)) next) ∧
    view.cutCount = 0 ∧
    view.room
      = (view.pages.map fun p => if p.state = .free then 32 else if p.state = .filling then 32 - p.count else 0).sum ∧
    (∀ i, i < n →
      let d := g.pageTable + 12 * i
      let p := view.pages.getD i .nothing
      m1.read32 d = p.address ∧ m1.read16 (d + 4) = p.state.code ∧ m1.read16 (d + 6) = p.count ∧
        m1.read32 (d + 8) = p.first) ∧
    m1.read16 (group + 2) = view.nextPage ∧ m1.read32 (group + 4) = view.nextSequence ∧ m1.read16 group % 2 = 0) ∧
  (∀ (g : Geometry) (m : Memory) (t : TableName),
    let place : TableName → Nat := fun x => match x with
      | .item => g.itemTable
      | .borrower => g.borrowerTable
    let header : TableName → Header := fun x =>
      let b := place x
      { count := m.read16 b, capacity := m.read16 (b + 2), exponent := m.readByte (b + 4), records := m.read16 (b + 6),
        freeHead := m.read16 (b + 8), shelfHead := m.read16 (b + 10), shelfTail := m.read16 (b + 12),
        shelfCount := m.read16 (b + 14) }
    let sized : TableName → Prop := fun x =>
      1 ≤ (header x).capacity ∧ (header x).capacity ≤ 65534 ∧ 8 ≤ (header x).exponent ∧ (header x).exponent ≤ 16
    let ends : TableName → Nat := fun x =>
      place x + 16 + 2 * 2 ^ (header x).exponent + (match x with | .item => 64 | .borrower => 48) * (header x).capacity
    let o : TableName := match t with
      | .item => .borrower
      | .borrower => .item
    let h := header t
    let named : Nat → Prop := fun x => x = 0xFFFF ∨ x < h.capacity
    let passes := h.count % 2 = 0 ∧ sized t ∧ g.windowBase ≤ place t ∧ ends t ≤ g.windowBase + 65536 * g.windowUnits ∧
      (sized o → ends t ≤ place o ∨ ends o ≤ place t) ∧ h.records ≤ h.capacity ∧ named h.freeHead ∧
      (t = .item → named h.shelfHead ∧ named h.shelfTail ∧ h.shelfCount ≤ h.capacity ∧
        ((h.shelfHead = 0xFFFF ∧ h.shelfTail = 0xFFFF ∧ h.shelfCount = 0) ∨
          (h.shelfHead ≠ 0xFFFF ∧ h.shelfTail ≠ 0xFFFF ∧ h.shelfCount ≠ 0)))
    Header.read m (place t) = h ∧ (headerOk g m t h = true ↔ passes)) ∧
  (∀ (g : Geometry) (m : Memory) (group : Nat) (sh : JournalShape),
    let n := g.pageCount
    let d : Nat → Nat := fun i => g.pageTable + 12 * i
    let address : Nat → Nat := fun i => m.read32 (d i)
    let code : Nat → Nat := fun i => m.read16 (d i + 4)
    let count : Nat → Nat := fun i => m.read16 (d i + 6)
    let first : Nat → Nat := fun i => m.read32 (d i + 8)
    let next := m.read16 (group + 2)
    let read := sh.pages.length = n ∧ ∀ i, i < n →
      let p := sh.pages.getD i .nothing
      p.address = address i ∧ p.state.code = code i ∧ p.count = count i ∧ p.first = first i
    let placed := (∀ i, i < n → address i % 32 = 0 ∧ g.inWindow (address i) 1024 = true) ∧
      ∀ i j, i < j → j < n → address i + 1024 ≤ address j ∨ address j + 1024 ≤ address i
    let counted := ∀ i, i < n →
      (code i = 1 → count i ≤ 31) ∧ (code i = 2 ∨ code i = 3 → 1 ≤ count i ∧ count i ≤ 32)
    let single := ∀ i j, i < n → j < n → code i = code j → code i = 1 ∨ code i = 3 → i = j
    let run := match sh.newest with
      | none => ∀ i, i < n → code i = 0
      | some newest => newest < n ∧ ∃ k, 1 ≤ k ∧ k ≤ n ∧
        let page : Nat → Nat := fun x => (newest + n + 1 + x - k) % n
        (∀ i, i < n → (code i ≠ 0 ↔ ∃ x, x < k ∧ i = page x)) ∧ (∀ i, i < n → code i = 1 → i = newest) ∧
        ((∀ i, i < n → code i ≠ 0 ∧ code i ≠ 1) → newest = (next + n - 1) % n) ∧
        (∀ i, i < n → code i = 3 → i = page 0) ∧
        (∀ x, x + 1 < k → first (page (x + 1)) = (first (page x) + count (page x)) % 4294967296)
    checkJournal g m group = .ok sh ↔ read ∧ placed ∧ counted ∧ single ∧ run ∧ next < n) ∧
  (∀ (g : Geometry) (m : Memory) (slot : Nat),
    let images := m.read16 (slot + 2)
    let target : Nat → Nat := fun i => m.read32 (slot + 40 + 72 * i)
    let length : Nat → Nat := fun i => m.read16 (slot + 44 + 72 * i)
    let counted : Nat → Bool := fun i => m.read16 (slot + 46 + 72 * i) == 1
    let word : Nat → Nat → Nat := fun i k => m.read16 (slot + 48 + 72 * i + 2 * k)
    let entry := m.read32 (slot + 4)
    let inside : Nat → Nat → Prop := fun x n => g.windowBase ≤ x ∧ x + n ≤ g.windowBase + 65536 * g.windowUnits
    let passes := images ≤ 8 ∧
      (∀ i, i < images → length i % 2 = 0 ∧ 2 ≤ length i ∧ length i ≤ 64 ∧ target i % 2 = 0 ∧
        (counted i = true → 4 ≤ length i) ∧ inside (target i) (length i)) ∧
      inside entry 32
    let all := List.range images
    let opening : List WordWrite := (all.filter counted).map fun i =>
      { addr := target i, word := (word i 0 + 65535) % 65536 }
    let body : List WordWrite := all.flatMap fun i =>
      ((List.range (length i / 2)).filter fun k => !(counted i && k == 0)).map fun k =>
        { addr := target i + 2 * k, word := word i k }
    let closing : List WordWrite := (all.filter counted).map fun i => { addr := target i, word := word i 0 }
    let last : List WordWrite := (List.range 16).map fun k => { addr := entry + 2 * k, word := m.read16 (slot + 8 + 2 * k) }
    (m.read16 slot ≠ 1 → replayWrites g m slot = .ok []) ∧
    (m.read16 slot = 1 → ¬ passes → replayWrites g m slot = .error ()) ∧
    (m.read16 slot = 1 → passes →
      replayWrites g m slot = .ok (opening ++ body ++ closing ++ last ++ [{ addr := slot, word := 0 }])))

/-! ## Work lists -/

/-- R199: a post is taken by the first row that fits, and a list starts when the slot holds an address, no list runs and the desk
is OPEN or HALTED. -/
def Obligations.PostsAndListStarts : Prop :=
  ∀ (s : State) (v : RegWord),
    let a := v.toNat
    let inside := s.geometry.windowBase ≤ a ∧ a + 32 ≤ s.geometry.windowBase + 65536 * s.geometry.windowUnits
    let attached := s.desk.state = .opened ∨ s.desk.state = .halted
    let rejected : State → Nat → State := fun u x =>
      (u.writeFault { reason := .postAddress, table := none, index := none, address := x, requester := some .order }).raise
        .memoryFault
    let post : State → Prop := fun u => exec (.worklistWrite v) s = .next u
    (a = 0 → post s) ∧
    (a ≠ 0 → s.desk.state = .unanchored → post (s.raise .postLost)) ∧
    (a ≠ 0 → s.executor.slot ≠ none → post (s.raise .postLost)) ∧
    (a ≠ 0 → s.executor.slot = none →
      (s.desk.state = .anchoring → a % 32 ≠ 0 → post (s.raise .memoryFault)) ∧
      (attached → (a % 32 ≠ 0 ∨ ¬ inside) → post (rejected s a)) ∧
      (s.desk.state = .anchoring ∨ (attached ∧ inside) → a % 32 = 0 →
        post (s.withExecutor { s.executor with slot := some a }))) ∧
    (∀ x, s.executor.slot = some x → s.executor.running = none → attached →
      (s.geometry.inWindow x 32 = true →
        exec .listStart s = .next (s.withExecutor
          { s.executor with
            slot := none, prefetched := none, pointer := 0,
            running := some { start := x, address := x, taken := 0, stopped := false, current := none } })) ∧
      (s.geometry.inWindow x 32 = false →
        exec .listStart s = .next (rejected (s.withExecutor { s.executor with slot := none }) x)))

/-- R200, R201: with no order taken up, the next block is taken up, counted and its successor prefetched; an order past a
refusal under STOP_ON_REFUSAL ends SKIPPED, an unnamed kind BAD_ORDER, and in a HALTED desk all but END, RELOAD_RULES and the
reports end HALTED. 256 orders without an END, or a block outside the window, close the list TOO_LONG. That BAD_ORDER comes
before HALTED is the model's choice (log entry 25), and so is that a next block outside the window raises MEMORY_FAULT and has
its fault record at the close, before the list group is written, and not at the test before the prefetch (log entry 41). That the
reason and the result count of an order are 0 where its rule gives none is the model's choice (log entry 40). -/
def Obligations.OrdersAreTakenUp : Prop :=
  ∀ (s : State) (l : RunningList),
    s.desk.state = .opened ∨ s.desk.state = .halted → s.executor.running = some l → l.current = none →
    let o := Order.ofBlock (s.executor.prefetched.getD (s.mem.bytes l.address 32))
    let next : Option (List Byte) :=
      if o.kind = 0 then none
      else if s.geometry.inWindow (l.address + 32) 32 then some (s.mem.bytes (l.address + 32) 32) else none
    let stamp : Option Stamp := if s.clock.isSet then some { day := s.clock.day, minute := s.clock.minute } else none
    let taken (w : OrderWait) : RunningList :=
      { l with taken := l.taken + 1, current := some { order := o, wait := w, stamp := stamp } }
    let waits (w : OrderWait) : State :=
      s.withExecutor { s.executor with prefetched := next, running := some (taken w) }
    let ended (w : OrderWait) (r : OrderOutcome) : Prop :=
      exec .orderTakeUp s = .next ((waits w).finishOrder { outcome := r, reason := none, count := 0 })
    let ofEngine := (3 ≤ o.kind ∧ o.kind ≤ 14) ∨ o.kind = 16 ∨ o.kind = 17 ∨
      (23 ≤ o.kind ∧ o.kind ≤ 25 ∧ s.desk.state = .opened)
    let inHalted := o.kind = 0 ∨ o.kind = 15 ∨ (23 ≤ o.kind ∧ o.kind ≤ 25)
    (s.geometry.inWindow l.address 32 = false →
      exec .orderTakeUp s = .next (((s.writeFault
        { reason := .listWindow, table := none, index := none, address := l.address, requester := some .order }).raise
          .memoryFault).closeList .tooLong)) ∧
    (s.geometry.inWindow l.address 32 = true → 256 ≤ l.taken → o.kind ≠ 0 →
      exec .orderTakeUp s = .next (s.closeList .tooLong)) ∧
    (s.geometry.inWindow l.address 32 = true → l.taken < 256 ∨ o.kind = 0 →
      ∃ w, (w = .grant ↔ ofEngine) ∧ (w = .grant ∨ w = .owner) ∧
        (l.stopped = true → o.kind ≠ 0 → ended w .skipped) ∧
        (l.stopped = false → 25 < o.kind → ended w .badOrder) ∧
        (l.stopped = false → o.kind ≤ 25 → s.desk.state = .halted → ¬ inHalted → ended w .halted) ∧
        (l.stopped = false ∨ o.kind = 0 → o.kind ≤ 25 → s.desk.state = .opened ∨ inHalted →
          exec .orderTakeUp s = .next (waits w)))

/-- R200, R201, R206: the end of an order writes its reason word and its result count, then its outcome word, and moves on by 32
bytes; a refusal under STOP_ON_REFUSAL stops the list. END ends DONE and closes the list: the list group is written under its
change count, with the start address and one completed list more, and LIST_DONE is raised. The count of completed lists is read
from desk memory, raised and written back, as the model deduces (log entry 13). That the reason and the result count of an order
are 0 where its rule gives none is the model's choice (log entry 40). -/
def Obligations.OrdersAndListsEnd : Prop :=
  (∀ (s : State) (l : RunningList) (t : TakenOrder) (r : OrderResult),
    s.executor.running = some l → l.current = some t →
    let count := (r.count % 4294967296).toNat
    s.finishOrder r = (s.writeAll
        [{ addr := l.address + 2,
           word := (reasonCode r.reason + (if r.reason = some .borrowerBlocked then 256 * r.blocks.code else 0)) % 65536 },
         { addr := l.address + 8, word := count % 65536 },
         { addr := l.address + 10, word := count / 65536 },
         { addr := l.address, word := r.outcome.code + (if r.slipLost then 256 else 0) }]).withExecutor
      { s.executor with
        running := some
          { l with
            address := l.address + 32, current := none,
            stopped := l.stopped || (t.order.stopOnRefusal && decide (r.outcome = .refused)) } }) ∧
  (∀ (s : State) (l : RunningList) (t : TakenOrder),
    s.executor.running = some l → l.current = some t → t.order.kind = 0 → t.wait = .owner →
    exec .endList s = .next ((s.finishOrder { outcome := .done }).closeList .done)) ∧
  (∀ (s : State) (l : RunningList) (status : ListStatus), s.executor.running = some l →
    let a := s.desk.anchor + 0x40
    let completed := (s.mem.read32 (a + 8) + 1) % 4294967296
    let c := s.mem.read16 a
    let odd := if c % 2 = 0 then (c + 1) % 65536 else c
    s.closeList status = ((s.writeAll
        [{ addr := a, word := odd }, { addr := a + 2, word := status.code }, { addr := a + 4, word := l.start % 65536 },
         { addr := a + 6, word := l.start / 65536 % 65536 }, { addr := a + 8, word := completed % 65536 },
         { addr := a + 10, word := completed / 65536 }, { addr := a + 12, word := 0 }, { addr := a + 14, word := 0 },
         { addr := a, word := (odd + 1) % 65536 }]).raise .listDone).withExecutor
      { s.executor with running := none, prefetched := none })

/-- R115, R203: RELOAD_RULES asks for the hold while the engine is BUSY and otherwise takes, uses and releases it;
RELOAD_SETTINGS hands every value to its block at once. Both end DONE with the number of values clamped. R113, R114 and R203
with R2, R23, R127, R129, R161, R187 and the layouts of R206: every value copied, each brought into its range, and the clamp
count, which counts the values changed on the way. R115, R203: a restart that stops either order at the end it writes to its
block, before its outcome word, finds every setting handed over, or the rules copied, and the order ends ABANDONED with its list
(O27). That a date order or a parity taken as another code counts as changed is the model's choice (log entry 36), as are that a
policy entry of kind NONE counts nothing whatever its other fields hold (log entry 33), the two phases of RELOAD_RULES (log
entry 27) and where a restart can stop the two orders (log entries 7, 36). That the reason and the result count of an order are
0 where its rule gives none is the model's choice (log entry 40). -/
def Obligations.ReloadsTakeEffect : Prop :=
  (∀ (s : State) (o : Order),
     let rules := copyRules s.mem s.geometry.rulesArea
     let settings := copySettings s.mem s.geometry.settingsBlock
     let reloaded := ((s.withRules rules.1).withEngine { s.engine with state := .idle, holdAsked := false }).finishOrder
       { outcome := .done, count := rules.2 }
     (s.orderAt kindReloadRules .owner = some o → s.engine.state = .busy →
       exec .reloadRules s = .next ((s.withEngine { s.engine with holdAsked := true }).orderWaits .hold)) ∧
     (s.orderAt kindReloadRules .owner = some o → s.engine.state ≠ .busy → exec .reloadRules s = .next reloaded) ∧
     (s.orderAt kindReloadRules .hold = some o → s.engine.state ≠ .busy → exec .reloadRules s = .next reloaded) ∧
     (s.orderAt kindReloadSettings .owner = some o →
       exec .reloadSettings s = .next (((s.withSettings settings.1).withLine
         (if s.settings.parity = settings.1.parity then s.line
          else { s.line with pastParity := s.settings.parity :: s.line.pastParity })).finishOrder
            { outcome := .done, count := settings.2 })) ∧
     (∀ l n, s.mem.wf = true → s.desk.state = .opened ∨ s.desk.state = .halted → s.executor.running = some l →
       let stopped : Nat → State := fun count => s.interrupt [(.orderFields 0#16 (BitVec.ofNat 32 count), n)]
       let written : Nat → List WordWrite := fun count =>
         [{ addr := l.address + 2, word := 0 }, { addr := l.address + 8, word := count }, { addr := l.address + 10, word := 0 }]
       (s.orderAt kindReloadSettings .owner = some o →
         stopped settings.2 = ((s.withSettings settings.1).withLine
           (if s.settings.parity = settings.1.parity then s.line
            else { s.line with pastParity := s.settings.parity :: s.line.pastParity })).writeAll ((written settings.2).take n)) ∧
       (s.orderAt kindReloadRules .owner = some o ∨ s.orderAt kindReloadRules .hold = some o → s.engine.state ≠ .busy →
         stopped rules.2 = (s.withRules rules.1).writeAll ((written rules.2).take n)))) ∧
  (∀ (m : Memory) (a : Nat),
     let t := (copySettings m a).1
     let clamp : Nat → Nat → Nat → Nat := fun lo hi raw => if raw < lo then lo else if hi < raw then hi else raw
     let off : Nat → Nat → Nat → Nat := fun lo hi raw => if lo ≤ raw ∧ raw ≤ hi then 0 else 1
     let byte : Nat → Nat := fun x => m.readByte (a + x)
     let word : Nat → Nat := fun x => m.read16 (a + x)
     let text : Nat → List Nat := fun x => (List.range 24).map fun i => byte (x + i)
     t.prescale = byte 0 ∧ t.glitchLimit = byte 1 ∧ t.quietLimit = clamp 1000 65535 (word 2) ∧
     t.repeatWindow = clamp 0 5000 (word 4) ∧ t.sessionTimeout = clamp 10 600 (word 6) ∧
     (∀ i, i < 4 → t.slipFlags.getLsbD i = hasBit (byte 8) i) ∧
     t.dateOrder = (if byte 9 = 1 then .mdy else if byte 9 = 2 then .ymd else .dmy) ∧ t.separator = byte 10 ∧
     t.pickupDays = clamp 1 30 (byte 11) ∧ t.uploadMinute = word 12 ∧ t.divisor = clamp 1 4095 (word 14) ∧
     t.parity = (if byte 16 = 1 then .even else if byte 16 = 2 then .odd else .none) ∧
     t.replyTimeout = clamp 1 60 (byte 17) ∧ t.tries = clamp 1 5 (byte 18) ∧ t.branch = word 20 ∧
     t.strobeWidth = clamp 50 2000 (word 22) ∧ t.stepPeriod = clamp 500 20000 (word 24) ∧
     t.header1 = text 28 ∧ t.header2 = text 52 ∧ t.footer = text 76 ∧
     (copySettings m a).2
       = off 1000 65535 (word 2) + off 0 5000 (word 4) + off 10 600 (word 6) + off 0 2 (byte 9) + off 1 30 (byte 11)
         + off 1 4095 (word 14) + off 0 2 (byte 16) + off 1 60 (byte 17) + off 1 5 (byte 18) + off 50 2000 (word 22)
         + off 500 20000 (word 24)) ∧
  (∀ (m : Memory) (a : Nat),
     let r := (copyRules m a).1
     let clamp : Nat → Nat → Nat → Nat := fun lo hi raw => if raw < lo then lo else if hi < raw then hi else raw
     let off : Nat → Nat → Nat → Nat := fun lo hi raw => if lo ≤ raw ∧ raw ≤ hi then 0 else 1
     let nothing : PolicyEntry := { kind := .none, period := 0, renewLimit := 0, fineRate := 0, fineCap := 0, grace := 0 }
     let lends : Nat → Prop := fun b => (m.readByte b = 1 ∨ m.readByte b = 2) ∧ m.read16 (b + 2) ≠ 0
     let longest : Nat → Nat := fun b => if m.readByte b = 1 then 365 else 72
     let policyOff : Nat → Nat := fun i =>
       let b := a + 12 * i
       if m.readByte b = 0 then 0
       else if m.readByte b ≤ 2 ∧ m.read16 (b + 2) ≠ 0 then
         off 1 (longest b) (m.read16 (b + 2)) + off 0 15 (m.readByte (b + 1)) + off 0 10000 (m.read16 (b + 4))
           + off 0 15 (m.readByte (b + 6)) + off 0 100000 (m.read32 (b + 8))
       else 1
     let classOff : Nat → Nat := fun i =>
       let b := a + 1536 + 8 * i
       off 0 99 (m.readByte b) + off 0 31 (m.readByte (b + 1)) + off 0 999999 (m.read32 (b + 4))
     let hoursOff : Nat → Nat := fun i =>
       let b := a + 1718 + 4 * i
       off 0 1439 (m.read16 b) + off 0 1439 (m.read16 (b + 2))
     let total : Nat → (Nat → Nat) → Nat := fun n f => ((List.range n).map f).sum
     r.policy.length = 128 ∧ r.classes.length = 8 ∧ r.holdsAllowed.length = 16 ∧ r.classMap.length = 100 ∧
     r.weekly.length = 7 ∧
     (∀ i, i < 128 →
       let e := r.policy.getD i nothing
       let b := a + 12 * i
       (lends b →
         e = { kind := if m.readByte b = 1 then .days else .hours, period := clamp 1 (longest b) (m.read16 (b + 2)),
               renewLimit := clamp 0 15 (m.readByte (b + 1)), fineRate := clamp 0 10000 (m.read16 (b + 4)),
               fineCap := clamp 0 100000 (m.read32 (b + 8)), grace := clamp 0 15 (m.readByte (b + 6)) }) ∧
       (¬ lends b → e = nothing)) ∧
     (∀ i, i < 8 →
       let b := a + 1536 + 8 * i
       r.classes.getD i { loanLimit := 0, holdLimit := 0, fineBlockLimit := 0 }
         = { loanLimit := clamp 0 99 (m.readByte b), holdLimit := clamp 0 31 (m.readByte (b + 1)),
             fineBlockLimit := clamp 0 999999 (m.read32 (b + 4)) }) ∧
     (∀ i, i < 16 → (r.holdsAllowed.getD i false = true ↔ m.readByte (a + 1600 + i) ≠ 0)) ∧
     (∀ i, i < 100 → r.classMap.getD i 0 = clamp 0 15 (m.readByte (a + 1616 + i))) ∧
     r.baseDay = clamp 0 65024 (m.read16 (a + 1716)) ∧
     (∀ i, i < 7 →
       let b := a + 1718 + 4 * i
       r.weekly.getD i { openMinute := 0, closeMinute := 0 }
         = { openMinute := clamp 0 1439 (m.read16 b), closeMinute := clamp 0 1439 (m.read16 (b + 2)) }) ∧
     (∀ d, d < 512 → r.closedSet.getLsbD d = hasBit (m.readByte (a + 1746 + d / 8)) (d % 8)) ∧
     (copyRules m a).2
       = total 128 policyOff + total 8 classOff + total 16 (fun i => off 0 1 (m.readByte (a + 1600 + i)))
         + total 100 (fun i => off 0 15 (m.readByte (a + 1616 + i))) + off 0 65024 (m.read16 (a + 1716)) + total 7 hoursOff)

/-! ## Tables and clock orders -/

/-- R56, R57: FORMAT_TABLES. Capacities, exponents and extents are checked, then whether a station had a label pending or in
flight at the grant; an accepted order writes both tables outside the slot and commits the entry alone. That the old headers are
left unchecked is the model's choice (log entry 33). That the reason and the result count of an order are 0 where its rule gives
none is the model's choice (log entry 40). -/
def Obligations.TablesAreFormatted : Prop :=
  ∀ (s : State) (t : Txn) (o : Order) (st : Stamp), s.engaged t → t.kind = .order o → o.kind = 3 → t.admitted st 65 →
    let item : Extent := { address := s.geometry.itemTable, capacity := o.a % 65536, exponent := o.a / 65536 % 65536 }
    let borrower : Extent := { address := s.geometry.borrowerTable, capacity := o.b % 65536, exponent := o.b / 65536 % 65536 }
    let sized : Extent → Prop := fun e => 1 ≤ e.capacity ∧ e.capacity ≤ 65534 ∧ 8 ≤ e.exponent ∧ e.exponent ≤ 16
    let itemEnd := item.address + (16 + 2 * 2 ^ item.exponent + 64 * item.capacity)
    let borrowerEnd := borrower.address + (16 + 2 * 2 ^ borrower.exponent + 48 * borrower.capacity)
    let windowEnd := s.geometry.windowBase + 65536 * s.geometry.windowUnits
    let fits := sized item ∧ sized borrower ∧ s.geometry.windowBase ≤ item.address ∧ itemEnd ≤ windowEnd ∧
      s.geometry.windowBase ≤ borrower.address ∧ borrowerEnd ≤ windowEnd ∧
      (itemEnd ≤ borrower.address ∨ borrowerEnd ≤ item.address)
    (¬ fits → exec .formatTables s = .next (s.conclude t orderLimit)) ∧
    (fits → t.busy = true → exec .formatTables s = .next (s.conclude t (orderRefused .busy))) ∧
    (fits → t.busy = false →
      exec .formatTables s = .next (s.conclude t
        { before := formatWrites s.mem item borrower
          entry := some
            { kind := .tablesFormatted, source := .order, flags := {}, stamp := st, borrower := 0, item := 0,
              value1 := item.capacity, value2 := borrower.capacity }
          shelfChanged := decide ((Header.read s.mem s.geometry.itemTable).shelfHead ≠ 0xFFFF)
          result := .order { outcome := .done, count := ((item.capacity + borrower.capacity : Nat) : Int) } }))

/-- R57, R206: what the writes of an accepted FORMAT_TABLES leave in desk memory: a header with the count raised by 2, no record
in use and every record on the free list in index order, every bucket word null, and every record FREE with change count 0 and
every other field 0 or null, the hold entry places of an item record and the bytes that R206 does not name among them. -/
def Obligations.FormattedTablesAreEmpty : Prop :=
  ∀ (m : Memory) (i b : Extent),
    let sized : Extent → Prop := fun e => 1 ≤ e.capacity ∧ e.capacity ≤ 65534 ∧ 8 ≤ e.exponent ∧ e.exponent ≤ 16
    m.wf = true → sized i → sized b →
    i.address + i.length 64 ≤ b.address ∨ b.address + b.length 48 ≤ i.address →
    let m1 := m.apply (formatWrites m i b)
    let empty : Extent → Header → Prop := fun e h =>
      h = { count := (m.read16 e.address + 2) % 65536, capacity := e.capacity, exponent := e.exponent, records := 0,
            freeHead := 0, shelfHead := 0xFFFF, shelfTail := 0xFFFF, shelfCount := 0 }
    empty i (Header.read m1 i.address) ∧ empty b (Header.read m1 b.address) ∧
    (∀ k, k < 2 ^ i.exponent → m1.read16 (i.address + 16 + 2 * k) = 0xFFFF) ∧
    (∀ k, k < 2 ^ b.exponent → m1.read16 (b.address + 16 + 2 * k) = 0xFFFF) ∧
    (∀ k, k < i.capacity →
       let a := i.address + 16 + 2 * 2 ^ i.exponent + 64 * k
       ItemRecord.read m1 a
         = { count := 0, state := some .free, itemClass := 0, number := 0, borrower := 0xFFFF, due := { day := 0, minute := 0 },
             loanDay := 0, renewCount := 0, hourLoan := false, clamped := false, queue := [], deadline := 0, shelfNext := 0xFFFF,
             chainNext := if k + 1 < i.capacity then k + 1 else 0xFFFF } ∧
       m1.readByte (a + 21) = 0 ∧ m1.readByte (a + 22) = 0 ∧
       (∀ j, j < 6 → m1.read16 (a + 32 + 4 * j) = 0xFFFF ∧ m1.read16 (a + 34 + 4 * j) = 0) ∧
       (∀ x, x = 23 ∨ x = 30 ∨ x = 31 ∨ (56 ≤ x ∧ x < 64) → m1.readByte (a + x) = 0)) ∧
    (∀ k, k < b.capacity →
       let a := b.address + 16 + 2 * 2 ^ b.exponent + 48 * k
       BorrowerRecord.read m1 a
         = { count := 0, inUse := some false, cls := 0, number := 0, expiry := 0, activity := 0, fines := 0, loans := 0,
             holds := 0, lost := 0, manual := none, center := none,
             chainNext := if k + 1 < b.capacity then k + 1 else 0xFFFF } ∧
       (∀ x, (19 ≤ x ∧ x < 26) ∨ (28 ≤ x ∧ x < 48) → m1.readByte (a + x) = 0))

/-- R111, R112: SET_CLOCK commits the entry CLOCK_SET with the old and the new reading, UNSET when there was no old one; at the
arm the clock takes the reading, and a first reading or a later day raises DAY_CHANGED and asks the sweep to start. R108 to
R110: a second of a clock that is set. Minutes and days carry; the clock stops at the end of day 65535. A new day raises
DAY_CHANGED and in OPEN or HALTED asks the sweep to start. The upload minute starts an upload in an OPEN desk that runs none,
and is otherwise counted as skipped in OPEN or HALTED. That the old reading of the entry is the clock's at the step SET_CLOCK is
the model's choice (log entry 36); the count of starts skipped is read from desk memory, raised and written back, as the model
deduces (log entry 13). That the reason and the result count of an order are 0 where its rule gives none is the model's choice
(log entry 40). -/
def Obligations.ClockAdvances : Prop :=
  ((∀ (s : State) (t : Txn) (o : Order), s.engaged t → t.kind = .order o → o.kind = 14 → t.halted = false → 64 < t.room →
     let minute := o.b % 65536
     let second := o.b / 65536 % 65536
     let moves := s.clock.isSet = false ∨ s.clock.day < o.a
     let plan : Int → Plan := fun count =>
       { before := [], images := [], view := none, slip := none, shelfChanged := false, pointer := none, fault := none
         clock := some { day := o.a, minute := minute, second := second, isSet := true }
         entry := some
           { kind := .clockSet, source := .order, flags := { unset := !s.clock.isSet }, stamp := { day := o.a, minute := minute },
             borrower := 0, item := 0, value1 := if s.clock.isSet then s.clock.day * 1440 + s.clock.minute else 0,
             value2 := o.a * 1440 + minute }
         result := .order { outcome := .done, count := count } }
     (65535 < o.a ∨ 1439 < minute ∨ 59 < second → exec .setClock s = .next (s.conclude t orderLimit)) ∧
     (o.a ≤ 65535 → minute ≤ 1439 → second ≤ 59 →
       (moves → exec .setClock s = .next (s.conclude t (plan 1))) ∧
       (¬ moves → exec .setClock s = .next (s.conclude t (plan 0))))) ∧
   (∀ (s : State) (c : Clock),
     let started := if s.sweep.state = .idle then { s.sweep with state := .running, changed := false }
       else { s.sweep with state := .running }
     (s.clock.isSet = false ∨ s.clock.day < c.day →
       s.armClock (some c) = ((s.withClock c).raise .dayChanged).withSweep started) ∧
     (s.clock.isSet = true → c.day ≤ s.clock.day → s.armClock (some c) = s.withClock c))) ∧
  (∀ (s : State),
     let c := s.clock
     let attached := s.desk.state = .opened ∨ s.desk.state = .halted
     let ticks : State → Prop := fun u => exec .clockSecond s = .next u
     let set : Nat → Nat → Nat → State := fun d m x => s.withClock { day := d, minute := m, second := x, isSet := true }
     let started := if s.sweep.state = .idle then { s.sweep with state := .running, changed := false }
       else { s.sweep with state := .running }
     let uploads : State → State := fun u =>
       if s.desk.state = .opened ∧ s.upload.state = .idle then
         u.withUpload
           { state := .opening, frame := none, asking := false, sends := 0, replyTimer := none, noticeTimer := none, held := none,
             finishedNoted := false, watch := !s.line.ready, endReason := s.upload.endReason, cutMade := false,
             startStamp := { day := 0, minute := 0 }, cutSequence := 0, startedMark := .standing, endedMark := .absent }
       else u.count16 offLine offStartsSkipped
     (c.isSet = false → ticks s) ∧
     (c.isSet = true → c.day = 65535 → c.minute = 1439 → c.second = 59 → ticks s) ∧
     (c.isSet = true → c.second < 59 → ticks (set c.day c.minute (c.second + 1))) ∧
     (c.isSet = true → c.second = 59 → c.minute < 1439 →
       (c.minute + 1 ≠ s.settings.uploadMinute → ticks (set c.day (c.minute + 1) 0)) ∧
       (c.minute + 1 = s.settings.uploadMinute → ticks (uploads (set c.day (c.minute + 1) 0)))) ∧
     (c.isSet = true → c.second = 59 → c.minute = 1439 → c.day < 65535 →
       let day := (set (c.day + 1) 0 0).raise .dayChanged
       (s.settings.uploadMinute ≠ 0 →
         (attached → ticks (day.withSweep started)) ∧ (¬ attached → ticks day)) ∧
       (s.settings.uploadMinute = 0 →
         (attached → ticks (uploads (day.withSweep started))) ∧ (¬ attached → ticks (uploads day)))))

/-! ## Holds -/

/-- R68, R130, R131: PLACE_HOLD. The checks in their order, a block set that is not empty refused with the whole set, then a new
record or a longer queue, and one hold more for the borrower. That the reason and the result count of an order are 0 where its
rule gives none is the model's choice (log entry 40). -/
def Obligations.HoldsArePlaced : Prop :=
  ∀ (s : State) (t : Txn) (o : Order) (st : Stamp), s.engaged t → t.kind = .order o → o.kind = 16 → t.admitted st 65 →
    s.headerGood .borrower → s.headerGood .item →
    let d := s.tables
    let does : Plan → Prop := fun p => exec .placeHold s = .next (s.conclude t p)
    let inRange := 1 ≤ o.item ∧ o.item ≤ 9999999999 ∧ 1 ≤ o.borrower ∧ o.borrower ≤ 99999999
    (¬ inRange → does orderLimit) ∧
    (inRange → d.lookup .borrower o.borrower = .ok none → does (orderRefused .notFound)) ∧
    (∀ j, inRange → d.lookup .borrower o.borrower = .ok (some j) →
      let b := d.borrower j
      let set := b.blocks t.rules (some st)
      let entry : HoldEntry := { borrower := j, placed := st.day }
      let full := (t.rules.borrowerClass b.cls).holdLimit ≤ b.holds
      let placed : Draft → Nat → Plan := fun d1 position =>
        orderCommit (d1.putBorrower j { b with holds := b.holds + 1 }).images .holdPlaced st b.number o.item position
          (b.holds + 1) position
      (set.any = true →
        does { result := .order { outcome := .refused, reason := some .borrowerBlocked, blocks := set } }) ∧
      (∀ found, set.any = false → d.lookup .item o.item = .ok found →
        let cls := match found with
          | none => t.rules.classOfNumber o.item
          | some i => (d.item i).itemClass
        (t.rules.allowsHolds cls = false → does (orderRefused .holdsNotAllowed)) ∧
        (t.rules.allowsHolds cls = true → found = none →
          (full → does (orderRefused .holdLimit)) ∧
          (¬ full → d.takeFree .item = .ok none → does (orderRefused .tableFull)) ∧
          (∀ i next, ¬ full → d.takeFree .item = .ok (some (i, next)) →
            does (placed (d.insertItem i next
              { count := 0, state := some .onShelf, itemClass := cls, number := o.item, borrower := 0xFFFF,
                due := { day := 0, minute := 0 }, loanDay := 0, renewCount := 0, hourLoan := false, clamped := false,
                queue := [entry], deadline := 0, shelfNext := 0xFFFF, chainNext := 0xFFFF }) 1))) ∧
        (∀ i, t.rules.allowsHolds cls = true → found = some i →
          let r := d.item i
          let queued := ∃ e ∈ r.queue, e.borrower = j
          let open_ := r.state ≠ some .lost ∧ r.state ≠ some .withdrawn ∧ ¬ (r.state = some .onLoan ∧ r.borrower = j)
          (r.state = some .lost → does (orderRefused .itemLost)) ∧
          (r.state = some .withdrawn → does (orderRefused .itemWithdrawn)) ∧
          (r.state = some .onLoan → r.borrower = j → does (orderRefused .holdingOwnLoan)) ∧
          (open_ → queued → does (orderRefused .duplicate)) ∧
          (open_ → ¬ queued → 6 ≤ r.queue.length ∨ full → does (orderRefused .holdLimit)) ∧
          (open_ → ¬ queued → r.queue.length < 6 → ¬ full →
            does (placed (d.putItem i { r with queue := r.queue ++ [entry] }) (r.queue.length + 1))))))

/-- R132 to R135: CANCEL_HOLD. An entry behind the head, or of an item not on the hold shelf, leaves the queue, and an item left
on the open shelf with no entry loses its record. The head of an item on the hold shelf takes the item off the list: the next
entry is promoted with a new deadline and a HOLD slip, or the record is freed with a RESHELVE slip. That a holds count of 0
stays 0 is the model's choice (log entry 16). That the reason and the result count of an order are 0 where its rule gives none
is the model's choice (log entry 40). -/
def Obligations.HoldsAreCancelled : Prop :=
  ∀ (s : State) (t : Txn) (o : Order) (st : Stamp), s.engaged t → t.kind = .order o → o.kind = 17 → t.admitted st 1 →
    s.headerGood .borrower → s.headerGood .item →
    let d := s.tables
    let does : Plan → Prop := fun p => exec .cancelHold s = .next (s.conclude t p)
    let inRange := 1 ≤ o.item ∧ o.item ≤ 9999999999 ∧ 1 ≤ o.borrower ∧ o.borrower ≤ 99999999
    (¬ inRange → does orderLimit) ∧
    (inRange → d.lookup .borrower o.borrower = .ok none → does (orderRefused .notFound)) ∧
    (∀ j, inRange → d.lookup .borrower o.borrower = .ok (some j) → d.lookup .item o.item = .ok none →
      does (orderRefused .notFound)) ∧
    (∀ j i, inRange → d.lookup .borrower o.borrower = .ok (some j) → d.lookup .item o.item = .ok (some i) →
      let b := d.borrower j
      let r := d.item i
      let fewer : Draft → Draft := fun d1 => d1.putBorrower j { b with holds := b.holds - 1 }
      let deadline := t.rules.pickupDeadline st.day s.settings.pickupDays
      let cancelled : Draft → EntryFlags → Nat → Nat → Option Slip → Plan := fun d1 f position last slip =>
        { images := (fewer d1).images
          entry := some { kind := .holdCancelled, source := .order, flags := f, stamp := st, borrower := b.number,
                          item := o.item, value1 := position, value2 := last }
          slip := slip, shelfChanged := slip.isSome
          result := .order { outcome := .done, count := ((r.queue.length - 1 : Nat) : Int) } }
      let slip : SlipKind → Nat → Nat → Slip := fun k head last =>
        { kind := k, station := none, stamp := some st, borrower := 0,
          entries := [{ item := r.number, due := { day := 0, minute := 0 }, flags := DueFlags.empty }],
          holdBorrower := head, deadline := last, text := [] }
      ((∀ e ∈ r.queue, e.borrower ≠ j) → does (orderRefused .notFound)) ∧
      (∀ k, r.queue.findIdx? (fun e => e.borrower == j) = some k →
        let rest := r.queue.eraseIdx k
        (∀ d1, r.state = some .onShelf → rest = [] → d.removeItem i = .ok d1 →
          does (cancelled d1 {} (k + 1) 0 none)) ∧
        (¬ (r.state = some .onShelf ∧ rest = []) → ¬ (k = 0 ∧ r.state = some .onHoldShelf) →
          does (cancelled (d.putItem i { r with queue := rest }) {} (k + 1) 0 none)) ∧
        (∀ d1 d2, k = 0 → r.state = some .onHoldShelf → rest = [] → d.shelfRemove i = .ok d1 → d1.removeItem i = .ok d2 →
          does (cancelled d2 { reshelved := true } 1 0 (some (slip .reshelve 0 0)))) ∧
        (∀ e more d1 head d2, k = 0 → r.state = some .onHoldShelf → rest = e :: more → d.shelfRemove i = .ok d1 →
          d1.holdBorrower i 1 e.borrower = .ok head →
          d1.shelfInsert i
              { d1.item i with
                state := some .onHoldShelf, borrower := 0xFFFF, due := { day := 0, minute := 0 }, loanDay := 0,
                renewCount := 0, hourLoan := false, clamped := false, shelfNext := 0xFFFF, deadline := deadline,
                queue := rest } = .ok d2 →
          does (cancelled d2 { promoted := true } 1 deadline (some (slip .hold head.number deadline))))))

/-- R141 to R144: a day sweep step. It waits for room; it ends the sweep at an empty list, a head that has not expired, an unset
clock or a HALTED desk; else the head entry of the first item expires, with the promotion or the reshelving of a cancellation.
The head hold's borrower is checked before either decision on a head. That an unset clock ends the sweep is the model's choice
(log entry 33). That a holds count of 0 stays 0 is the model's choice too (log entry 16). -/
def Obligations.SweepStepExpires : Prop :=
  ∀ (s : State) (t : Txn), s.engaged t → t.kind = .sweepStep →
    let d := s.tables
    let does : Plan → Prop := fun p => exec .daySweepStep s = .next (s.conclude t p)
    (t.halted = true ∨ t.stamp = none → does { result := .sweep .done }) ∧
    (t.halted = false → t.stamp ≠ none → t.room = 0 → does { result := .sweep .journalFull }) ∧
    (∀ st, t.admitted st 1 → s.headerGood .item →
      (∀ p, d.seekShelfFromHead (fun _ _ => true) = .ok (p, none) → does { result := .sweep .done }) ∧
      (∀ p i, d.seekShelfFromHead (fun _ _ => true) = .ok (p, some i) →
        let r := d.item i
        (∀ f, d.touch .borrower = .error f ∨ (s.headerGood .borrower ∧ d.holdBorrower i 0 r.head = .error f) →
          exec .daySweepStep s = .next (s.carryOut t { fault := some f, result := .sweep .done })) ∧
        (∀ b, st.day ≤ r.deadline → s.headerGood .borrower → d.holdBorrower i 0 r.head = .ok b →
          does { result := .sweep .done }) ∧
        (∀ b, r.deadline < st.day → s.headerGood .borrower → d.holdBorrower i 0 r.head = .ok b →
          let deadline := t.rules.pickupDeadline st.day s.settings.pickupDays
          let expired : Draft → EntryFlags → Nat → SlipKind → Nat → Plan := fun d1 f last k head =>
            { images := (d1.putBorrower r.head { b with holds := b.holds - 1 }).images
              entry := some { kind := .holdExpired, source := .sweep, flags := f, stamp := st, borrower := b.number,
                              item := r.number, value1 := r.deadline, value2 := last }
              slip := some
                { kind := k, station := none, stamp := some st, borrower := 0,
                  entries := [{ item := r.number, due := { day := 0, minute := 0 }, flags := DueFlags.empty }],
                  holdBorrower := head, deadline := last, text := [] }
              result := .sweep .goesOn }
          (∀ d1 d2, r.queue.tail = [] → d.shelfRemove i = .ok d1 → d1.removeItem i = .ok d2 →
            does (expired d2 { reshelved := true } 0 .reshelve 0)) ∧
          (∀ e more d1 head d2, r.queue.tail = e :: more → d.shelfRemove i = .ok d1 →
            d1.holdBorrower i 1 e.borrower = .ok head →
            d1.shelfInsert i
                { d1.item i with
                  state := some .onHoldShelf, borrower := 0xFFFF, due := { day := 0, minute := 0 }, loanDay := 0,
                  renewCount := 0, hourLoan := false, clamped := false, shelfNext := 0xFFFF, deadline := deadline,
                  queue := r.queue.tail } = .ok d2 →
            does (expired d2 { promoted := true } deadline .hold head.number)))))

/-! ## Reports -/

/-- R202, R206: the three reports, by the engine in an OPEN desk and by the executor in a HALTED one. A target that fails a
check ends LIMIT; without a clock reading the report is refused; else the entries found are written, and the order ends DONE,
DONE_TRUNCATED or NOT_FOUND with the number written. A SET target sets the running pointer, and SET and NEXT move it past the
entries written. REPORT_OVERDUE selects the loans due before the stamp, by the minimum days at least, REPORT_BORROWER_LOANS the
items ON_LOAN or LOST that name the borrower, both in index order, REPORT_HOLD_SHELF the list, head first; each entry gives the
item number and the fields of its report. Entries are written as they are found: each record is read with the entries found
before it written at the target. That the operand checks come before the gates, that a SET sets the pointer also when a gate or
NOT_FOUND ends the order, that a fault in an OPEN desk leaves the number written as the count, and that a record is read whole
before its own entry is written, are readings of the model (log entries 24, 33). That the reason and the result count of an
order are 0 where its rule gives none is the model's choice (log entry 40). -/
def Obligations.ReportsAreWritten : Prop :=
  ∀ (s : State) (o : Order) (c : Instr),
    (o.kind = 23 ∧ c = .reportOverdue) ∨ (o.kind = 24 ∧ c = .reportBorrowerLoans) ∨ (o.kind = 25 ∧ c = .reportHoldShelf) →
    let mode := o.item / 281474976710656 % 256
    let capacity := o.item / 4294967296 % 65536
    let a := if mode = 2 then s.executor.pointer else o.item % 4294967296
    let good := capacity ≠ 0 ∧ mode ≤ 2 ∧ (mode = 2 → s.executor.pointer ≠ 0) ∧ a % 16 = 0 ∧
      s.geometry.inWindow a (16 * capacity) = true ∧ (o.kind = 23 → o.a ≤ 65535)
    let pointer : Nat → Option Nat := fun n => if mode = 0 then none else some (a + 16 * n)
    let refused : Reason → Plan := fun r => { orderRefused r with pointer := pointer 0 }
    let result : ReportRun → OrderResult := fun r =>
      if r.unknown then { outcome := .refused, reason := some .notFound }
      else { outcome := if r.truncated then .doneTruncated else .done, count := r.entries.length }
    (∀ t, s.engaged t → t.kind = .order o → s.orderAt o.kind .owner = none →
      (¬ good → exec c s = .next (s.conclude t orderLimit)) ∧
      (good → t.halted = true → exec c s = .next (s.conclude t (refused .deskHalted))) ∧
      (good → t.halted = false → t.stamp = none → exec c s = .next (s.conclude t (refused .clockUnset))) ∧
      (∀ st, good → t.admitted st 0 →
        let r := reportRun s o st a
        let plan : Plan :=
          { before := reportWrites a r.entries, pointer := pointer r.entries.length, result := .order (result r) }
        (r.fault = none → exec c s = .next (s.conclude t plan)) ∧
        (∀ f, r.fault = some f →
          exec c s = .next (s.carryOut t
            { plan with
              fault := some f
              result := .order { outcome := .refused, reason := some .deskHalted, count := r.entries.length } })))) ∧
    (∀ k : TakenOrder, s.currentOrder = some k → k.order = o → k.wait = .owner →
      (¬ good → exec c s = .next (s.finishOrder { outcome := .limit })) ∧
      (good → k.stamp = none →
        exec c s = .next ((s.withExecutor { s.executor with pointer := (pointer 0).getD s.executor.pointer }).finishOrder
          { outcome := .refused, reason := some .clockUnset })) ∧
      (∀ st, good → k.stamp = some st →
        let r := reportRun s o st a
        let written := (s.writeAll (reportWrites a r.entries)).withExecutor
          { s.executor with pointer := (pointer r.entries.length).getD s.executor.pointer }
        (r.fault = none → exec c s = .next (written.finishOrder (result r))) ∧
        (r.fault ≠ none →
          exec c s = .next (written.finishOrder { outcome := .limit, count := r.entries.length })))) ∧
    (∀ st : Stamp, s.headerGood .item →
      let d := s.tables
      let number : Nat → List Nat := fun n =>
        [n % 65536, n / 65536 % 65536, n / 4294967296 % 65536, n / 281474976710656 % 65536]
      let finds : List (List Nat) → Prop := fun es =>
        reportRun s o st a = { entries := es.take capacity, truncated := decide (capacity < es.length) }
      let after : List (List Nat) → Draft := fun es => { d with mem := d.mem.apply (reportWrites a (es.take capacity)) }
      let pool : (Draft → Nat → Prop) → (Draft → Nat → List Nat) → (Nat → Option (List Nat)) → Prop := fun chosen entry es =>
        ∀ i, i < d.itemHeader.capacity →
          let e := after ((List.range i).filterMap es)
          e.inside .item i = true ∧ (e.item i).state ≠ none ∧ (chosen e i → es i = some (entry e i)) ∧
            (¬ chosen e i → es i = none)
      (∀ (es : Nat → Option (List Nat)) (b : Nat → BorrowerRecord), o.kind = 23 →
        let overdue : Draft → Nat → Prop := fun e i =>
          let r := e.item i
          r.state = some .onLoan ∧ (r.due.day < st.day ∨ (r.due.day = st.day ∧ r.due.minute < st.minute)) ∧
            r.due.day + o.a ≤ st.day
        pool overdue (fun e i =>
          let r := e.item i
          number r.number ++ [(b i).number % 65536, (b i).number / 65536 % 65536, r.due.day, r.due.minute]) es →
        (∀ i, i < d.itemHeader.capacity → es i ≠ none →
          s.headerGood .borrower ∧ (after ((List.range i).filterMap es)).itemBorrower i = .ok (b i)) →
        finds ((List.range d.itemHeader.capacity).filterMap es)) ∧
      (o.kind = 24 → s.headerGood .borrower →
        (d.lookup .borrower o.borrower = .ok none → reportRun s o st a = { entries := [], unknown := true }) ∧
        (∀ (es : Nat → Option (List Nat)) (j : Nat), d.lookup .borrower o.borrower = .ok (some j) →
          pool (fun e i => ((e.item i).state = some .onLoan ∨ (e.item i).state = some .lost) ∧ (e.item i).borrower = j)
            (fun e i =>
              let r := e.item i
              number r.number ++
                [r.due.day, r.due.minute, (if r.state = some .onLoan then 2 else 4) + 256 * r.renewCount,
                 (if r.hourLoan then 1 else 0) + (if r.clamped then 2 else 0)]) es →
          finds ((List.range d.itemHeader.capacity).filterMap es))) ∧
      (∀ (list : List Nat) (es : List (List Nat)), o.kind = 25 →
        let h := d.itemHeader
        let visit : Nat → Draft := fun k => after (es.take k)
        let read : Nat → ItemRecord := fun k => (visit k).item (list.getD k 0)
        h.shelfHead = list.getD 0 0xFFFF → h.shelfTail = list.getLast?.getD 0xFFFF → list.length = h.shelfCount →
        h.capacity ≤ 65534 → es.length = list.length →
        (∀ k, k < list.length →
          let i := list.getD k 0
          let r := read k
          i < h.capacity ∧ (visit k).inside .item i = true ∧ r.state = some .onHoldShelf ∧ r.queue ≠ [] ∧
            (0 < k → (read (k - 1)).deadline ≤ r.deadline) ∧ r.shelfNext = list.getD (k + 1) 0xFFFF ∧
            s.headerGood .borrower ∧
            ∃ b, (visit k).holdBorrower i 0 r.head = .ok b ∧
              es.getD k [] = number r.number ++ [b.number % 65536, b.number / 65536 % 65536, r.deadline, r.queue.length]) →
        finds es))

/-- R64, R202: a pool walk over records that pass its checks writes, in index order, the entries of the records that match, as
many as the capacity holds, and is truncated exactly when more match. Entries are written as they are found: record `i` is read
from the tables with the entries of the records before it written at the target. -/
def Obligations.PoolWalksListTheMatches : Prop :=
  ∀ (d : Draft) (pick : ReportPick) (chosen : Nat → Option (List Nat)) (a capacity n : Nat),
    let seen : Nat → Draft := fun i =>
      { d with mem := d.mem.apply (reportWrites a (((List.range i).filterMap chosen).take capacity)) }
    (∀ i, i < n → (seen i).inside .item i = true ∧ ((seen i).item i).state ≠ none ∧
      pick (seen i) i ((seen i).item i) = .ok (chosen i)) →
    let matched := (List.range n).filterMap chosen
    poolWalk d pick a capacity { entries := [] } 0 n
      = { entries := matched.take capacity, truncated := decide (capacity < matched.length) }

/-! ## Journal pages and marks -/

/-- R155, R158: RELEASE_PAGES ends LIMIT unless 1 to 128 pages are asked for and as many FULL pages stand at the old end; else
it frees them, oldest first, and stands for its mark with the last sequence freed. A freed page becomes FREE by one access, room
rises by 32, and a DEFERRED sweep resumes when room was 0. R154, R157, R158, R175: the marks PAGES_RELEASED and UPLOAD_ENDED. A
mark that passes its gates is committed; one that does not is omitted and counted in the journal group, with the refusal handed
over. UPLOAD_ENDED sets the cut count to 0 in either case. The count of omitted marks is read from desk memory, raised and
written back, as the model deduces (log entry 13). That a RELEASE_PAGES whose step comes in a desk that has halted meanwhile
goes on is the model's choice (log entry 36). That the reason and the result count of an order are 0 where its rule gives none
is the model's choice (log entry 40). -/
def Obligations.PagesAndMarks : Prop :=
  ((∀ (s : State) (o : Order), s.orderAt kindReleasePages .owner = some o →
     let full := (s.journal.ring.takeWhile fun p => (s.journal.page p).state == .full).length
     let newest := s.journal.page (s.journal.ring.getD (o.a - 1) 0)
     (o.a = 0 ∨ 128 < o.a ∨ full < o.a → exec .releasePages s = .next (s.finishOrder { outcome := .limit })) ∧
     (1 ≤ o.a → o.a ≤ 128 → o.a ≤ full →
       exec .releasePages s = .next ((s.freePages o.a).orderWaits
         (.markGrant o.a ((newest.first + newest.count + 4294967295) % 4294967296))))) ∧
   (∀ (s : State) (p : Nat), s.journal.oldest = some p →
     let freed : Journal :=
       { s.journal with
         pages := s.journal.pages.set p { s.journal.page p with state := .free }
         oldest := if s.journal.newest = some p then none else some ((p + 1) % s.journal.pages.length)
         newest := if s.journal.newest = some p then none else s.journal.newest
         cutCount := s.journal.cutCount - 1
         room := s.journal.room + 32 }
     let u := (s.writeAll [{ addr := s.geometry.pageTable + 12 * p + 4, word := 0 }]).withJournal freed
     (s.journal.room = 0 ∧ s.sweep.state = .deferred → s.freeOldestPage = u.withSweep { s.sweep with state := .running }) ∧
     (¬ (s.journal.room = 0 ∧ s.sweep.state = .deferred) → s.freeOldestPage = u)) ∧
   (∀ (s : State) (n : Nat), (s.journal.oldest = none → s.freeOldestPage = s) ∧ s.freePages 0 = s ∧
     s.freePages (n + 1) = (s.freePages n).freeOldestPage)) ∧
  (∀ (s : State) (t : Txn), s.engaged t →
     let group := s.desk.anchor + 0x30
     let c := s.mem.read16 group
     let odd := if c % 2 = 0 then (c + 1) % 65536 else c
     let omitted : List WordWrite :=
       [{ addr := group, word := odd }, { addr := group + 8, word := min (s.mem.read16 (group + 8) + 1) 65535 },
        { addr := group, word := (odd + 1) % 65536 }]
     let refusal : Option Reason :=
       if t.halted then some .deskHalted else if t.stamp = none then some .clockUnset
       else if t.room ≤ 64 then some .journalFull else none
     let mark : Journal → EntryKind → Nat → Nat → Plan → Prop := fun view k v1 v2 p =>
       (∀ r, refusal = some r → p = { before := omitted, view := some view, result := .mark (some r) }) ∧
       (∀ st, refusal = none → t.stamp = some st →
         p = { view := some view
               entry := some { kind := k, source := t.requester, flags := {}, stamp := st, borrower := 0, item := 0,
                               value1 := v1, value2 := v2 }
               result := .mark none })
     (∀ pages last, t.kind = .pagesReleased pages last →
       ∃ p, exec .pagesReleased s = .next (s.conclude t p) ∧ mark s.journal .pagesReleased pages last p) ∧
     (t.kind = .uploadEnded →
       ∃ p, exec .uploadEnded s = .next (s.conclude t p) ∧
         mark { s.journal with cutCount := 0 } .uploadEnded s.upload.endReason.code
           (s.mem.read16 (s.desk.anchor + 0x80) * 65536 + s.mem.read16 (s.desk.anchor + 0x82)) p))

/-- R154, R156, R170: UPLOAD_STARTED. The cut closes a FILLING page that holds entries and counts the FULL pages; the gates see
the room it leaves; the mark is committed or omitted; the cut sequence is the last sequence written. That the gates see the
room after the cut is the model's reading (log entry 26). -/
def Obligations.UploadStartedCuts : Prop :=
  ∀ (s : State) (t : Txn), s.engaged t → t.kind = .uploadStarted →
    let j := s.journal
    let last := (j.nextSequence + 4294967295) % 4294967296
    let group := s.desk.anchor + 0x30
    let fullPages : List Page → Nat := fun ps => (ps.filter fun p => p.state == .full).length
    let marks : List WordWrite → Journal → Prop := fun ws view =>
      let u := s.withUpload { s.upload with cutSequence := last }
      (∀ st, t.halted = false → t.stamp = some st → 64 < view.room →
        exec .uploadStarted s = .next (u.conclude t
          { before := ws, view := some view
            entry := some { kind := .uploadStarted, source := t.requester, flags := {}, stamp := st, borrower := 0, item := 0,
                            value1 := last, value2 := view.cutCount }
            result := .mark none })) ∧
      (∀ r, (t.halted = true ∧ r = .deskHalted) ∨ (t.halted = false ∧ t.stamp = none ∧ r = .clockUnset) ∨
          (t.halted = false ∧ t.stamp ≠ none ∧ view.room ≤ 64 ∧ r = .journalFull) →
        exec .uploadStarted s = .next (u.conclude t
          { before := ws ++ markOmittedWrites (s.mem.apply ws) group, view := some view, result := .mark (some r) }))
    (∀ p, j.filling = some p → (j.page p).count ≠ 0 →
      let pages := j.pages.set p { j.page p with state := .full }
      let next := (p + 1) % j.pages.length
      marks
        (groupWrites s.mem group (putWords (group + 2) [next, j.nextSequence % 65536, j.nextSequence / 65536 % 65536])
          ++ [{ addr := s.geometry.pageTable + 12 * p + 4, word := 2 }])
        { j with pages := pages, filling := none, nextPage := next, room := j.room - (32 - (j.page p).count),
                 cutCount := fullPages pages }) ∧
    (j.filling = none ∨ (∃ p, j.filling = some p ∧ (j.page p).count = 0) →
      marks [] { j with cutCount := fullPages j.pages })

/-- R148 to R151, R206: the append of an entry to a FILLING page with places left, to its last place with and without a FREE
page after it, or with no FILLING page: where the entry goes, the writer's images, and the view after it. The marks omitted
count in the image of the journal group is the one desk memory holds (log entry 13, deduced); that its last three words are 0 is
the model's choice (log entry 33). That a room of 0 stays 0 is the model's choice too (log entry 16). -/
def Obligations.EntriesAreAppended : Prop :=
  ∀ (j : Journal) (g : Geometry) (m : Memory) (group : Nat),
    let descriptor : Nat → Page → Image := fun p pg =>
      { target := g.pageTable + 12 * p, counted := false
        words := [pg.address % 65536, pg.address / 65536 % 65536, pg.state.code, pg.count, pg.first % 65536,
                  pg.first / 65536 % 65536] }
    let seq := (j.nextSequence + 1) % 4294967296
    let n := j.pages.length
    (∀ p, j.filling = some p → (j.page p).count + 1 < 32 →
      let pg := { j.page p with count := (j.page p).count + 1 }
      j.append g m group
        = { target := (j.page p).address + 32 * (j.page p).count, images := [descriptor p pg]
            view := { j with pages := j.pages.set p pg, nextSequence := seq, room := j.room - 1 } }) ∧
    (∀ p, j.filling = some p → (j.page p).count + 1 = 32 →
      let full := { j.page p with state := PageState.full, count := 32 }
      let ps := j.pages.set p full
      let q := (p + 1) % n
      let pq := { ps.getD q .nothing with state := PageState.filling, first := seq, count := 0 }
      ((ps.getD q .nothing).state = .free →
        j.append g m group
          = { target := (j.page p).address + 992, images := [descriptor p full, descriptor q pq]
              view := { j with pages := ps.set q pq, filling := some q, newest := some q, nextPage := (q + 1) % n,
                               nextSequence := seq, room := j.room - 1 } }) ∧
      ((ps.getD q .nothing).state ≠ .free →
        j.append g m group
          = { target := (j.page p).address + 992
              images := [descriptor p full,
                { target := group, counted := true
                  words := [(m.read16 group + 2) % 65536, q, seq % 65536, seq / 65536 % 65536, m.read16 (group + 8), 0, 0, 0] }]
              view := { j with pages := ps, filling := none, nextPage := q, nextSequence := seq, room := j.room - 1 } })) ∧
    (j.filling = none →
      let p := j.nextPage
      let pg := { j.page p with state := PageState.filling, first := j.nextSequence, count := 1 }
      j.append g m group
        = { target := (j.page p).address, images := [descriptor p pg]
            view := { j with pages := j.pages.set p pg, filling := some p, newest := some p,
                             oldest := some (j.oldest.getD p), nextPage := (p + 1) % n, nextSequence := seq,
                             room := j.room - 1 } })

/-! ## Slips by order, uploads by order -/

/-- R180, R181: PRINT_TEXT ends LIMIT for a count outside 1 to 8 or text outside the window; else a TEXT slip with the clock
reading and the lines is requested, and the order ends DONE with the count, or with 0 and SLIP_LOST when the slip queue is full.
R179: a slip request queues the slip and starts an IDLE printer at its first dot line, or at 16 records is lost and counted in
the printer group while the desk is OPEN or HALTED. The count of lost slips is read from desk memory, raised and written back,
as the model deduces (log entry 13). That printing starts with buffer 0 is the model's choice (log entry 36). That the reason
and the result count of an order are 0 where its rule gives none is the model's choice (log entry 40). -/
def Obligations.SlipsAreRequested : Prop :=
  (∀ (s : State) (o : Order), s.orderAt kindPrintText .owner = some o →
     let inside := s.geometry.inWindow o.b (24 * o.a) = true
     let line : Nat → List Nat := fun i => (s.mem.bytes (o.b + 24 * i) 24).map BitVec.toNat
     let slip : Slip :=
       { kind := .text, station := none,
         stamp := if s.clock.isSet then some { day := s.clock.day, minute := s.clock.minute } else none,
         borrower := 0, entries := [], holdBorrower := 0, deadline := 0, text := (List.range o.a).map line }
     (o.a = 0 ∨ 8 < o.a ∨ ¬ inside → exec .printText s = .next (s.finishOrder { outcome := .limit })) ∧
     (1 ≤ o.a → o.a ≤ 8 → inside → s.printer.queue.length < 16 →
       exec .printText s = .next ((s.requestSlip slip).finishOrder { outcome := .done, count := o.a })) ∧
     (1 ≤ o.a → o.a ≤ 8 → inside → 16 ≤ s.printer.queue.length →
       exec .printText s = .next ((s.requestSlip slip).finishOrder { outcome := .done, count := 0, slipLost := true }))) ∧
  (∀ (s : State) (x : Slip),
     let p := s.printer
     let a := s.desk.anchor + 0x60
     let c := s.mem.read16 a
     let odd := if c % 2 = 0 then (c + 1) % 65536 else c
     let lost := (s.mem.read32 (a + 8) + 1) % 4294967296
     (p.queue.length < 16 → p.state ≠ .idle →
       s.requestSlip x = s.withPrinter { p with queue := p.queue ++ [x] }) ∧
     (p.queue.length < 16 → p.state = .idle →
       s.requestSlip x = s.withPrinter { p with
         queue := p.queue ++ [x], state := .printing, composer := { slip := 0, line := 0, text := [] }
         buffers := Vector.replicate 2 { state := .empty, bytes := List.replicate 48 0 }
         renderNext := 0, printNext := 0, fed := 0, paperTimer := none }) ∧
     (16 ≤ p.queue.length → s.desk.state = .opened ∨ s.desk.state = .halted →
       s.requestSlip x = s.writeAll
         [{ addr := a, word := odd }, { addr := a + 8, word := lost % 65536 }, { addr := a + 10, word := lost / 65536 },
          { addr := a, word := (odd + 1) % 65536 }]) ∧
     (16 ≤ p.queue.length → s.desk.state = .unanchored ∨ s.desk.state = .anchoring → s.requestSlip x = s))

/-- R169, R176: START_UPLOAD is refused BUSY unless the upload is IDLE, and CLOCK_UNSET without a clock reading; else the upload
starts and the order waits for the cut. ABORT_UPLOAD ends DONE 0 at an IDLE upload, waits for an ENDING one, and ends any other
ABORTED and waits; before the cut, with its mark not granted, the upload is IDLE at once and the order ends DONE 1. That a
START_UPLOAD taken up in OPEN is refused DESK_HALTED when its own step comes in a desk that has halted meanwhile is the model's
choice, by the reason R176 gives one that halts before its cut (log entry 22). That the reason and the result count of an order
are 0 where its rule gives none is the model's choice (log entry 40). -/
def Obligations.UploadOrdersAct : Prop :=
  ∀ (s : State) (o : Order),
    let fresh : Upload :=
      { state := .opening, frame := none, asking := false, sends := 0, replyTimer := none, noticeTimer := none, held := none,
        finishedNoted := false, watch := !s.line.ready, endReason := s.upload.endReason, cutMade := false,
        startStamp := { day := 0, minute := 0 }, cutSequence := 0, startedMark := .standing, endedMark := .absent }
    (s.orderAt kindStartUpload .owner = some o → s.desk.state = .opened →
      (s.upload.state ≠ .idle →
        exec .startUpload s = .next (s.finishOrder { outcome := .refused, reason := some .busy })) ∧
      (s.upload.state = .idle → s.clock.isSet = false →
        exec .startUpload s = .next (s.finishOrder { outcome := .refused, reason := some .clockUnset })) ∧
      (s.upload.state = .idle → s.clock.isSet = true →
        exec .startUpload s = .next ((s.withUpload fresh).orderWaits .cut))) ∧
    (s.orderAt kindStartUpload .owner = some o → s.desk.state = .halted →
      exec .startUpload s = .next (s.finishOrder { outcome := .refused, reason := some .deskHalted })) ∧
    (s.orderAt kindAbortUpload .owner = some o →
      (s.upload.state = .idle → exec .abortUpload s = .next (s.finishOrder { outcome := .done, count := 0 })) ∧
      (s.upload.state = .ending → exec .abortUpload s = .next (s.orderWaits (.uploadIdle 0))) ∧
      (s.upload.state ≠ .idle → s.upload.state ≠ .ending →
        exec .abortUpload s = .next ((s.orderWaits (.uploadIdle 1)).endUpload .aborted)) ∧
      (s.upload.state = .opening → s.upload.cutMade = false → s.upload.startedMark = .standing → s.upload.held = none →
        s.journal.sendingPage = none →
        exec .abortUpload s
          = .next ((((s.orderWaits (.uploadIdle 1)).withLine { s.line with transmission := none }).withUpload
              { fresh with state := .idle, watch := false, endReason := .aborted, startStamp := s.upload.startStamp,
                           cutSequence := s.upload.cutSequence, startedMark := .absent }).finishOrder
                { outcome := .done, count := 1 })))

/-! ## The center line -/

/-- R162, R171, R172, R173: what answers a frame. FRAME_SENT sends the octets that are left, which needs LINE_RDY high unless
every octet has begun, and arms the reply timer. A TAKEN with the reference of the frame in hand moves the upload on: to the
first page, to the next page with the sent one freed and counted, or to the notices. A REFUSED or an expiry sends the frame
again while sends remain, counted as a retry, and else ends the upload NO_REPLY. R155, R171, R172: the page the writer hands
over is the oldest, when FULL and in the cut: it becomes SENDING by one access, is counted, and its PAGE frame is sent; with
none left the CLOSE frame with the cut sequence is sent. R167, R171, R173: the good frames the upload takes. A TAKEN or
REFUSED carries the reference of the frame in hand and comes while the reply timer runs; NOTICE and FINISHED come in
RECEIVING_NOTICES. The levels sent are recorded in a field of the model's (log entry 35), and whether a page is handed over at
once or at a later tick is a free value of it (log entry 37). That FRAME_SENT does nothing while octets wait for LINE_RDY, and
that the receiver takes every octet that waits in the step of the frame, are the model's choices (log entries 1, 10). -/
def Obligations.FramesAreAnswered : Prop :=
  (∀ (s : State),
     let u := s.upload
     let resumed := (s.withLine s.line.resume).withUpload { u with replyTimer := none }
     let expired : State → PartFrame → Host.Outcome State Fault Refusal := fun v f =>
       .next (if u.sends < s.settings.tries then
           ((v.count16 offReport offRetries).withUpload { u with sends := u.sends + 1, replyTimer := none }).withLine
             { v.line with transmission := some { frame := f, begun := 0 }, sent := [] }
         else v.endUpload .noReply)
     let asks : State → State := fun v =>
       if Config.answersLater s.choices = true then
         (v.withChoices (s.choices + 1)).withUpload { v.upload with asking := true }
       else (v.withChoices (s.choices + 1)).nextPage
     (∀ t, s.line.transmission = some t →
       let octets := t.frame.octets s.mem
       (s.line.ready = true ∨ octets.length ≤ t.begun →
         exec .frameSent s = .next ((s.withLine
             { s.line with
               transmission := none, octet := []
               sent := s.line.sent ++ (octets.drop t.begun).map (octetLevels s.settings.parity) }).withUpload
           { u with replyTimer := some s.settings.replyTimeout })) ∧
       (s.line.ready = false → t.begun < octets.length → exec .frameSent s = .next s)) ∧
     (∀ f ref, u.frame = some f → s.acceptedFrame = some (.taken ref) →
       (∀ b d m c n, f = .opening b d m c n →
         let v : Upload := { u with replyTimer := none, state := .sending, frame := none }
         exec .takenFrame s = .next (asks (resumed.withUpload v))) ∧
       (∀ a b n, f = .page a b n →
         let freed := resumed.freeOldestPage.count16 offReport offPagesTaken
         let v : Upload := { u with replyTimer := none, frame := none }
         exec .takenFrame s = .next (asks (freed.withUpload v))) ∧
       (∀ n, f = .closing n →
         exec .takenFrame s = .next (resumed.withUpload
           { u with replyTimer := none, state := .receivingNotices, frame := none,
                    noticeTimer := some s.settings.replyTimeout }))) ∧
     (∀ f ref, u.frame = some f → s.acceptedFrame = some (.refused ref) → exec .refusedFrame s = expired resumed f) ∧
     (∀ f n, u.frame = some f → u.replyTimer = some n →
       exec .replyTimeout s = expired (s.withUpload { u with replyTimer := none }) f)) ∧
  (∀ (s : State),
     let sends : State → PartFrame → State := fun v f =>
       (v.withUpload { v.upload with frame := some f, asking := false, sends := 1, replyTimer := none }).withLine
         { v.line with transmission := some { frame := f, begun := 0 }, sent := [] }
     (∀ p, s.journal.oldest = some p → (s.journal.page p).state = .full → 0 < s.journal.cutCount →
       let pg := s.journal.page p
       let v := (s.writeAll [{ addr := s.geometry.pageTable + 12 * p + 4, word := 3 }]).withJournal
         { s.journal with pages := s.journal.pages.set p { pg with state := .sending } }
       s.nextPage = sends (v.count16 offReport offPagesSent) (.page pg.address pg.first pg.count)) ∧
     ((∀ p, s.journal.oldest = some p → ¬ ((s.journal.page p).state = .full ∧ 0 < s.journal.cutCount)) →
       s.nextPage = sends (s.withUpload { s.upload with state := .closing }) (.closing s.upload.cutSequence))) ∧
  (∀ (s : State),
     ((∀ f, s.line.receiver ≠ .good f) → s.acceptedFrame = none) ∧
     (∀ f, s.line.receiver = .good f →
       let octet : Nat → Nat := fun i => (f.payload.getD i 0).toNat
       let word : Nat → Nat := fun i => octet i + 256 * octet (i + 1)
       let double : Nat → Nat := fun i => word i + 65536 * word (i + 2)
       let answers := s.upload.replyTimer ≠ none ∧
         ((∃ b d m c n, s.upload.frame = some (.opening b d m c n) ∧ double 0 = 0) ∨
          (∃ a n, s.upload.frame = some (.page a (double 0) n)) ∨ s.upload.frame = some (.closing (double 0)))
       let takes : Prop → CenterFrame → Prop := fun when_ x =>
         (when_ → s.acceptedFrame = some x) ∧ (¬ when_ → s.acceptedFrame = none)
       let notices := s.upload.state = .receivingNotices
       (f.kind = 0x81#8 ∧ f.length = 4 → takes answers (.taken (double 0))) ∧
       (f.kind = 0x82#8 ∧ f.length = 4 → takes answers (.refused (double 0))) ∧
       (f.kind = 0x83#8 ∧ f.length = 10 →
         takes notices (.notice { borrower := double 0, action := octet 4, origin := word 6, day := word 8 })) ∧
       (f.kind = 0x84#8 ∧ f.length = 0 → takes notices .finished) ∧
       (¬ (f.kind = 0x81#8 ∧ f.length = 4) → ¬ (f.kind = 0x82#8 ∧ f.length = 4) → ¬ (f.kind = 0x83#8 ∧ f.length = 10) →
         ¬ (f.kind = 0x84#8 ∧ f.length = 0) → s.acceptedFrame = none)))

/-- R173, R175: in RECEIVING_NOTICES a NOTICE restarts the notice timer and is held, or dropped and counted while another is
held; FINISHED ends the upload OK, at once or when the held notice has been handed over; an expiry ends it NO_FINISH. R175,
R176: an upload that is neither IDLE nor ENDING ends, and the end of one that is IDLE or ENDING changes nothing. Its frame is
dropped, a SENDING page goes back to FULL, and a held notice not yet granted is dropped and counted. While something granted is
awaited it stays ENDING; else it becomes IDLE at once before the cut, which ends an ABORT_UPLOAD that waits, and after the cut
its end reason is written and UPLOAD_ENDED is asked for. That a START_UPLOAD goes on waiting when its upload ends before the
cut, and that a NOTICE after a noted FINISHED arms the timer again, are the model's choices (log entries 22, 33). The counts of
the report are read from desk memory, raised and written back, as the model deduces (log entry 13). R176: a restart keeps the
end reason as it stands where no end can be in progress; which work a restart finds begun is the model's operand (log entry 7).
That the reason and the result count of an order are 0 where its rule gives none is the model's choice (log entry 40). -/
def Obligations.UploadsReceiveAndEnd : Prop :=
  (∀ (s : State),
     let resumed := s.withLine s.line.resume
     (∀ n, s.acceptedFrame = some (.notice n) →
       let armed := resumed.withUpload { s.upload with noticeTimer := some s.settings.replyTimeout }
       (s.upload.held = none →
         exec .noticeFrame s = .next (resumed.withUpload
           { s.upload with noticeTimer := some s.settings.replyTimeout, held := some { notice := n, granted := false } })) ∧
       (s.upload.held ≠ none → exec .noticeFrame s = .next (armed.count16 offReport offDropped))) ∧
     (s.acceptedFrame = some .finished →
       (s.upload.held = none → exec .finishedFrame s = .next (resumed.endUpload .ok)) ∧
       (s.upload.held ≠ none →
         exec .finishedFrame s
           = .next (resumed.withUpload { s.upload with finishedNoted := true, noticeTimer := none }))) ∧
     (s.upload.noticeTimer ≠ none → exec .noticeTimeout s = .next (s.endUpload .noFinish)) ∧
     (∀ code n,
       s.upload.state = .idle ∨ s.upload.state = .ending ∨ s.upload.cutMade = false ∨
         (s.acceptedFrame ≠ some .finished ∧ (s.upload.replyTimer = none ∨ s.upload.sends < s.settings.tries) ∧
           s.upload.noticeTimer = none ∧ (s.upload.watch = false ∨ s.line.ready = true) ∧
           s.orderAt kindAbortUpload .owner = none) →
       s.interrupt [(.reportEnd code, n)] = s)) ∧
  (∀ (s : State) (r : EndReason), s.upload.state = .idle ∨ s.upload.state = .ending → s.endUpload r = s) ∧
  (∀ (s : State) (r : EndReason),
     s.upload.state ≠ .idle → s.upload.state ≠ .ending →
     let waits := s.currentOrder.map TakenOrder.wait
     let dropped := s.withLine { s.line with transmission := none }
     let full : State → State := fun v =>
       match s.journal.oldest with
       | none => v
       | some p =>
         if (s.journal.page p).state = .sending then
           (v.writeAll [{ addr := s.geometry.pageTable + 12 * p + 4, word := 2 }]).withJournal
             { s.journal with pages := s.journal.pages.set p { s.journal.page p with state := .full } }
         else v
     let granted := ∃ h, s.upload.held = some h ∧ h.granted = true
     let stopped : State → Prop := fun v =>
       (s.upload.held = none ∨ granted → v = full dropped) ∧
       (¬ (s.upload.held = none ∨ granted) → v = (full dropped).count16 offReport offDropped)
     let ending : Upload :=
       { s.upload with
         state := .ending, endReason := r, frame := none, asking := false, sends := 0, replyTimer := none, noticeTimer := none,
         watch := false, finishedNoted := false, held := s.upload.held.filter HeldNotice.granted,
         startedMark := if s.upload.startedMark = .standing then .absent else s.upload.startedMark }
     let idle : Upload :=
       { state := .idle, frame := none, asking := false, sends := 0, replyTimer := none, noticeTimer := none, held := none,
         finishedNoted := false, watch := false, endReason := r, cutMade := false, startStamp := s.upload.startStamp,
         cutSequence := s.upload.cutSequence, startedMark := .absent, endedMark := .absent }
     ∃ v, stopped v ∧
       (granted ∨ s.upload.startedMark = .granted → s.endUpload r = v.withUpload ending) ∧
       (¬ (granted ∨ s.upload.startedMark = .granted) →
         (s.upload.cutMade = false →
           ((∀ n, waits ≠ some (.uploadIdle n)) → s.endUpload r = v.withUpload idle) ∧
           (∀ n, waits = some (.uploadIdle n) →
             s.endUpload r = (v.withUpload idle).finishOrder { outcome := .done, count := n })) ∧
         (s.upload.cutMade = true →
           s.endUpload r = ((v.withUpload ending).writeField offReport offEndReason r.code).withUpload
             { ending with endedMark := .standing })))

/-- R163, R164, R166, R167: a good frame that is not taken is counted stray; a faulty frame and a gap of 200 ms inside one
discard it, counted, with LINE_ERROR; an octet that finds the queue full is lost, and marks the frame it falls in. The receiver
goes back to HUNTING and takes what waits. R174: a change of LINE_RDY. A fall during an upload starts the line-down watch and a
rise stops it; the watch at 60 s with the line low ends the upload LINE_DOWN, unless it is already ENDING. Whether the lost
octet leaves the receiver waiting for a high line is a free value (log entry 38). The counts are read from desk memory, raised
and written back, as the model deduces (log entry 13). That the receiver then takes every octet that waits (log entry 10), that
LINE_DOWN_TIMEOUT does nothing while no watch runs (log entry 1), and that a frame marked for a loss is faulty at the next octet
taken (log entry 30), are the model's choices. -/
def Obligations.LineEventsAct : Prop :=
  (∀ (s : State),
     let attached := s.desk.state = .opened ∨ s.desk.state = .halted
     let discarded : State :=
       ((s.count16 offLine offLineErrors).raise .lineError).withLine s.line.resume
     (∀ f, s.line.receiver = .good f → s.acceptedFrame = none →
       exec .strayFrame s = .next ((s.count16 offReport offStray).withLine s.line.resume)) ∧
     (s.line.receiver = .faulty → exec .frameDiscard s = .next discarded) ∧
     (∀ p, s.line.receiver = .inside p → exec .frameGapTimeout s = .next discarded) ∧
     (4 ≤ s.line.queue.length →
       let loses : FrameReceiver → Prop := fun r =>
         exec .receiveQueueOverrun s = .next ((s.withChoices (s.choices + 1)).withLine
           { s.line with receiver := r, waitHigh := Config.lostFraming s.choices, pastParity := [] })
       ((∀ p, s.line.receiver ≠ .inside p) → loses s.line.receiver) ∧
       (∀ p, s.line.receiver = .inside p → loses (.inside { p with overrun := true }))) ∧
     (∀ p o, p.overrun = true → (FrameReceiver.inside p).take o = .faulty) ∧
     (∀ group off, ¬ attached → s.count16 group off = s) ∧
     (∀ group off, attached →
       let a := s.desk.anchor + group
       let c := s.mem.read16 a
       let odd := if c % 2 = 0 then (c + 1) % 65536 else c
       s.count16 group off = s.writeAll
         [{ addr := a, word := odd },
          { addr := s.desk.anchor + off, word := min (s.mem.read16 (s.desk.anchor + off) + 1) 65535 },
          { addr := a, word := (odd + 1) % 65536 }])) ∧
  (∀ (s : State),
     (∀ high, high ≠ s.line.ready →
       exec (.lineRdyChange high) s = .next ((s.withLine { s.line with ready := high }).withUpload
         { s.upload with watch := decide (high = false ∧ s.upload.state ≠ .idle) })) ∧
     (s.upload.watch = true → s.line.ready = false → exec .lineDownTimeout s = .next (s.endUpload .lineDown)) ∧
      (s.upload.watch = true → s.line.ready = false → s.upload.state = .ending → exec .lineDownTimeout s = .next s) ∧
     (s.upload.watch = false → exec .lineDownTimeout s = .next s))

/-! ## Labels completed, faults, frames -/

/-- R26, R27, R28, R30, R31, R35, R39: a station takes up the result of its label in flight. A borrower label for another borrower
closes the open session first; a new session is opened with an empty list; a loan takes the place of the same item's entry,
joins the list, or begins it again at 12 entries; a block or an unknown borrower closes the session. The tone starts, and the
outcome enters the buffer, which clears in flight and arms the deadline, or waits for it. That an outcome queues behind those that
wait, and that the session closes before a SESSION_OPEN that is refused DESK_HALTED, are the model's choices (log entries 21,
33). -/
def Obligations.LabelsComplete : Prop :=
  ∀ (s : State) (i : Fin 4) (k : TxnKind) (x : StationResult) (lost : Bool),
    let t := s.station i
    let ends : State → Option Session → List SessionItem → Bool → Prop := fun u session items lost =>
      let tone : TonePattern :=
        if x.refused then (if x.reason = .borrowerBlocked then .attention else .refuse)
        else if x.trapped ∨ x.reason = .alreadyOnHoldShelf then .attention
        else if x.reason = .notOnLoan ∧ t.mode = .renew then .refuse else .accept
      let uncounted := x.refused = false ∧
        (x.reason = .returned ∨ x.reason = .alreadyOnHoldShelf ∨ (x.reason = .notOnLoan ∧ t.mode ≠ .renew))
      let o : SlateOutcome :=
        { refused := x.refused, reason := x.reason, borrower := x.borrower, item := x.item, due := x.due, fine := x.fine,
          blocks := x.blocks, itemState := x.itemState, sessionItems := if uncounted then 0 else items.length,
          slipLost := lost, keyed := decide ((t.inFlight.map Label.tag) = some .keyed) }
      let v : Station := { t with session := session, items := items, tone := t.tone.start tone }
      (t.entersAtOnce →
        s.completeLabel i k x lost
          = u.setStation i { v with buffer := some o, inFlight := none, deadline := some s.settings.sessionTimeout }) ∧
      (¬ t.entersAtOnce →
        s.completeLabel i k x lost = u.setStation i { v with waiting := t.waiting ++ [(o, .completion)] })
    let full := decide (16 ≤ s.printer.queue.length)
    let closing := x.refused = true ∧ (x.reason = .borrowerBlocked ∨ x.reason = .unknownBorrower)
    (k ≠ .sessionOpen true → x.opens = none → x.entry = none → ¬ (closing ∧ t.session ≠ none) →
      ends s t.session t.items lost) ∧
    (∀ se, k ≠ .sessionOpen true → x.opens = none → x.entry = none → closing → t.session = some se →
      (¬ s.closePrints i → ends s none [] lost) ∧
      (s.closePrints i → ends (s.requestSlip (s.closeSlip i se.number)) none [] (lost || full))) ∧
    (∀ se, k ≠ .sessionOpen true → x.opens = some se → ends s (some se) [] lost) ∧
    (∀ se old, k = .sessionOpen true → x.opens = some se → t.session = some old →
      (¬ s.closePrints i → ends s (some se) [] lost) ∧
      (s.closePrints i → ends (s.requestSlip (s.closeSlip i old.number)) (some se) [] (lost || full))) ∧
    (∀ old, k = .sessionOpen true → x.opens = none → x.entry = none → t.session = some old →
      (¬ s.closePrints i → ends s none [] lost) ∧
      (s.closePrints i → ends (s.requestSlip (s.closeSlip i old.number)) none [] (lost || full))) ∧
    (∀ e se, k ≠ .sessionOpen true → x.opens = none → x.entry = some e → t.session = some se →
      (t.items.map SessionItem.item).Nodup →
      (e.item ∈ t.items.map SessionItem.item →
        ends s t.session (t.items.map fun y => if y.item = e.item then e else y) lost) ∧
      (e.item ∉ t.items.map SessionItem.item → t.items.length < 12 → ends s t.session (t.items ++ [e]) lost) ∧
      (e.item ∉ t.items.map SessionItem.item → 12 ≤ t.items.length →
        (¬ s.closePrints i → ends s t.session [e] lost) ∧
        (s.closePrints i → ends (s.requestSlip (s.closeSlip i se.number)) t.session [e] (lost || full))))

/-- R65, R176, R194, R197: a fault in a transaction, whoever asked for it. The fault record is written whole under its change
count with the fault count one higher, the desk enters HALTED with the reason, HALTED is raised, an upload that runs ends
ABORTED and a START_UPLOAD that waits for a mark not granted is refused DESK_HALTED, the engine is let go, and the result is
handed over; of desk memory nothing else is written but the entries of a report. A sweep step that finds a fault ends the sweep,
a notice is ignored, an order and a label are refused DESK_HALTED. The fault count is read from desk memory, raised and written
back, as the model deduces (log entry 13); that a notice which finds a fault is ignored is deduced too (log entry 23). That the
reason and the result count of an order are 0 where its rule gives none is the model's choice (log entry 40). -/
def Obligations.FaultsHaltTheDesk : Prop :=
  (∀ (s : State) (t : Txn) (p : Plan) (f : TableFault), p.fault = some f →
    let a := s.desk.anchor + 0x90
    let m := s.mem.apply p.before
    let c := m.read16 a
    let odd := if c % 2 = 0 then (c + 1) % 65536 else c
    let index := (f.index.getD 0xFFFF) % 65536
    let day := (if s.clock.isSet then s.clock.day else 0) % 65536
    let minute := (if s.clock.isSet then s.clock.minute else 0) % 65536
    let requester := match t.requester with
      | .station i => i.val
      | .order => 4
      | .sweep => 5
      | .center => 6
    let words : List Nat :=
      [odd, f.reason.code, (match f.table with | .item => 1 | .borrower => 2) + 256 * requester, index, f.address % 65536,
       f.address / 65536 % 65536, day, minute, min (m.read16 (a + 16) + 1) 65535, 0, 0, 0, 0, 0, 0, 0]
    let recorded := ((s.withMem m).writeAll (putWords a words ++ [{ addr := a, word := (odd + 1) % 65536 }])).withExecutor
      { s.executor with pointer := p.pointer.getD s.executor.pointer }
    let halted := (recorded.withDesk { state := .halted, reason := f.reason, anchor := s.desk.anchor }).raise .halted
    let aborted := if s.upload.state = .idle ∨ s.upload.state = .ending then halted else halted.endUpload .aborted
    let ended := if s.upload.startedMark ≠ .granted ∧ s.currentOrder.map TakenOrder.wait = some .cut then
      aborted.finishOrder { outcome := .refused, reason := some .deskHalted } else aborted
    s.carryOut t p = (ended.withEngine
      { s.engine with state := if s.engine.holdAsked then .held else .idle, current := none, holdAsked := false }).handOver t
        p.result false false) ∧
  (∀ (s : State) (t : Txn) (f : TableFault), s.engaged t →
    (∀ st, t.kind = .sweepStep → t.admitted st 1 → s.tables.touch .item = .error f →
      exec .daySweepStep s = .next (s.carryOut t { fault := some f, result := .sweep .done })) ∧
    (∀ n st, t.kind = .notice n → t.admitted st 1 → n.action = 1 ∨ n.action = 2 → 1 ≤ n.borrower → n.borrower ≤ 99999999 →
      s.headerGood .borrower → s.tables.lookup .borrower n.borrower = .error f →
      exec .centerNotice s = .next (s.carryOut t { fault := some f, result := .notice false })) ∧
    (∀ o st, t.kind = .order o → o.kind = 7 → t.requester = .order → t.admitted st 65 → o.a ≤ 255 → s.headerGood .borrower →
      s.tables.lookup .borrower o.borrower = .error f →
      exec .setBlock s = .next (s.carryOut t
        { fault := some f, result := .order { outcome := .refused, reason := some .deskHalted } })) ∧
    (∀ i n st, t.kind = .returnItem → t.requester = .station i → t.names .item n → t.admitted st 1 → s.headerGood .item →
      s.tables.lookup .item n = .error f →
      ∃ x, x.refused = true ∧ x.reason = .deskHalted ∧ x.item = n ∧
        exec .returnItem s = .next (s.carryOut t { fault := some f, result := .station x })))

/-! ## Tables -/

/-- R44: along a chain whose records pass the checks of R64, a lookup answers the first record that holds the number, and none
when no record does. -/
def Obligations.LookupsFindTheNumber : Prop :=
  ∀ (d : Draft) (t : TableName) (number : Nat) (chain : List Nat),
    (d.header t).capacity ≤ 65534 → chain.length ≤ (d.header t).capacity →
    (∀ i ∈ chain, d.walkable t (number % 2 ^ (d.header t).exponent) i) →
    d.chained t (d.bucketWord t (number % 2 ^ (d.header t).exponent)) chain →
    d.lookup t number = .ok (chain.find? fun i => (d.chainRecord t i).number == number)

/-- R46, R47, R53, R54: how the tables change. The head of the free list is taken; a new record stands at the head of its chain
and keeps the count the free record held; a removed record leaves its chain and becomes the head of the free list; a record on
the hold shelf is placed behind every record with an equal or earlier deadline; one taken off is passed over. The header counts
follow; every other record, header and bucket word of both tables stays, a word of the other table's buckets where it does not
lie at the address of the bucket word written. R55, R58: the images of an insertion are the record and the header, their counts
raised by 2, and the bucket word; their slot order is the model's choice (log entry 36). That a record count of 0 stays 0 where
R47 lets it fall by 1 is the model's choice (log entry 16). -/
def Obligations.TablesChange : Prop :=
  (∀ (d : Draft) (t : TableName),
    let h := d.header t
    (h.freeHead = 0xFFFF → d.takeFree t = .ok none) ∧
    (h.freeHead ≠ 0xFFFF → h.freeHead < h.capacity → d.inside t h.freeHead = true →
      (d.chainRecord t h.freeHead).inUse = some false →
      let next := (d.chainRecord t h.freeHead).next
      next = 0xFFFF ∨ next < h.capacity → d.takeFree t = .ok (some (h.freeHead, next)))) ∧
  (∀ (d : Draft) (i next : Nat) (r : ItemRecord),
    let e := d.insertItem i next r
    let b := r.number % 2 ^ d.itemHeader.exponent
    e.item i = { r with count := (d.item i).count, chainNext := d.bucketWord .item b } ∧
      e.bucketWord .item b = i ∧ e.itemHeader = { d.itemHeader with records := d.itemHeader.records + 1, freeHead := next } ∧
      (∀ k, k ≠ i → e.item k = d.item k) ∧ (∀ c, c ≠ b → e.bucketWord .item c = d.bucketWord .item c) ∧
      (∀ k, e.borrower k = d.borrower k) ∧ e.borrowerHeader = d.borrowerHeader ∧
      (∀ c, d.bucketAddress .borrower c ≠ d.bucketAddress .item b → e.bucketWord .borrower c = d.bucketWord .borrower c)) ∧
  (∀ (d : Draft) (i next : Nat) (r : BorrowerRecord),
    let e := d.insertBorrower i next r
    let b := r.number % 2 ^ d.borrowerHeader.exponent
    e.borrower i = { r with count := (d.borrower i).count, chainNext := d.bucketWord .borrower b } ∧
      e.bucketWord .borrower b = i ∧
      e.borrowerHeader = { d.borrowerHeader with records := d.borrowerHeader.records + 1, freeHead := next } ∧
      (∀ k, k ≠ i → e.borrower k = d.borrower k) ∧
      (∀ c, c ≠ b → e.bucketWord .borrower c = d.bucketWord .borrower c) ∧
      (∀ k, e.item k = d.item k) ∧ e.itemHeader = d.itemHeader ∧
      (∀ c, d.bucketAddress .item c ≠ d.bucketAddress .borrower b → e.bucketWord .item c = d.bucketWord .item c)) ∧
  (∀ (s : State) (i next : Nat),
    let counted : Nat → List Nat → Image := fun a ws =>
      { target := a, counted := true, words := (ws.headD 0 + 2) % 65536 :: ws.tail }
    (∀ r : ItemRecord,
      let e := s.tables.insertItem i next r
      e.images = [counted (s.tables.address .item i) (e.item i).words,
        { target := s.geometry.itemTable + 16 + 2 * (r.number % 2 ^ s.tables.itemHeader.exponent), counted := false, words := [i] },
        counted s.geometry.itemTable e.itemHeader.words]) ∧
    (∀ r : BorrowerRecord,
      let e := s.tables.insertBorrower i next r
      e.images = [counted (s.tables.address .borrower i) (e.borrower i).words,
        { target := s.geometry.borrowerTable + 16 + 2 * (r.number % 2 ^ s.tables.borrowerHeader.exponent), counted := false,
          words := [i] },
        counted s.geometry.borrowerTable e.borrowerHeader.words])) ∧
  (∀ (d : Draft) (i : Nat) (before after : List Nat),
    let r := d.item i
    let b := r.number % 2 ^ d.itemHeader.exponent
    let chain := before ++ i :: after
    d.itemHeader.capacity ≤ 65534 → chain.length ≤ d.itemHeader.capacity → chain.Nodup →
    (∀ k ∈ chain, d.walkable .item b k) → d.chained .item (d.bucketWord .item b) chain →
    ∃ e, d.removeItem i = .ok e ∧
      e.item i
        = { count := r.count, state := some .free, itemClass := 0, number := 0, borrower := 0xFFFF,
            due := { day := 0, minute := 0 }, loanDay := 0, renewCount := 0, hourLoan := false, clamped := false, queue := [],
            deadline := 0, shelfNext := 0xFFFF, chainNext := d.itemHeader.freeHead } ∧
      e.itemHeader = { d.itemHeader with records := d.itemHeader.records - 1, freeHead := i } ∧
      (before = [] → e.bucketWord .item b = r.chainNext) ∧
      (∀ p, before.getLast? = some p →
        e.item p = { d.item p with chainNext := r.chainNext } ∧ e.bucketWord .item b = d.bucketWord .item b) ∧
      (∀ k, k ≠ i → before.getLast? ≠ some k → e.item k = d.item k) ∧
      (∀ c, c ≠ b → e.bucketWord .item c = d.bucketWord .item c) ∧
      (∀ k, e.borrower k = d.borrower k) ∧ e.borrowerHeader = d.borrowerHeader ∧
      (∀ c, d.bucketAddress .borrower c ≠ d.bucketAddress .item b → e.bucketWord .borrower c = d.bucketWord .borrower c)) ∧
  (∀ (d : Draft) (i : Nat) (before after : List Nat),
    let r := d.borrower i
    let b := r.number % 2 ^ d.borrowerHeader.exponent
    let chain := before ++ i :: after
    d.borrowerHeader.capacity ≤ 65534 → chain.length ≤ d.borrowerHeader.capacity → chain.Nodup →
    (∀ k ∈ chain, d.walkable .borrower b k) → d.chained .borrower (d.bucketWord .borrower b) chain →
    ∃ e, d.removeBorrower i = .ok e ∧
      e.borrower i
        = { count := r.count, inUse := some false, cls := 0, number := 0, expiry := 0, activity := 0, fines := 0, loans := 0,
            holds := 0, lost := 0, manual := none, center := none, chainNext := d.borrowerHeader.freeHead } ∧
      e.borrowerHeader = { d.borrowerHeader with records := d.borrowerHeader.records - 1, freeHead := i } ∧
      (before = [] → e.bucketWord .borrower b = r.chainNext) ∧
      (∀ p, before.getLast? = some p →
        e.borrower p = { d.borrower p with chainNext := r.chainNext } ∧
          e.bucketWord .borrower b = d.bucketWord .borrower b) ∧
      (∀ k, k ≠ i → before.getLast? ≠ some k → e.borrower k = d.borrower k) ∧
      (∀ c, c ≠ b → e.bucketWord .borrower c = d.bucketWord .borrower c) ∧
      (∀ k, e.item k = d.item k) ∧ e.itemHeader = d.itemHeader ∧
      (∀ c, d.bucketAddress .item c ≠ d.bucketAddress .borrower b → e.bucketWord .item c = d.bucketWord .item c)) ∧
  (∀ (d : Draft) (i : Nat) (r : ItemRecord) (before after : List Nat),
    d.shelfList (before ++ after) → i ∉ before ++ after →
    (∀ k ∈ before, (d.item k).deadline ≤ r.deadline) → (∀ k ∈ after, r.deadline < (d.item k).deadline) →
    ∃ e, d.shelfInsert i r = .ok e ∧
      e.item i = { r with shelfNext := after.headD 0xFFFF } ∧
      (∀ p, before.getLast? = some p → e.item p = { d.item p with shelfNext := i }) ∧
      (∀ k, k ≠ i → before.getLast? ≠ some k → e.item k = d.item k) ∧
      e.itemHeader
        = { d.itemHeader with
            shelfCount := d.itemHeader.shelfCount + 1
            shelfHead := if before = [] then i else d.itemHeader.shelfHead
            shelfTail := if after = [] then i else d.itemHeader.shelfTail } ∧
      (∀ k, e.borrower k = d.borrower k) ∧ e.borrowerHeader = d.borrowerHeader ∧
      ∀ t c, e.bucketWord t c = d.bucketWord t c) ∧
  (∀ (d : Draft) (i : Nat) (before after : List Nat), d.shelfList (before ++ i :: after) →
    ∃ e, d.shelfRemove i = .ok e ∧
      e.item i = { d.item i with shelfNext := 0xFFFF } ∧
      (∀ p, before.getLast? = some p → e.item p = { d.item p with shelfNext := (d.item i).shelfNext }) ∧
      (∀ k, k ≠ i → before.getLast? ≠ some k → e.item k = d.item k) ∧
      e.itemHeader
        = { d.itemHeader with
            shelfCount := d.itemHeader.shelfCount - 1
            shelfHead := if before = [] then (d.item i).shelfNext else d.itemHeader.shelfHead
            shelfTail := if after = [] then before.getLast?.getD 0xFFFF else d.itemHeader.shelfTail } ∧
      (∀ k, e.borrower k = d.borrower k) ∧ e.borrowerHeader = d.borrowerHeader ∧
      ∀ t c, e.bucketWord t c = d.bucketWord t c)

/-- R58 to R62: an interruption of a commit at any access. Before the arm the slot stays EMPTY, nothing outside it has changed and
anchoring replays nothing; from the arm on, what anchoring replays leaves every byte of desk memory as the whole commit does.
That a slot word other than 1 counts as EMPTY is the model's choice (log entry 17). -/
def Obligations.ReplayCompletesTheCommit : Prop :=
  ∀ (m : Memory) (g : Geometry) (slot target n : Nat) (images : List Image) (entry : List Nat), m.wf = true →
    images.length ≤ 8 → (∀ x ∈ images, x.storable g slot) →
    entry.length = 16 → (∀ w ∈ entry, w < 65536) → target < 4294967296 → g.inWindow target 32 = true →
    (target + 32 ≤ slot ∨ slot + 616 ≤ target) → m.read16 slot ≠ 1 →
    let fill := fillWrites slot images target entry
    let whole := commitWrites slot images target entry
    let left := m.apply (whole.take n)
    (n ≤ fill.length →
      replayWrites g left slot = .ok [] ∧ ∀ a, a < slot ∨ slot + 616 ≤ a → left.read8 a = m.read8 a) ∧
    (fill.length < n →
      ∃ ws, replayWrites g left slot = .ok ws ∧ ∀ a, (left.apply ws).read8 a = (m.apply whole).read8 a)

/-! ## Calendar -/

/-- R119, R120, R124, with the open days of R117, the searches of R118 and the deadline of R127: the due day of a day loan, the
first open day of 32 from the loan period's end, with LIMITED when there is none and with the expiry clamp; the fine of an
overdue day loan by its open days; and the pickup deadline. R121, R122, R125: the due stamp of an hour loan, its open minutes
walked over 15 days at most, rounded to 15 minutes within the day, with LIMITED when they do not suffice and with the expiry
clamp; and the fine of an overdue hour loan by its started open hours. R116: the entries a transaction takes from the rules: the
class map by an item number's first two digits, the policy entry by item class and borrower class, the loan, hold and fine-block
limits by borrower class and holds allowed by item class, a class above its range taken as the highest (R66); and the due stamp goes by the kind DAYS or HOURS. That a clamp to a closed day carries CLAMPED without LIMITED, and that an hour loan
that is clamped keeps the LIMITED of its walk, are the model's choices (log entries 33, 29). -/
def Obligations.DaysAreCounted : Prop :=
  (∀ (r : Rules) (st : Stamp) (period expiry : Nat),
    let hours (d : Nat) : DayHours := r.weekly.getD ((d + 5) % 7) { openMinute := 0, closeMinute := 0 }
    let first := min (st.day + period) 65535
    let firstOpen : Nat → Prop := fun d =>
      first ≤ d ∧ d ≤ first + 31 ∧ d ≤ 65535 ∧ r.isOpen d = true ∧ ∀ x, first ≤ x → x < d → r.isOpen x = false
    let noneOpen := ∀ x, first ≤ x → x ≤ first + 31 → x ≤ 65535 → r.isOpen x = false
    let due : Nat → Bool → Bool → Prop := fun day clamped limited =>
      r.dueDays st period expiry
        = { due := { day := day, minute := 1439 }
            flags := { hourLoan := false, clamped := clamped, limited := limited, renewed := false, holdFulfilled := false } }
    let settles : Nat → Bool → Prop := fun candidate limited =>
      (expiry < st.day ∨ candidate ≤ expiry → due candidate false limited) ∧
      (∀ e, st.day ≤ expiry → expiry < candidate → st.day ≤ e → e ≤ expiry → r.isOpen e = true →
        (∀ x, e < x → x ≤ expiry → r.isOpen x = false) → due e true limited) ∧
      (st.day ≤ expiry → expiry < candidate → (∀ x, st.day ≤ x → x ≤ expiry → r.isOpen x = false) →
        due expiry true limited)
    (∀ d, r.isOpen d = true ↔
      (hours d).openMinute < (hours d).closeMinute ∧
        ¬ (r.baseDay ≤ d ∧ d ≤ r.baseDay + 511 ∧ r.closedSet.getLsbD (d - r.baseDay) = true)) ∧
    (∀ d, firstOpen d → settles d false ∧ r.pickupDeadline st.day period = d) ∧
    (noneOpen → settles first true ∧ r.pickupDeadline st.day period = first) ∧
    (∀ (p : PolicyEntry) (loan : Stamp),
      let overdue := ((List.range (st.day - loan.day)).filter fun i => r.isOpen (loan.day + 1 + i)).length
      (loan.day < st.day ∨ (loan.day = st.day ∧ loan.minute < st.minute) →
        r.fine p false loan st = min ((overdue - p.grace) * p.fineRate) p.fineCap) ∧
      (¬ (loan.day < st.day ∨ (loan.day = st.day ∧ loan.minute < st.minute)) → r.fine p false loan st = 0))) ∧
  (∀ (r : Rules) (st : Stamp) (period expiry : Nat), 1 ≤ period → st.day ≤ 65535 →
    let hours (d : Nat) : DayHours := r.weekly.getD ((d + 5) % 7) { openMinute := 0, closeMinute := 0 }
    let start (d : Nat) : Nat := if d = st.day then max st.minute (hours d).openMinute else (hours d).openMinute
    let gives (d : Nat) : Nat := if r.isOpen d then (hours d).closeMinute - start d else 0
    let before (d : Nat) : Nat := ((List.range (d - st.day)).map fun i => gives (st.day + i)).sum
    let last := min (st.day + 14) 65535
    let due : Stamp → Bool → Bool → Prop := fun x clamped limited =>
      r.dueHours st period expiry
        = { due := x
            flags := { hourLoan := true, clamped := clamped, limited := limited, renewed := false, holdFulfilled := false } }
    let qualifies : Nat → Prop := fun e =>
      st.day ≤ e ∧ e ≤ expiry ∧ r.isOpen e = true ∧ (st.day < e ∨ st.minute < (hours e).closeMinute)
    let settles : Stamp → Bool → Prop := fun x limited =>
      (expiry < st.day ∨ x.day ≤ expiry → due x false limited) ∧
      (∀ e, st.day ≤ expiry → expiry < x.day → qualifies e → (∀ y, e < y → ¬ qualifies y) →
        due { day := e, minute := (hours e).closeMinute } true limited) ∧
      (st.day ≤ expiry → expiry < x.day → (∀ y, ¬ qualifies y) → due { day := expiry, minute := 1439 } true true)
    (∀ d, st.day ≤ d → d ≤ last → before d < period * 60 → period * 60 ≤ before d + gives d →
      settles { day := d, minute := min ((start d + (period * 60 - before d) + 14) / 15 * 15) (hours d).closeMinute } false) ∧
    (before (last + 1) < period * 60 → settles { day := last, minute := 1439 } true) ∧
    (∀ (p : PolicyEntry) (loan : Stamp),
      let minutes : Nat → Nat := fun d =>
        if r.isOpen d then
          min (hours d).closeMinute (if d = st.day then st.minute else 1440)
            - max (hours d).openMinute (if d = loan.day then loan.minute else 0)
        else 0
      let counted := ((List.range (st.day - loan.day + 1)).map fun i => minutes (loan.day + i)).sum
      let overdue := loan.day < st.day ∨ (loan.day = st.day ∧ loan.minute < st.minute)
      (overdue → loan.day + 14 < st.day → r.fine p true loan st = p.fineCap) ∧
      (overdue → st.day ≤ loan.day + 14 →
        r.fine p true loan st = min (((counted + 59) / 60 - p.grace) * p.fineRate) p.fineCap) ∧
      (¬ overdue → r.fine p true loan st = 0))) ∧
  (∀ (r : Rules) (number itemClass borrowerClass : Nat),
    (∀ c, r.classMap[number / 100000000]? = some c → r.classOfNumber number = c) ∧
    (∀ p, r.policy[8 * min itemClass 15 + min borrowerClass 7]? = some p → r.policyEntry itemClass borrowerClass = p) ∧
    (∀ k, r.classes[min borrowerClass 7]? = some k → r.borrowerClass borrowerClass = k) ∧
    (∀ h, r.holdsAllowed[min itemClass 15]? = some h → r.allowsHolds itemClass = h)) ∧
  (∀ (r : Rules) (p : PolicyEntry) (st : Stamp) (expiry : Nat),
    (p.kind = .days → r.dueStamp p st expiry = r.dueDays st p.period expiry) ∧
    (p.kind = .hours → r.dueStamp p st expiry = r.dueHours st p.period expiry))

/-! ## The line's frames and the printer -/

/-- R162 to R167: what is sent is received. R165: the CRC register starts at 0xFFFF and takes each octet most significant bit
first, by the polynomial x^16 + x^12 + x^5 + 1; nine octets give the manual's check value. The levels of an octet, sampled in
the middle of each bit, give the octet with no error mark; the octets of a frame whose payload has at most 1040 bytes, taken
from HUNTING, give the good frame with its kind, its length and its first 16 payload octets. An octet completed with room in the
holding queue joins it, one completed while it holds four is lost and marks a frame in progress OVERRUN, and one whose start bit
is rejected leaves it alone. R163: every octet, by its samples: a start bit read high is rejected; else each bit is the majority
of its three samples, a stop bit read low is FRAMING, and a parity bit that disagrees with the data is PARITY. R166: HUNTING
takes nothing but an unmarked 0xA5; inside a frame a FRAMING or PARITY mark, a length above 1040, found at its second octet, and
a CRC that does not match each make the frame faulty. R167, R206: the octets of the frames the part sends, field by field: OPEN
is kind 0x01 with the branch, the start day, the start minute, the cut sequence and the pages to send; PAGE is kind 0x02 with the
first sequence, the entry count and the entries as their bytes lie in desk memory; CLOSE is kind 0x03 with the last sequence;
each field with its low octet first. R161: an octet is read with the parity in force when it began, before the
changes of the setting that came since. The octets taken by the end of a step, the samples and the number of changes are
operands of the model (log entries 10, 11). -/
def Obligations.SentFramesAreReceived : Prop :=
  (let feed : BitVec 16 → Bool → BitVec 16 := fun c bit =>
     if c.getLsbD 15 = bit then c <<< 1 else (c <<< 1) ^^^ BitVec.ofNat 16 (2 ^ 12 + 2 ^ 5 + 1)
   crcOf [] = 0xFFFF#16 ∧
   (∀ (bs : List Byte) (b : Byte),
     crcOf (bs ++ [b])
       = [b.getLsbD 7, b.getLsbD 6, b.getLsbD 5, b.getLsbD 4, b.getLsbD 3, b.getLsbD 2, b.getLsbD 1, b.getLsbD 0].foldl feed
           (crcOf bs)) ∧
   crcOf [0x31, 0x32, 0x33, 0x34, 0x35, 0x36, 0x37, 0x38, 0x39] = 0x29B1#16) ∧
  (∀ (p : Parity) (b : Byte),
    sampleOctet p ((octetLevels p b).map fun high => if high then 7#3 else 0#3)
      = some { octet := b, framing := false, parity := false }) ∧
  (∀ (p : Parity) (bits : List (BitVec 3)),
    let high : Nat → Bool := fun i => decide (2 ≤ ((List.range 3).filter fun k => (bits.getD i 7#3).getLsbD k).length)
    let ones := ((List.range 9).filter fun i => high (i + 1)).length
    let stop := if p = .none then 9 else 10
    (high 0 = true → sampleOctet p bits = none) ∧
    (high 0 = false → ∃ o, sampleOctet p bits = some o ∧ (∀ i, i < 8 → o.octet.getLsbD i = high (i + 1)) ∧
      o.framing = !high stop ∧ (p = .none → o.parity = false) ∧
      (p = .even → o.parity = decide (ones % 2 = 1)) ∧ (p = .odd → o.parity = decide (ones % 2 = 0)))) ∧
  (∀ (o : RxOctet),
    (¬ (o.octet = 0xA5#8 ∧ o.framing = false ∧ o.parity = false) → FrameReceiver.hunting.take o = .hunting) ∧
    (o.framing = true ∨ o.parity = true → ∀ p, (FrameReceiver.inside p).take o = .faulty)) ∧
  (∀ (kind low high : Byte), 1040 < low.toNat + 256 * high.toNat →
    [0xA5#8, kind, low, high].foldl (fun r b => r.take { octet := b, framing := false, parity := false })
      FrameReceiver.hunting = .faulty) ∧
  (∀ (kind : Byte) (payload : List Byte) (c1 c2 : Byte), payload.length ≤ 1040 →
    let body := kind :: BitVec.ofNat 8 payload.length :: BitVec.ofNat 8 (payload.length / 256) :: payload
    ¬ (c1 = (crcOf body >>> 8).setWidth 8 ∧ c2 = (crcOf body).setWidth 8) →
    (0xA5#8 :: body ++ [c1, c2]).foldl (fun r b => r.take { octet := b, framing := false, parity := false })
      FrameReceiver.hunting = .faulty) ∧
  (∀ (kind : Byte) (payload : List Byte), payload.length ≤ 1040 →
    let body := kind :: BitVec.ofNat 8 payload.length :: BitVec.ofNat 8 (payload.length / 256) :: payload
    let crc := crcOf body
    let octets := 0xA5#8 :: body ++ [(crc >>> 8).setWidth 8, crc.setWidth 8]
    octets.foldl (fun r b => r.take { octet := b, framing := false, parity := false }) FrameReceiver.hunting
      = .good { kind := kind, length := payload.length, payload := payload.take 16 }) ∧
  (∀ (m : Memory),
    let octet : Nat → Nat → Byte := fun n k => BitVec.ofNat 8 (n / 256 ^ k)
    let framed : Byte → Nat → List Byte → List Byte := fun kind length payload =>
      let body := kind :: octet length 0 :: octet length 1 :: payload
      0xA5#8 :: body ++ [(crcOf body >>> 8).setWidth 8, (crcOf body).setWidth 8]
    (∀ branch startDay startMinute cut pages,
      (PartFrame.opening branch startDay startMinute cut pages).octets m
        = framed 0x01#8 12
            [octet branch 0, octet branch 1, octet startDay 0, octet startDay 1, octet startMinute 0, octet startMinute 1,
             octet cut 0, octet cut 1, octet cut 2, octet cut 3, octet pages 0, octet pages 1]) ∧
    (∀ address first count,
      (PartFrame.page address first count).octets m
        = framed 0x02#8 (6 + 32 * count)
            ([octet first 0, octet first 1, octet first 2, octet first 3, octet count 0, octet count 1] ++
              (List.range (32 * count)).map fun i => m.read8 (address + i))) ∧
    (∀ last,
      (PartFrame.closing last).octets m
        = framed 0x03#8 4 [octet last 0, octet last 1, octet last 2, octet last 3])) ∧
  (∀ (s : State) (bits : List (BitVec 3)) (changes taken : Nat),
    let parity := if changes = 0 then s.settings.parity
      else s.line.pastParity.getD (min changes s.line.pastParity.length - 1) s.settings.parity
    (∀ o, sampleOctet parity bits = some o → s.line.queue.length < 4 →
      exec (.octetReceived { bits := bits, changes := changes } taken) s = .next (s.withLine
        (Line.takeOctets { s.line with waitHigh := o.framing, pastParity := [], queue := s.line.queue ++ [o] } taken))) ∧
    (∀ o, sampleOctet parity bits = some o → 4 ≤ s.line.queue.length →
      let marked : FrameReceiver := match s.line.receiver with
        | .inside p => .inside { p with overrun := true }
        | r => r
      exec (.octetReceived { bits := bits, changes := changes } taken) s = .next (s.withLine
        (Line.takeOctets { s.line with waitHigh := o.framing, pastParity := [], receiver := marked } taken))) ∧
    (sampleOctet parity bits = none →
      exec (.octetReceived { bits := bits, changes := changes } taken) s
        = .next (s.withLine (Line.takeOctets { s.line with waitHigh := false, pastParity := [] } taken))))

/-- R183 to R191, with the dates of R128 and R129: the printer. The renderer completes the next dot line in the EMPTY buffer whose
turn it is; a READY line is latched and struck, or with no paper the printer stops; a line fed counts, and the last of a slip
completes it. A restart counts no slip printed but one whose last dot line is being struck, and none lost without a request
that finds the queue full: by a session that can close, an order, or a transaction that has committed. The text lines of each kind of slip, and a
date as printed, by the calendar from 1 January 2000. That a line rendered ahead for the next slip is kept (log entry 28,
deduced), that printing starts again with buffer 0 (log entry 36), the record of the head's dots (log entry 35), and what a
restart finds begun (log entry 7), are the model's. -/
def Obligations.DotLinesArePrinted : Prop :=
  (∀ (s : State),
    let p := s.printer
    (∀ slip, p.queue[p.composer.slip]? = some slip → p.state = .printing → (p.buffers.get p.renderNext).state = .empty →
      let n := p.composer.line
      let k := (slip.lines s.settings).length
      let inText := 8 ≤ n ∧ n < 8 + 28 * k
      let text := if inText ∧ (n - 8) % 28 = 0 then (slip.lines s.settings).getD ((n - 8) / 28) [] else p.composer.text
      let glyph : Nat → Nat := fun c => s.geometry.font + ((if 32 ≤ c ∧ c ≤ 127 then c else 63) - 32) * 48 + 2 * ((n - 8) % 28)
      let bytes := if inText ∧ (n - 8) % 28 < 24 then text.flatMap fun c => [s.mem.read8 (glyph c), s.mem.read8 (glyph c + 1)]
        else List.replicate 48 0
      exec .dotLineRendered s = .next (s.withPrinter
        { p with
          buffers := p.buffers.set p.renderNext { state := .ready, bytes := bytes }, renderNext := p.renderNext + 1
          composer := if n + 1 < 8 + 28 * k + 64 then { slip := p.composer.slip, line := n + 1, text := text }
            else { slip := p.composer.slip + 1, line := 0, text := [] } })) ∧
    (p.state = .printing → p.strobe = none → (p.buffers.get p.printNext).state = .ready →
      (p.paper = true →
        exec .dotLineStart s = .next (s.withPrinter
          { p with
            head := (p.buffers.get p.printNext).bytes.flatMap fun b =>
              [b.getLsbD 7, b.getLsbD 6, b.getLsbD 5, b.getLsbD 4, b.getLsbD 3, b.getLsbD 2, b.getLsbD 1, b.getLsbD 0]
            buffers := p.buffers.set p.printNext { state := .empty, bytes := List.replicate 48 0 }
            printNext := p.printNext + 1, strobe := some s.settings.strobeWidth, step := none })) ∧
      (p.paper = false →
        exec .dotLineStart s = .next ((s.withPrinter
          { p with
            state := .paperOut, composer := { slip := 0, line := 0, text := [] }
            buffers := Vector.replicate 2 { state := .empty, bytes := List.replicate 48 0 }
            renderNext := 0, printNext := 0, fed := 0, paperTimer := none, step := none }).raise .printerStopped))) ∧
    (∀ slip rest, p.state = .printing → p.strobe ≠ none → p.queue = slip :: rest →
      let total := 8 + 28 * (slip.lines s.settings).length + 64
      let fed := { p with strobe := none, step := some s.settings.stepPeriod, fed := p.fed + 1 }
      (p.fed + 1 < total → exec .dotLineFed s = .next (s.withPrinter fed)) ∧
      (total ≤ p.fed + 1 →
        let counted := (s.withPrinter fed).countPrinter 0x64
        (rest ≠ [] →
          exec .dotLineFed s = .next ((counted.withPrinter
            { fed with queue := rest, fed := 0, composer := { p.composer with slip := p.composer.slip - 1 } }).raise
              .slipPrinted)) ∧
        (rest = [] →
          exec .dotLineFed s = .next ((counted.withPrinter
            { fed with
              queue := [], state := .idle, fed := 0, composer := { slip := 0, line := 0, text := [] }
              buffers := Vector.replicate 2 { state := .empty, bytes := List.replicate 48 0 }
              renderNext := 0, printNext := 0, paperTimer := none }).raise .slipPrinted)))) ∧
    (∀ high, high ≠ p.paper →
      (p.state = .paperOut ∧ high = true →
        exec (.paperSensorChange high) s = .next (s.withPrinter { p with paper := high, paperTimer := some 2000 })) ∧
      (¬ (p.state = .paperOut ∧ high = true) →
        exec (.paperSensorChange high) s = .next (s.withPrinter { p with paper := high, paperTimer := none }))) ∧
    (p.state = .paperOut → p.paperTimer ≠ none →
      exec .paperTimerExpire s = .next (s.withPrinter
        { p with
          state := .printing, composer := { slip := 0, line := 0, text := [] }
          buffers := Vector.replicate 2 { state := .empty, bytes := List.replicate 48 0 }
          renderNext := 0, printNext := 0, fed := 0, paperTimer := none })) ∧
    (∀ n, p.state ≠ .printing ∨ p.strobe = none ∨
        (∀ slip, p.queue.head? = some slip → p.fed + 1 < 8 + 28 * (slip.lines s.settings).length + 64) →
      s.interrupt [(.count .slipsPrinted, n)] = s) ∧
    (∀ n,
      p.queue.length < 16 ∨
        ((∀ i : Fin 4, let t := s.station i
          t.deadline = none ∨ t.slot ≠ none ∨ t.inFlight ≠ none ∨ t.session = none ∨ t.items = [] ∨
            s.settings.slipFlags.getLsbD i.val = false) ∧
          s.orderAt kindSetStationMode .flight = none ∧ s.orderAt kindPrintText .owner = none) →
      s.interrupt [(.count .slipsLost, n)] = s ∧
        (∀ t q k, s.engaged t → planTxn s t = q → q.fault = none → k < (q.writes s).length →
          s.interrupt [(.engine, k), (.count .slipsLost, n)] = s.interrupt [(.engine, k)]))) ∧
  (∀ (t : Settings) (slip : Slip),
    let codes : String → List Nat := fun x => x.toList.map Char.toNat
    let digits : Nat → Nat → List Nat := fun w n => (List.range w).map fun i => 48 + n / 10 ^ (w - 1 - i) % 10
    let date : Nat → List Nat := fun day => printDate t.dateOrder t.separator (some day)
    let time : Nat → List Nat := fun minute => digits 2 (minute / 60) ++ codes ":" ++ digits 2 (minute % 60)
    let filled : List Nat → List Nat := fun l =>
      ((l ++ List.replicate 24 32).take 24).map fun c => if 32 ≤ c ∧ c ≤ 127 then c else 63
    let station : Nat := match slip.station with
      | some i => 48 + i.val
      | none => 45
    let stamped : List Nat := match slip.stamp with
      | some st => date st.day ++ codes " " ++ time st.minute
      | none => printDate t.dateOrder t.separator none ++ codes " --:--"
    let first : List (List Nat) := [t.header1, t.header2, stamped ++ codes "      S" ++ [station]]
    let masked : Nat → List Nat := fun n => codes "****" ++ digits 4 n
    let entry : SessionItem → List (List Nat) := fun e =>
      [digits 10 e.item ++ codes " " ++ date e.due.day]
        ++ (if e.flags.hourLoan = true then [codes "DUE " ++ time e.due.minute] else [])
        ++ (if e.flags.renewed = true ∧ e.flags.clamped = true then [codes "RENEWED CLAMPED"]
            else if e.flags.renewed = true then [codes "RENEWED"]
            else if e.flags.clamped = true then [codes "CLAMPED"] else [])
    let count := slip.entries.length
    let item : List Nat := digits 10 ((slip.entries.head?.map SessionItem.item).getD 0)
    (slip.kind = .dueDate →
      slip.lines t
        = (first ++ [codes "BORROWER " ++ masked slip.borrower] ++ (slip.entries.map entry).flatten
            ++ [codes "ITEMS " ++ digits (if count < 10 then 1 else 2) count, t.footer]).map filled) ∧
    (slip.kind = .hold →
      slip.lines t
        = (first ++ [codes "HOLD FOR " ++ masked slip.holdBorrower, item, codes "PICK UP BY " ++ date slip.deadline,
            t.footer]).map filled) ∧
    (slip.kind = .reshelve → slip.lines t = (first ++ [codes "RESHELVE", item, t.footer]).map filled) ∧
    (slip.kind = .text → slip.lines t = (first ++ slip.text ++ [t.footer]).map filled)) ∧
  (∀ (o : DateOrder) (separator y month d : Nat),
    let leap : Nat → Prop := fun x => x % 4 = 0 ∧ (x % 100 ≠ 0 ∨ x % 400 = 0)
    let months : List Nat := [31, if leap y then 29 else 28, 31, 30, 31, 30, 31, 31, 30, 31, 30, 31]
    let day := ((List.range (y - 2000)).map fun i => if leap (2000 + i) then 366 else 365).sum
      + (months.take (month - 1)).sum + (d - 1)
    let digits : Nat → Nat → List Nat := fun w n => (List.range w).map fun i => 48 + n / 10 ^ (w - 1 - i) % 10
    let between := [if 32 ≤ separator ∧ separator ≤ 127 then separator else 63]
    let inOrder : List Nat → List Nat → List Nat → List Nat := fun dd mm yyyy => match o with
      | .dmy => dd ++ between ++ mm ++ between ++ yyyy
      | .mdy => mm ++ between ++ dd ++ between ++ yyyy
      | .ymd => yyyy ++ between ++ mm ++ between ++ dd
    printDate o separator none = inOrder [45, 45] [45, 45] [45, 45, 45, 45] ∧
    (2000 ≤ y → 1 ≤ month → month ≤ 12 → 1 ≤ d → d ≤ months.getD (month - 1) 0 → day ≤ 65535 →
      printDate o separator (some day) = inOrder (digits 2 d) (digits 2 month) (digits 4 y)))

/-! ## Invariants -/

/-- The machine after reset is sound and quiet: it meets the invariants that every step keeps. -/
def Obligations.ResetIsSoundAndQuiet : Prop :=
  State.reset.sound ∧ State.reset.quiet

/-- Every step from a sound state leaves a sound state: memory in canonical form, every channel, station, setting, clock field and
queue within its range, the engine BUSY exactly with a transaction, the printer IDLE exactly with an empty queue. The
canonical form of memory is the model's (log entry 4). -/
def Obligations.StepsKeepTheStateSound : Prop :=
  ∀ s t : State, s.sound → step s = .next t → t.sound

/-- R194, R195: every step from a quiet state leaves a quiet state: while the desk is UNANCHORED or ANCHORING the engine, the
sweep, the journal view, the upload, the executor's list, the printer's queue and the stations are as a restart leaves them. -/
def Obligations.StepsKeepADeskQuiet : Prop :=
  ∀ s t : State, s.quiet → step s = .next t → t.quiet

/-- R194: while the desk is UNANCHORED and quiet, no command reads or writes desk memory: with any other memory each command does
the same, and memory stays as it was. -/
def Obligations.UnanchoredDeskIsBlind : Prop :=
  ∀ (c : Instr) (s : State) (m : Memory), s.quiet → s.desk.state = .unanchored →
    ∃ t, exec c s = .next t ∧ t.mem = s.mem ∧ exec c (s.withMem m) = .next (t.withMem m)
end

