-- ==== Sys2Proof/Laws/State.lean ====
section
/-! SUPPORT. One lemma for each field of the state under each named update, and the two updates of one member of a vector. They
hold by `rfl` and carry `simp`, so that no later proof unfolds a record update. -/

namespace Sys2Proof.Machine

variable (s : State)

/-! ## `withPending` -/

@[simp] theorem State.withPending_pending (v : List Instr) : (s.withPending v).pending = v := rfl
@[simp] theorem State.withPending_choices (v : List Instr) : (s.withPending v).choices = s.choices := rfl
@[simp] theorem State.withPending_mem (v : List Instr) : (s.withPending v).mem = s.mem := rfl
@[simp] theorem State.withPending_desk (v : List Instr) : (s.withPending v).desk = s.desk := rfl
@[simp] theorem State.withPending_geometry (v : List Instr) : (s.withPending v).geometry = s.geometry := rfl
@[simp] theorem State.withPending_settings (v : List Instr) : (s.withPending v).settings = s.settings := rfl
@[simp] theorem State.withPending_rules (v : List Instr) : (s.withPending v).rules = s.rules := rfl
@[simp] theorem State.withPending_clock (v : List Instr) : (s.withPending v).clock = s.clock := rfl
@[simp] theorem State.withPending_notices (v : List Instr) : (s.withPending v).notices = s.notices := rfl
@[simp] theorem State.withPending_channels (v : List Instr) : (s.withPending v).channels = s.channels := rfl
@[simp] theorem State.withPending_stations (v : List Instr) : (s.withPending v).stations = s.stations := rfl
@[simp] theorem State.withPending_writer (v : List Instr) : (s.withPending v).writer = s.writer := rfl
@[simp] theorem State.withPending_engine (v : List Instr) : (s.withPending v).engine = s.engine := rfl
@[simp] theorem State.withPending_sweep (v : List Instr) : (s.withPending v).sweep = s.sweep := rfl
@[simp] theorem State.withPending_journal (v : List Instr) : (s.withPending v).journal = s.journal := rfl
@[simp] theorem State.withPending_executor (v : List Instr) : (s.withPending v).executor = s.executor := rfl
@[simp] theorem State.withPending_upload (v : List Instr) : (s.withPending v).upload = s.upload := rfl
@[simp] theorem State.withPending_line (v : List Instr) : (s.withPending v).line = s.line := rfl
@[simp] theorem State.withPending_printer (v : List Instr) : (s.withPending v).printer = s.printer := rfl

/-! ## `withChoices` -/

@[simp] theorem State.withChoices_pending (v : Nat) : (s.withChoices v).pending = s.pending := rfl
@[simp] theorem State.withChoices_choices (v : Nat) : (s.withChoices v).choices = v := rfl
@[simp] theorem State.withChoices_mem (v : Nat) : (s.withChoices v).mem = s.mem := rfl
@[simp] theorem State.withChoices_desk (v : Nat) : (s.withChoices v).desk = s.desk := rfl
@[simp] theorem State.withChoices_geometry (v : Nat) : (s.withChoices v).geometry = s.geometry := rfl
@[simp] theorem State.withChoices_settings (v : Nat) : (s.withChoices v).settings = s.settings := rfl
@[simp] theorem State.withChoices_rules (v : Nat) : (s.withChoices v).rules = s.rules := rfl
@[simp] theorem State.withChoices_clock (v : Nat) : (s.withChoices v).clock = s.clock := rfl
@[simp] theorem State.withChoices_notices (v : Nat) : (s.withChoices v).notices = s.notices := rfl
@[simp] theorem State.withChoices_channels (v : Nat) : (s.withChoices v).channels = s.channels := rfl
@[simp] theorem State.withChoices_stations (v : Nat) : (s.withChoices v).stations = s.stations := rfl
@[simp] theorem State.withChoices_writer (v : Nat) : (s.withChoices v).writer = s.writer := rfl
@[simp] theorem State.withChoices_engine (v : Nat) : (s.withChoices v).engine = s.engine := rfl
@[simp] theorem State.withChoices_sweep (v : Nat) : (s.withChoices v).sweep = s.sweep := rfl
@[simp] theorem State.withChoices_journal (v : Nat) : (s.withChoices v).journal = s.journal := rfl
@[simp] theorem State.withChoices_executor (v : Nat) : (s.withChoices v).executor = s.executor := rfl
@[simp] theorem State.withChoices_upload (v : Nat) : (s.withChoices v).upload = s.upload := rfl
@[simp] theorem State.withChoices_line (v : Nat) : (s.withChoices v).line = s.line := rfl
@[simp] theorem State.withChoices_printer (v : Nat) : (s.withChoices v).printer = s.printer := rfl

/-! ## `withMem` -/

@[simp] theorem State.withMem_pending (v : Memory) : (s.withMem v).pending = s.pending := rfl
@[simp] theorem State.withMem_choices (v : Memory) : (s.withMem v).choices = s.choices := rfl
@[simp] theorem State.withMem_mem (v : Memory) : (s.withMem v).mem = v := rfl
@[simp] theorem State.withMem_desk (v : Memory) : (s.withMem v).desk = s.desk := rfl
@[simp] theorem State.withMem_geometry (v : Memory) : (s.withMem v).geometry = s.geometry := rfl
@[simp] theorem State.withMem_settings (v : Memory) : (s.withMem v).settings = s.settings := rfl
@[simp] theorem State.withMem_rules (v : Memory) : (s.withMem v).rules = s.rules := rfl
@[simp] theorem State.withMem_clock (v : Memory) : (s.withMem v).clock = s.clock := rfl
@[simp] theorem State.withMem_notices (v : Memory) : (s.withMem v).notices = s.notices := rfl
@[simp] theorem State.withMem_channels (v : Memory) : (s.withMem v).channels = s.channels := rfl
@[simp] theorem State.withMem_stations (v : Memory) : (s.withMem v).stations = s.stations := rfl
@[simp] theorem State.withMem_writer (v : Memory) : (s.withMem v).writer = s.writer := rfl
@[simp] theorem State.withMem_engine (v : Memory) : (s.withMem v).engine = s.engine := rfl
@[simp] theorem State.withMem_sweep (v : Memory) : (s.withMem v).sweep = s.sweep := rfl
@[simp] theorem State.withMem_journal (v : Memory) : (s.withMem v).journal = s.journal := rfl
@[simp] theorem State.withMem_executor (v : Memory) : (s.withMem v).executor = s.executor := rfl
@[simp] theorem State.withMem_upload (v : Memory) : (s.withMem v).upload = s.upload := rfl
@[simp] theorem State.withMem_line (v : Memory) : (s.withMem v).line = s.line := rfl
@[simp] theorem State.withMem_printer (v : Memory) : (s.withMem v).printer = s.printer := rfl

/-! ## `withDesk` -/

@[simp] theorem State.withDesk_pending (v : Desk) : (s.withDesk v).pending = s.pending := rfl
@[simp] theorem State.withDesk_choices (v : Desk) : (s.withDesk v).choices = s.choices := rfl
@[simp] theorem State.withDesk_mem (v : Desk) : (s.withDesk v).mem = s.mem := rfl
@[simp] theorem State.withDesk_desk (v : Desk) : (s.withDesk v).desk = v := rfl
@[simp] theorem State.withDesk_geometry (v : Desk) : (s.withDesk v).geometry = s.geometry := rfl
@[simp] theorem State.withDesk_settings (v : Desk) : (s.withDesk v).settings = s.settings := rfl
@[simp] theorem State.withDesk_rules (v : Desk) : (s.withDesk v).rules = s.rules := rfl
@[simp] theorem State.withDesk_clock (v : Desk) : (s.withDesk v).clock = s.clock := rfl
@[simp] theorem State.withDesk_notices (v : Desk) : (s.withDesk v).notices = s.notices := rfl
@[simp] theorem State.withDesk_channels (v : Desk) : (s.withDesk v).channels = s.channels := rfl
@[simp] theorem State.withDesk_stations (v : Desk) : (s.withDesk v).stations = s.stations := rfl
@[simp] theorem State.withDesk_writer (v : Desk) : (s.withDesk v).writer = s.writer := rfl
@[simp] theorem State.withDesk_engine (v : Desk) : (s.withDesk v).engine = s.engine := rfl
@[simp] theorem State.withDesk_sweep (v : Desk) : (s.withDesk v).sweep = s.sweep := rfl
@[simp] theorem State.withDesk_journal (v : Desk) : (s.withDesk v).journal = s.journal := rfl
@[simp] theorem State.withDesk_executor (v : Desk) : (s.withDesk v).executor = s.executor := rfl
@[simp] theorem State.withDesk_upload (v : Desk) : (s.withDesk v).upload = s.upload := rfl
@[simp] theorem State.withDesk_line (v : Desk) : (s.withDesk v).line = s.line := rfl
@[simp] theorem State.withDesk_printer (v : Desk) : (s.withDesk v).printer = s.printer := rfl

/-! ## `withGeometry` -/

@[simp] theorem State.withGeometry_pending (v : Geometry) : (s.withGeometry v).pending = s.pending := rfl
@[simp] theorem State.withGeometry_choices (v : Geometry) : (s.withGeometry v).choices = s.choices := rfl
@[simp] theorem State.withGeometry_mem (v : Geometry) : (s.withGeometry v).mem = s.mem := rfl
@[simp] theorem State.withGeometry_desk (v : Geometry) : (s.withGeometry v).desk = s.desk := rfl
@[simp] theorem State.withGeometry_geometry (v : Geometry) : (s.withGeometry v).geometry = v := rfl
@[simp] theorem State.withGeometry_settings (v : Geometry) : (s.withGeometry v).settings = s.settings := rfl
@[simp] theorem State.withGeometry_rules (v : Geometry) : (s.withGeometry v).rules = s.rules := rfl
@[simp] theorem State.withGeometry_clock (v : Geometry) : (s.withGeometry v).clock = s.clock := rfl
@[simp] theorem State.withGeometry_notices (v : Geometry) : (s.withGeometry v).notices = s.notices := rfl
@[simp] theorem State.withGeometry_channels (v : Geometry) : (s.withGeometry v).channels = s.channels := rfl
@[simp] theorem State.withGeometry_stations (v : Geometry) : (s.withGeometry v).stations = s.stations := rfl
@[simp] theorem State.withGeometry_writer (v : Geometry) : (s.withGeometry v).writer = s.writer := rfl
@[simp] theorem State.withGeometry_engine (v : Geometry) : (s.withGeometry v).engine = s.engine := rfl
@[simp] theorem State.withGeometry_sweep (v : Geometry) : (s.withGeometry v).sweep = s.sweep := rfl
@[simp] theorem State.withGeometry_journal (v : Geometry) : (s.withGeometry v).journal = s.journal := rfl
@[simp] theorem State.withGeometry_executor (v : Geometry) : (s.withGeometry v).executor = s.executor := rfl
@[simp] theorem State.withGeometry_upload (v : Geometry) : (s.withGeometry v).upload = s.upload := rfl
@[simp] theorem State.withGeometry_line (v : Geometry) : (s.withGeometry v).line = s.line := rfl
@[simp] theorem State.withGeometry_printer (v : Geometry) : (s.withGeometry v).printer = s.printer := rfl

/-! ## `withSettings` -/

@[simp] theorem State.withSettings_pending (v : Settings) : (s.withSettings v).pending = s.pending := rfl
@[simp] theorem State.withSettings_choices (v : Settings) : (s.withSettings v).choices = s.choices := rfl
@[simp] theorem State.withSettings_mem (v : Settings) : (s.withSettings v).mem = s.mem := rfl
@[simp] theorem State.withSettings_desk (v : Settings) : (s.withSettings v).desk = s.desk := rfl
@[simp] theorem State.withSettings_geometry (v : Settings) : (s.withSettings v).geometry = s.geometry := rfl
@[simp] theorem State.withSettings_settings (v : Settings) : (s.withSettings v).settings = v := rfl
@[simp] theorem State.withSettings_rules (v : Settings) : (s.withSettings v).rules = s.rules := rfl
@[simp] theorem State.withSettings_clock (v : Settings) : (s.withSettings v).clock = s.clock := rfl
@[simp] theorem State.withSettings_notices (v : Settings) : (s.withSettings v).notices = s.notices := rfl
@[simp] theorem State.withSettings_channels (v : Settings) : (s.withSettings v).channels = s.channels := rfl
@[simp] theorem State.withSettings_stations (v : Settings) : (s.withSettings v).stations = s.stations := rfl
@[simp] theorem State.withSettings_writer (v : Settings) : (s.withSettings v).writer = s.writer := rfl
@[simp] theorem State.withSettings_engine (v : Settings) : (s.withSettings v).engine = s.engine := rfl
@[simp] theorem State.withSettings_sweep (v : Settings) : (s.withSettings v).sweep = s.sweep := rfl
@[simp] theorem State.withSettings_journal (v : Settings) : (s.withSettings v).journal = s.journal := rfl
@[simp] theorem State.withSettings_executor (v : Settings) : (s.withSettings v).executor = s.executor := rfl
@[simp] theorem State.withSettings_upload (v : Settings) : (s.withSettings v).upload = s.upload := rfl
@[simp] theorem State.withSettings_line (v : Settings) : (s.withSettings v).line = s.line := rfl
@[simp] theorem State.withSettings_printer (v : Settings) : (s.withSettings v).printer = s.printer := rfl

/-! ## `withRules` -/

@[simp] theorem State.withRules_pending (v : Rules) : (s.withRules v).pending = s.pending := rfl
@[simp] theorem State.withRules_choices (v : Rules) : (s.withRules v).choices = s.choices := rfl
@[simp] theorem State.withRules_mem (v : Rules) : (s.withRules v).mem = s.mem := rfl
@[simp] theorem State.withRules_desk (v : Rules) : (s.withRules v).desk = s.desk := rfl
@[simp] theorem State.withRules_geometry (v : Rules) : (s.withRules v).geometry = s.geometry := rfl
@[simp] theorem State.withRules_settings (v : Rules) : (s.withRules v).settings = s.settings := rfl
@[simp] theorem State.withRules_rules (v : Rules) : (s.withRules v).rules = v := rfl
@[simp] theorem State.withRules_clock (v : Rules) : (s.withRules v).clock = s.clock := rfl
@[simp] theorem State.withRules_notices (v : Rules) : (s.withRules v).notices = s.notices := rfl
@[simp] theorem State.withRules_channels (v : Rules) : (s.withRules v).channels = s.channels := rfl
@[simp] theorem State.withRules_stations (v : Rules) : (s.withRules v).stations = s.stations := rfl
@[simp] theorem State.withRules_writer (v : Rules) : (s.withRules v).writer = s.writer := rfl
@[simp] theorem State.withRules_engine (v : Rules) : (s.withRules v).engine = s.engine := rfl
@[simp] theorem State.withRules_sweep (v : Rules) : (s.withRules v).sweep = s.sweep := rfl
@[simp] theorem State.withRules_journal (v : Rules) : (s.withRules v).journal = s.journal := rfl
@[simp] theorem State.withRules_executor (v : Rules) : (s.withRules v).executor = s.executor := rfl
@[simp] theorem State.withRules_upload (v : Rules) : (s.withRules v).upload = s.upload := rfl
@[simp] theorem State.withRules_line (v : Rules) : (s.withRules v).line = s.line := rfl
@[simp] theorem State.withRules_printer (v : Rules) : (s.withRules v).printer = s.printer := rfl

/-! ## `withClock` -/

@[simp] theorem State.withClock_pending (v : Clock) : (s.withClock v).pending = s.pending := rfl
@[simp] theorem State.withClock_choices (v : Clock) : (s.withClock v).choices = s.choices := rfl
@[simp] theorem State.withClock_mem (v : Clock) : (s.withClock v).mem = s.mem := rfl
@[simp] theorem State.withClock_desk (v : Clock) : (s.withClock v).desk = s.desk := rfl
@[simp] theorem State.withClock_geometry (v : Clock) : (s.withClock v).geometry = s.geometry := rfl
@[simp] theorem State.withClock_settings (v : Clock) : (s.withClock v).settings = s.settings := rfl
@[simp] theorem State.withClock_rules (v : Clock) : (s.withClock v).rules = s.rules := rfl
@[simp] theorem State.withClock_clock (v : Clock) : (s.withClock v).clock = v := rfl
@[simp] theorem State.withClock_notices (v : Clock) : (s.withClock v).notices = s.notices := rfl
@[simp] theorem State.withClock_channels (v : Clock) : (s.withClock v).channels = s.channels := rfl
@[simp] theorem State.withClock_stations (v : Clock) : (s.withClock v).stations = s.stations := rfl
@[simp] theorem State.withClock_writer (v : Clock) : (s.withClock v).writer = s.writer := rfl
@[simp] theorem State.withClock_engine (v : Clock) : (s.withClock v).engine = s.engine := rfl
@[simp] theorem State.withClock_sweep (v : Clock) : (s.withClock v).sweep = s.sweep := rfl
@[simp] theorem State.withClock_journal (v : Clock) : (s.withClock v).journal = s.journal := rfl
@[simp] theorem State.withClock_executor (v : Clock) : (s.withClock v).executor = s.executor := rfl
@[simp] theorem State.withClock_upload (v : Clock) : (s.withClock v).upload = s.upload := rfl
@[simp] theorem State.withClock_line (v : Clock) : (s.withClock v).line = s.line := rfl
@[simp] theorem State.withClock_printer (v : Clock) : (s.withClock v).printer = s.printer := rfl

/-! ## `withNotices` -/

@[simp] theorem State.withNotices_pending (v : NoticeUnit) : (s.withNotices v).pending = s.pending := rfl
@[simp] theorem State.withNotices_choices (v : NoticeUnit) : (s.withNotices v).choices = s.choices := rfl
@[simp] theorem State.withNotices_mem (v : NoticeUnit) : (s.withNotices v).mem = s.mem := rfl
@[simp] theorem State.withNotices_desk (v : NoticeUnit) : (s.withNotices v).desk = s.desk := rfl
@[simp] theorem State.withNotices_geometry (v : NoticeUnit) : (s.withNotices v).geometry = s.geometry := rfl
@[simp] theorem State.withNotices_settings (v : NoticeUnit) : (s.withNotices v).settings = s.settings := rfl
@[simp] theorem State.withNotices_rules (v : NoticeUnit) : (s.withNotices v).rules = s.rules := rfl
@[simp] theorem State.withNotices_clock (v : NoticeUnit) : (s.withNotices v).clock = s.clock := rfl
@[simp] theorem State.withNotices_notices (v : NoticeUnit) : (s.withNotices v).notices = v := rfl
@[simp] theorem State.withNotices_channels (v : NoticeUnit) : (s.withNotices v).channels = s.channels := rfl
@[simp] theorem State.withNotices_stations (v : NoticeUnit) : (s.withNotices v).stations = s.stations := rfl
@[simp] theorem State.withNotices_writer (v : NoticeUnit) : (s.withNotices v).writer = s.writer := rfl
@[simp] theorem State.withNotices_engine (v : NoticeUnit) : (s.withNotices v).engine = s.engine := rfl
@[simp] theorem State.withNotices_sweep (v : NoticeUnit) : (s.withNotices v).sweep = s.sweep := rfl
@[simp] theorem State.withNotices_journal (v : NoticeUnit) : (s.withNotices v).journal = s.journal := rfl
@[simp] theorem State.withNotices_executor (v : NoticeUnit) : (s.withNotices v).executor = s.executor := rfl
@[simp] theorem State.withNotices_upload (v : NoticeUnit) : (s.withNotices v).upload = s.upload := rfl
@[simp] theorem State.withNotices_line (v : NoticeUnit) : (s.withNotices v).line = s.line := rfl
@[simp] theorem State.withNotices_printer (v : NoticeUnit) : (s.withNotices v).printer = s.printer := rfl

/-! ## `withChannels` -/

@[simp] theorem State.withChannels_pending (v : Vector Channel 4) : (s.withChannels v).pending = s.pending := rfl
@[simp] theorem State.withChannels_choices (v : Vector Channel 4) : (s.withChannels v).choices = s.choices := rfl
@[simp] theorem State.withChannels_mem (v : Vector Channel 4) : (s.withChannels v).mem = s.mem := rfl
@[simp] theorem State.withChannels_desk (v : Vector Channel 4) : (s.withChannels v).desk = s.desk := rfl
@[simp] theorem State.withChannels_geometry (v : Vector Channel 4) : (s.withChannels v).geometry = s.geometry := rfl
@[simp] theorem State.withChannels_settings (v : Vector Channel 4) : (s.withChannels v).settings = s.settings := rfl
@[simp] theorem State.withChannels_rules (v : Vector Channel 4) : (s.withChannels v).rules = s.rules := rfl
@[simp] theorem State.withChannels_clock (v : Vector Channel 4) : (s.withChannels v).clock = s.clock := rfl
@[simp] theorem State.withChannels_notices (v : Vector Channel 4) : (s.withChannels v).notices = s.notices := rfl
@[simp] theorem State.withChannels_channels (v : Vector Channel 4) : (s.withChannels v).channels = v := rfl
@[simp] theorem State.withChannels_stations (v : Vector Channel 4) : (s.withChannels v).stations = s.stations := rfl
@[simp] theorem State.withChannels_writer (v : Vector Channel 4) : (s.withChannels v).writer = s.writer := rfl
@[simp] theorem State.withChannels_engine (v : Vector Channel 4) : (s.withChannels v).engine = s.engine := rfl
@[simp] theorem State.withChannels_sweep (v : Vector Channel 4) : (s.withChannels v).sweep = s.sweep := rfl
@[simp] theorem State.withChannels_journal (v : Vector Channel 4) : (s.withChannels v).journal = s.journal := rfl
@[simp] theorem State.withChannels_executor (v : Vector Channel 4) : (s.withChannels v).executor = s.executor := rfl
@[simp] theorem State.withChannels_upload (v : Vector Channel 4) : (s.withChannels v).upload = s.upload := rfl
@[simp] theorem State.withChannels_line (v : Vector Channel 4) : (s.withChannels v).line = s.line := rfl
@[simp] theorem State.withChannels_printer (v : Vector Channel 4) : (s.withChannels v).printer = s.printer := rfl

/-! ## `withStations` -/

@[simp] theorem State.withStations_pending (v : Vector Station 4) : (s.withStations v).pending = s.pending := rfl
@[simp] theorem State.withStations_choices (v : Vector Station 4) : (s.withStations v).choices = s.choices := rfl
@[simp] theorem State.withStations_mem (v : Vector Station 4) : (s.withStations v).mem = s.mem := rfl
@[simp] theorem State.withStations_desk (v : Vector Station 4) : (s.withStations v).desk = s.desk := rfl
@[simp] theorem State.withStations_geometry (v : Vector Station 4) : (s.withStations v).geometry = s.geometry := rfl
@[simp] theorem State.withStations_settings (v : Vector Station 4) : (s.withStations v).settings = s.settings := rfl
@[simp] theorem State.withStations_rules (v : Vector Station 4) : (s.withStations v).rules = s.rules := rfl
@[simp] theorem State.withStations_clock (v : Vector Station 4) : (s.withStations v).clock = s.clock := rfl
@[simp] theorem State.withStations_notices (v : Vector Station 4) : (s.withStations v).notices = s.notices := rfl
@[simp] theorem State.withStations_channels (v : Vector Station 4) : (s.withStations v).channels = s.channels := rfl
@[simp] theorem State.withStations_stations (v : Vector Station 4) : (s.withStations v).stations = v := rfl
@[simp] theorem State.withStations_writer (v : Vector Station 4) : (s.withStations v).writer = s.writer := rfl
@[simp] theorem State.withStations_engine (v : Vector Station 4) : (s.withStations v).engine = s.engine := rfl
@[simp] theorem State.withStations_sweep (v : Vector Station 4) : (s.withStations v).sweep = s.sweep := rfl
@[simp] theorem State.withStations_journal (v : Vector Station 4) : (s.withStations v).journal = s.journal := rfl
@[simp] theorem State.withStations_executor (v : Vector Station 4) : (s.withStations v).executor = s.executor := rfl
@[simp] theorem State.withStations_upload (v : Vector Station 4) : (s.withStations v).upload = s.upload := rfl
@[simp] theorem State.withStations_line (v : Vector Station 4) : (s.withStations v).line = s.line := rfl
@[simp] theorem State.withStations_printer (v : Vector Station 4) : (s.withStations v).printer = s.printer := rfl

/-! ## `withWriter` -/

@[simp] theorem State.withWriter_pending (v : SlateWriter) : (s.withWriter v).pending = s.pending := rfl
@[simp] theorem State.withWriter_choices (v : SlateWriter) : (s.withWriter v).choices = s.choices := rfl
@[simp] theorem State.withWriter_mem (v : SlateWriter) : (s.withWriter v).mem = s.mem := rfl
@[simp] theorem State.withWriter_desk (v : SlateWriter) : (s.withWriter v).desk = s.desk := rfl
@[simp] theorem State.withWriter_geometry (v : SlateWriter) : (s.withWriter v).geometry = s.geometry := rfl
@[simp] theorem State.withWriter_settings (v : SlateWriter) : (s.withWriter v).settings = s.settings := rfl
@[simp] theorem State.withWriter_rules (v : SlateWriter) : (s.withWriter v).rules = s.rules := rfl
@[simp] theorem State.withWriter_clock (v : SlateWriter) : (s.withWriter v).clock = s.clock := rfl
@[simp] theorem State.withWriter_notices (v : SlateWriter) : (s.withWriter v).notices = s.notices := rfl
@[simp] theorem State.withWriter_channels (v : SlateWriter) : (s.withWriter v).channels = s.channels := rfl
@[simp] theorem State.withWriter_stations (v : SlateWriter) : (s.withWriter v).stations = s.stations := rfl
@[simp] theorem State.withWriter_writer (v : SlateWriter) : (s.withWriter v).writer = v := rfl
@[simp] theorem State.withWriter_engine (v : SlateWriter) : (s.withWriter v).engine = s.engine := rfl
@[simp] theorem State.withWriter_sweep (v : SlateWriter) : (s.withWriter v).sweep = s.sweep := rfl
@[simp] theorem State.withWriter_journal (v : SlateWriter) : (s.withWriter v).journal = s.journal := rfl
@[simp] theorem State.withWriter_executor (v : SlateWriter) : (s.withWriter v).executor = s.executor := rfl
@[simp] theorem State.withWriter_upload (v : SlateWriter) : (s.withWriter v).upload = s.upload := rfl
@[simp] theorem State.withWriter_line (v : SlateWriter) : (s.withWriter v).line = s.line := rfl
@[simp] theorem State.withWriter_printer (v : SlateWriter) : (s.withWriter v).printer = s.printer := rfl

/-! ## `withEngine` -/

@[simp] theorem State.withEngine_pending (v : Engine) : (s.withEngine v).pending = s.pending := rfl
@[simp] theorem State.withEngine_choices (v : Engine) : (s.withEngine v).choices = s.choices := rfl
@[simp] theorem State.withEngine_mem (v : Engine) : (s.withEngine v).mem = s.mem := rfl
@[simp] theorem State.withEngine_desk (v : Engine) : (s.withEngine v).desk = s.desk := rfl
@[simp] theorem State.withEngine_geometry (v : Engine) : (s.withEngine v).geometry = s.geometry := rfl
@[simp] theorem State.withEngine_settings (v : Engine) : (s.withEngine v).settings = s.settings := rfl
@[simp] theorem State.withEngine_rules (v : Engine) : (s.withEngine v).rules = s.rules := rfl
@[simp] theorem State.withEngine_clock (v : Engine) : (s.withEngine v).clock = s.clock := rfl
@[simp] theorem State.withEngine_notices (v : Engine) : (s.withEngine v).notices = s.notices := rfl
@[simp] theorem State.withEngine_channels (v : Engine) : (s.withEngine v).channels = s.channels := rfl
@[simp] theorem State.withEngine_stations (v : Engine) : (s.withEngine v).stations = s.stations := rfl
@[simp] theorem State.withEngine_writer (v : Engine) : (s.withEngine v).writer = s.writer := rfl
@[simp] theorem State.withEngine_engine (v : Engine) : (s.withEngine v).engine = v := rfl
@[simp] theorem State.withEngine_sweep (v : Engine) : (s.withEngine v).sweep = s.sweep := rfl
@[simp] theorem State.withEngine_journal (v : Engine) : (s.withEngine v).journal = s.journal := rfl
@[simp] theorem State.withEngine_executor (v : Engine) : (s.withEngine v).executor = s.executor := rfl
@[simp] theorem State.withEngine_upload (v : Engine) : (s.withEngine v).upload = s.upload := rfl
@[simp] theorem State.withEngine_line (v : Engine) : (s.withEngine v).line = s.line := rfl
@[simp] theorem State.withEngine_printer (v : Engine) : (s.withEngine v).printer = s.printer := rfl

/-! ## `withSweep` -/

@[simp] theorem State.withSweep_pending (v : Sweep) : (s.withSweep v).pending = s.pending := rfl
@[simp] theorem State.withSweep_choices (v : Sweep) : (s.withSweep v).choices = s.choices := rfl
@[simp] theorem State.withSweep_mem (v : Sweep) : (s.withSweep v).mem = s.mem := rfl
@[simp] theorem State.withSweep_desk (v : Sweep) : (s.withSweep v).desk = s.desk := rfl
@[simp] theorem State.withSweep_geometry (v : Sweep) : (s.withSweep v).geometry = s.geometry := rfl
@[simp] theorem State.withSweep_settings (v : Sweep) : (s.withSweep v).settings = s.settings := rfl
@[simp] theorem State.withSweep_rules (v : Sweep) : (s.withSweep v).rules = s.rules := rfl
@[simp] theorem State.withSweep_clock (v : Sweep) : (s.withSweep v).clock = s.clock := rfl
@[simp] theorem State.withSweep_notices (v : Sweep) : (s.withSweep v).notices = s.notices := rfl
@[simp] theorem State.withSweep_channels (v : Sweep) : (s.withSweep v).channels = s.channels := rfl
@[simp] theorem State.withSweep_stations (v : Sweep) : (s.withSweep v).stations = s.stations := rfl
@[simp] theorem State.withSweep_writer (v : Sweep) : (s.withSweep v).writer = s.writer := rfl
@[simp] theorem State.withSweep_engine (v : Sweep) : (s.withSweep v).engine = s.engine := rfl
@[simp] theorem State.withSweep_sweep (v : Sweep) : (s.withSweep v).sweep = v := rfl
@[simp] theorem State.withSweep_journal (v : Sweep) : (s.withSweep v).journal = s.journal := rfl
@[simp] theorem State.withSweep_executor (v : Sweep) : (s.withSweep v).executor = s.executor := rfl
@[simp] theorem State.withSweep_upload (v : Sweep) : (s.withSweep v).upload = s.upload := rfl
@[simp] theorem State.withSweep_line (v : Sweep) : (s.withSweep v).line = s.line := rfl
@[simp] theorem State.withSweep_printer (v : Sweep) : (s.withSweep v).printer = s.printer := rfl

/-! ## `withJournal` -/

@[simp] theorem State.withJournal_pending (v : Journal) : (s.withJournal v).pending = s.pending := rfl
@[simp] theorem State.withJournal_choices (v : Journal) : (s.withJournal v).choices = s.choices := rfl
@[simp] theorem State.withJournal_mem (v : Journal) : (s.withJournal v).mem = s.mem := rfl
@[simp] theorem State.withJournal_desk (v : Journal) : (s.withJournal v).desk = s.desk := rfl
@[simp] theorem State.withJournal_geometry (v : Journal) : (s.withJournal v).geometry = s.geometry := rfl
@[simp] theorem State.withJournal_settings (v : Journal) : (s.withJournal v).settings = s.settings := rfl
@[simp] theorem State.withJournal_rules (v : Journal) : (s.withJournal v).rules = s.rules := rfl
@[simp] theorem State.withJournal_clock (v : Journal) : (s.withJournal v).clock = s.clock := rfl
@[simp] theorem State.withJournal_notices (v : Journal) : (s.withJournal v).notices = s.notices := rfl
@[simp] theorem State.withJournal_channels (v : Journal) : (s.withJournal v).channels = s.channels := rfl
@[simp] theorem State.withJournal_stations (v : Journal) : (s.withJournal v).stations = s.stations := rfl
@[simp] theorem State.withJournal_writer (v : Journal) : (s.withJournal v).writer = s.writer := rfl
@[simp] theorem State.withJournal_engine (v : Journal) : (s.withJournal v).engine = s.engine := rfl
@[simp] theorem State.withJournal_sweep (v : Journal) : (s.withJournal v).sweep = s.sweep := rfl
@[simp] theorem State.withJournal_journal (v : Journal) : (s.withJournal v).journal = v := rfl
@[simp] theorem State.withJournal_executor (v : Journal) : (s.withJournal v).executor = s.executor := rfl
@[simp] theorem State.withJournal_upload (v : Journal) : (s.withJournal v).upload = s.upload := rfl
@[simp] theorem State.withJournal_line (v : Journal) : (s.withJournal v).line = s.line := rfl
@[simp] theorem State.withJournal_printer (v : Journal) : (s.withJournal v).printer = s.printer := rfl

/-! ## `withExecutor` -/

@[simp] theorem State.withExecutor_pending (v : Executor) : (s.withExecutor v).pending = s.pending := rfl
@[simp] theorem State.withExecutor_choices (v : Executor) : (s.withExecutor v).choices = s.choices := rfl
@[simp] theorem State.withExecutor_mem (v : Executor) : (s.withExecutor v).mem = s.mem := rfl
@[simp] theorem State.withExecutor_desk (v : Executor) : (s.withExecutor v).desk = s.desk := rfl
@[simp] theorem State.withExecutor_geometry (v : Executor) : (s.withExecutor v).geometry = s.geometry := rfl
@[simp] theorem State.withExecutor_settings (v : Executor) : (s.withExecutor v).settings = s.settings := rfl
@[simp] theorem State.withExecutor_rules (v : Executor) : (s.withExecutor v).rules = s.rules := rfl
@[simp] theorem State.withExecutor_clock (v : Executor) : (s.withExecutor v).clock = s.clock := rfl
@[simp] theorem State.withExecutor_notices (v : Executor) : (s.withExecutor v).notices = s.notices := rfl
@[simp] theorem State.withExecutor_channels (v : Executor) : (s.withExecutor v).channels = s.channels := rfl
@[simp] theorem State.withExecutor_stations (v : Executor) : (s.withExecutor v).stations = s.stations := rfl
@[simp] theorem State.withExecutor_writer (v : Executor) : (s.withExecutor v).writer = s.writer := rfl
@[simp] theorem State.withExecutor_engine (v : Executor) : (s.withExecutor v).engine = s.engine := rfl
@[simp] theorem State.withExecutor_sweep (v : Executor) : (s.withExecutor v).sweep = s.sweep := rfl
@[simp] theorem State.withExecutor_journal (v : Executor) : (s.withExecutor v).journal = s.journal := rfl
@[simp] theorem State.withExecutor_executor (v : Executor) : (s.withExecutor v).executor = v := rfl
@[simp] theorem State.withExecutor_upload (v : Executor) : (s.withExecutor v).upload = s.upload := rfl
@[simp] theorem State.withExecutor_line (v : Executor) : (s.withExecutor v).line = s.line := rfl
@[simp] theorem State.withExecutor_printer (v : Executor) : (s.withExecutor v).printer = s.printer := rfl

/-! ## `withUpload` -/

@[simp] theorem State.withUpload_pending (v : Upload) : (s.withUpload v).pending = s.pending := rfl
@[simp] theorem State.withUpload_choices (v : Upload) : (s.withUpload v).choices = s.choices := rfl
@[simp] theorem State.withUpload_mem (v : Upload) : (s.withUpload v).mem = s.mem := rfl
@[simp] theorem State.withUpload_desk (v : Upload) : (s.withUpload v).desk = s.desk := rfl
@[simp] theorem State.withUpload_geometry (v : Upload) : (s.withUpload v).geometry = s.geometry := rfl
@[simp] theorem State.withUpload_settings (v : Upload) : (s.withUpload v).settings = s.settings := rfl
@[simp] theorem State.withUpload_rules (v : Upload) : (s.withUpload v).rules = s.rules := rfl
@[simp] theorem State.withUpload_clock (v : Upload) : (s.withUpload v).clock = s.clock := rfl
@[simp] theorem State.withUpload_notices (v : Upload) : (s.withUpload v).notices = s.notices := rfl
@[simp] theorem State.withUpload_channels (v : Upload) : (s.withUpload v).channels = s.channels := rfl
@[simp] theorem State.withUpload_stations (v : Upload) : (s.withUpload v).stations = s.stations := rfl
@[simp] theorem State.withUpload_writer (v : Upload) : (s.withUpload v).writer = s.writer := rfl
@[simp] theorem State.withUpload_engine (v : Upload) : (s.withUpload v).engine = s.engine := rfl
@[simp] theorem State.withUpload_sweep (v : Upload) : (s.withUpload v).sweep = s.sweep := rfl
@[simp] theorem State.withUpload_journal (v : Upload) : (s.withUpload v).journal = s.journal := rfl
@[simp] theorem State.withUpload_executor (v : Upload) : (s.withUpload v).executor = s.executor := rfl
@[simp] theorem State.withUpload_upload (v : Upload) : (s.withUpload v).upload = v := rfl
@[simp] theorem State.withUpload_line (v : Upload) : (s.withUpload v).line = s.line := rfl
@[simp] theorem State.withUpload_printer (v : Upload) : (s.withUpload v).printer = s.printer := rfl

/-! ## `withLine` -/

@[simp] theorem State.withLine_pending (v : Line) : (s.withLine v).pending = s.pending := rfl
@[simp] theorem State.withLine_choices (v : Line) : (s.withLine v).choices = s.choices := rfl
@[simp] theorem State.withLine_mem (v : Line) : (s.withLine v).mem = s.mem := rfl
@[simp] theorem State.withLine_desk (v : Line) : (s.withLine v).desk = s.desk := rfl
@[simp] theorem State.withLine_geometry (v : Line) : (s.withLine v).geometry = s.geometry := rfl
@[simp] theorem State.withLine_settings (v : Line) : (s.withLine v).settings = s.settings := rfl
@[simp] theorem State.withLine_rules (v : Line) : (s.withLine v).rules = s.rules := rfl
@[simp] theorem State.withLine_clock (v : Line) : (s.withLine v).clock = s.clock := rfl
@[simp] theorem State.withLine_notices (v : Line) : (s.withLine v).notices = s.notices := rfl
@[simp] theorem State.withLine_channels (v : Line) : (s.withLine v).channels = s.channels := rfl
@[simp] theorem State.withLine_stations (v : Line) : (s.withLine v).stations = s.stations := rfl
@[simp] theorem State.withLine_writer (v : Line) : (s.withLine v).writer = s.writer := rfl
@[simp] theorem State.withLine_engine (v : Line) : (s.withLine v).engine = s.engine := rfl
@[simp] theorem State.withLine_sweep (v : Line) : (s.withLine v).sweep = s.sweep := rfl
@[simp] theorem State.withLine_journal (v : Line) : (s.withLine v).journal = s.journal := rfl
@[simp] theorem State.withLine_executor (v : Line) : (s.withLine v).executor = s.executor := rfl
@[simp] theorem State.withLine_upload (v : Line) : (s.withLine v).upload = s.upload := rfl
@[simp] theorem State.withLine_line (v : Line) : (s.withLine v).line = v := rfl
@[simp] theorem State.withLine_printer (v : Line) : (s.withLine v).printer = s.printer := rfl

/-! ## `withPrinter` -/

@[simp] theorem State.withPrinter_pending (v : Printer) : (s.withPrinter v).pending = s.pending := rfl
@[simp] theorem State.withPrinter_choices (v : Printer) : (s.withPrinter v).choices = s.choices := rfl
@[simp] theorem State.withPrinter_mem (v : Printer) : (s.withPrinter v).mem = s.mem := rfl
@[simp] theorem State.withPrinter_desk (v : Printer) : (s.withPrinter v).desk = s.desk := rfl
@[simp] theorem State.withPrinter_geometry (v : Printer) : (s.withPrinter v).geometry = s.geometry := rfl
@[simp] theorem State.withPrinter_settings (v : Printer) : (s.withPrinter v).settings = s.settings := rfl
@[simp] theorem State.withPrinter_rules (v : Printer) : (s.withPrinter v).rules = s.rules := rfl
@[simp] theorem State.withPrinter_clock (v : Printer) : (s.withPrinter v).clock = s.clock := rfl
@[simp] theorem State.withPrinter_notices (v : Printer) : (s.withPrinter v).notices = s.notices := rfl
@[simp] theorem State.withPrinter_channels (v : Printer) : (s.withPrinter v).channels = s.channels := rfl
@[simp] theorem State.withPrinter_stations (v : Printer) : (s.withPrinter v).stations = s.stations := rfl
@[simp] theorem State.withPrinter_writer (v : Printer) : (s.withPrinter v).writer = s.writer := rfl
@[simp] theorem State.withPrinter_engine (v : Printer) : (s.withPrinter v).engine = s.engine := rfl
@[simp] theorem State.withPrinter_sweep (v : Printer) : (s.withPrinter v).sweep = s.sweep := rfl
@[simp] theorem State.withPrinter_journal (v : Printer) : (s.withPrinter v).journal = s.journal := rfl
@[simp] theorem State.withPrinter_executor (v : Printer) : (s.withPrinter v).executor = s.executor := rfl
@[simp] theorem State.withPrinter_upload (v : Printer) : (s.withPrinter v).upload = s.upload := rfl
@[simp] theorem State.withPrinter_line (v : Printer) : (s.withPrinter v).line = s.line := rfl
@[simp] theorem State.withPrinter_printer (v : Printer) : (s.withPrinter v).printer = v := rfl

/-! ## One station, one channel -/

@[simp] theorem State.setStation_pending (i : Fin 4) (v : Station) : (s.setStation i v).pending = s.pending := rfl
@[simp] theorem State.setStation_choices (i : Fin 4) (v : Station) : (s.setStation i v).choices = s.choices := rfl
@[simp] theorem State.setStation_mem (i : Fin 4) (v : Station) : (s.setStation i v).mem = s.mem := rfl
@[simp] theorem State.setStation_desk (i : Fin 4) (v : Station) : (s.setStation i v).desk = s.desk := rfl
@[simp] theorem State.setStation_geometry (i : Fin 4) (v : Station) : (s.setStation i v).geometry = s.geometry := rfl
@[simp] theorem State.setStation_settings (i : Fin 4) (v : Station) : (s.setStation i v).settings = s.settings := rfl
@[simp] theorem State.setStation_rules (i : Fin 4) (v : Station) : (s.setStation i v).rules = s.rules := rfl
@[simp] theorem State.setStation_clock (i : Fin 4) (v : Station) : (s.setStation i v).clock = s.clock := rfl
@[simp] theorem State.setStation_notices (i : Fin 4) (v : Station) : (s.setStation i v).notices = s.notices := rfl
@[simp] theorem State.setStation_channels (i : Fin 4) (v : Station) : (s.setStation i v).channels = s.channels := rfl
@[simp] theorem State.setStation_writer (i : Fin 4) (v : Station) : (s.setStation i v).writer = s.writer := rfl
@[simp] theorem State.setStation_engine (i : Fin 4) (v : Station) : (s.setStation i v).engine = s.engine := rfl
@[simp] theorem State.setStation_sweep (i : Fin 4) (v : Station) : (s.setStation i v).sweep = s.sweep := rfl
@[simp] theorem State.setStation_journal (i : Fin 4) (v : Station) : (s.setStation i v).journal = s.journal := rfl
@[simp] theorem State.setStation_executor (i : Fin 4) (v : Station) : (s.setStation i v).executor = s.executor := rfl
@[simp] theorem State.setStation_upload (i : Fin 4) (v : Station) : (s.setStation i v).upload = s.upload := rfl
@[simp] theorem State.setStation_line (i : Fin 4) (v : Station) : (s.setStation i v).line = s.line := rfl
@[simp] theorem State.setStation_printer (i : Fin 4) (v : Station) : (s.setStation i v).printer = s.printer := rfl

@[simp] theorem State.setChannel_pending (i : Fin 4) (v : Channel) : (s.setChannel i v).pending = s.pending := rfl
@[simp] theorem State.setChannel_choices (i : Fin 4) (v : Channel) : (s.setChannel i v).choices = s.choices := rfl
@[simp] theorem State.setChannel_mem (i : Fin 4) (v : Channel) : (s.setChannel i v).mem = s.mem := rfl
@[simp] theorem State.setChannel_desk (i : Fin 4) (v : Channel) : (s.setChannel i v).desk = s.desk := rfl
@[simp] theorem State.setChannel_geometry (i : Fin 4) (v : Channel) : (s.setChannel i v).geometry = s.geometry := rfl
@[simp] theorem State.setChannel_settings (i : Fin 4) (v : Channel) : (s.setChannel i v).settings = s.settings := rfl
@[simp] theorem State.setChannel_rules (i : Fin 4) (v : Channel) : (s.setChannel i v).rules = s.rules := rfl
@[simp] theorem State.setChannel_clock (i : Fin 4) (v : Channel) : (s.setChannel i v).clock = s.clock := rfl
@[simp] theorem State.setChannel_notices (i : Fin 4) (v : Channel) : (s.setChannel i v).notices = s.notices := rfl
@[simp] theorem State.setChannel_stations (i : Fin 4) (v : Channel) : (s.setChannel i v).stations = s.stations := rfl
@[simp] theorem State.setChannel_writer (i : Fin 4) (v : Channel) : (s.setChannel i v).writer = s.writer := rfl
@[simp] theorem State.setChannel_engine (i : Fin 4) (v : Channel) : (s.setChannel i v).engine = s.engine := rfl
@[simp] theorem State.setChannel_sweep (i : Fin 4) (v : Channel) : (s.setChannel i v).sweep = s.sweep := rfl
@[simp] theorem State.setChannel_journal (i : Fin 4) (v : Channel) : (s.setChannel i v).journal = s.journal := rfl
@[simp] theorem State.setChannel_executor (i : Fin 4) (v : Channel) : (s.setChannel i v).executor = s.executor := rfl
@[simp] theorem State.setChannel_upload (i : Fin 4) (v : Channel) : (s.setChannel i v).upload = s.upload := rfl
@[simp] theorem State.setChannel_line (i : Fin 4) (v : Channel) : (s.setChannel i v).line = s.line := rfl
@[simp] theorem State.setChannel_printer (i : Fin 4) (v : Channel) : (s.setChannel i v).printer = s.printer := rfl

@[simp] theorem State.setStation_station_self (i : Fin 4) (v : Station) : (s.setStation i v).station i = v := by
  simp [State.station, State.setStation, Vector.get_eq_getElem]

theorem State.setStation_station_other (i j : Fin 4) (v : Station) (h : i ≠ j) :
    (s.setStation i v).station j = s.station j := by
  have h' : i.val ≠ j.val := fun e => h (Fin.ext e)
  simp [State.station, State.setStation, Vector.get_eq_getElem, h']

@[simp] theorem State.setChannel_channel_self (i : Fin 4) (v : Channel) : (s.setChannel i v).channel i = v := by
  simp [State.channel, State.setChannel, Vector.get_eq_getElem]

theorem State.setChannel_channel_other (i j : Fin 4) (v : Channel) (h : i ≠ j) :
    (s.setChannel i v).channel j = s.channel j := by
  have h' : i.val ≠ j.val := fun e => h (Fin.ext e)
  simp [State.channel, State.setChannel, Vector.get_eq_getElem, h']

@[simp] theorem State.setStation_channel (i j : Fin 4) (v : Station) : (s.setStation i v).channel j = s.channel j := rfl

@[simp] theorem State.setChannel_station (i j : Fin 4) (v : Channel) : (s.setChannel i v).station j = s.station j := rfl

/-! ## Stations and channels under the other updates -/

@[simp] theorem State.withPending_station (v : List Instr) (i : Fin 4) : (s.withPending v).station i = s.station i := rfl
@[simp] theorem State.withPending_channel (v : List Instr) (i : Fin 4) : (s.withPending v).channel i = s.channel i := rfl
@[simp] theorem State.withMem_station (v : Memory) (i : Fin 4) : (s.withMem v).station i = s.station i := rfl
@[simp] theorem State.withMem_channel (v : Memory) (i : Fin 4) : (s.withMem v).channel i = s.channel i := rfl
@[simp] theorem State.withDesk_station (v : Desk) (i : Fin 4) : (s.withDesk v).station i = s.station i := rfl
@[simp] theorem State.withDesk_channel (v : Desk) (i : Fin 4) : (s.withDesk v).channel i = s.channel i := rfl
@[simp] theorem State.withGeometry_station (v : Geometry) (i : Fin 4) : (s.withGeometry v).station i = s.station i := rfl
@[simp] theorem State.withGeometry_channel (v : Geometry) (i : Fin 4) : (s.withGeometry v).channel i = s.channel i := rfl
@[simp] theorem State.withSettings_station (v : Settings) (i : Fin 4) : (s.withSettings v).station i = s.station i := rfl
@[simp] theorem State.withSettings_channel (v : Settings) (i : Fin 4) : (s.withSettings v).channel i = s.channel i := rfl
@[simp] theorem State.withRules_station (v : Rules) (i : Fin 4) : (s.withRules v).station i = s.station i := rfl
@[simp] theorem State.withRules_channel (v : Rules) (i : Fin 4) : (s.withRules v).channel i = s.channel i := rfl
@[simp] theorem State.withClock_station (v : Clock) (i : Fin 4) : (s.withClock v).station i = s.station i := rfl
@[simp] theorem State.withClock_channel (v : Clock) (i : Fin 4) : (s.withClock v).channel i = s.channel i := rfl
@[simp] theorem State.withNotices_station (v : NoticeUnit) (i : Fin 4) : (s.withNotices v).station i = s.station i := rfl
@[simp] theorem State.withNotices_channel (v : NoticeUnit) (i : Fin 4) : (s.withNotices v).channel i = s.channel i := rfl
@[simp] theorem State.withChannels_station (v : Vector Channel 4) (i : Fin 4) : (s.withChannels v).station i = s.station i := rfl
@[simp] theorem State.withStations_channel (v : Vector Station 4) (i : Fin 4) : (s.withStations v).channel i = s.channel i := rfl
@[simp] theorem State.withWriter_station (v : SlateWriter) (i : Fin 4) : (s.withWriter v).station i = s.station i := rfl
@[simp] theorem State.withWriter_channel (v : SlateWriter) (i : Fin 4) : (s.withWriter v).channel i = s.channel i := rfl
@[simp] theorem State.withEngine_station (v : Engine) (i : Fin 4) : (s.withEngine v).station i = s.station i := rfl
@[simp] theorem State.withEngine_channel (v : Engine) (i : Fin 4) : (s.withEngine v).channel i = s.channel i := rfl
@[simp] theorem State.withSweep_station (v : Sweep) (i : Fin 4) : (s.withSweep v).station i = s.station i := rfl
@[simp] theorem State.withSweep_channel (v : Sweep) (i : Fin 4) : (s.withSweep v).channel i = s.channel i := rfl
@[simp] theorem State.withJournal_station (v : Journal) (i : Fin 4) : (s.withJournal v).station i = s.station i := rfl
@[simp] theorem State.withJournal_channel (v : Journal) (i : Fin 4) : (s.withJournal v).channel i = s.channel i := rfl
@[simp] theorem State.withExecutor_station (v : Executor) (i : Fin 4) : (s.withExecutor v).station i = s.station i := rfl
@[simp] theorem State.withExecutor_channel (v : Executor) (i : Fin 4) : (s.withExecutor v).channel i = s.channel i := rfl
@[simp] theorem State.withUpload_station (v : Upload) (i : Fin 4) : (s.withUpload v).station i = s.station i := rfl
@[simp] theorem State.withUpload_channel (v : Upload) (i : Fin 4) : (s.withUpload v).channel i = s.channel i := rfl
@[simp] theorem State.withLine_station (v : Line) (i : Fin 4) : (s.withLine v).station i = s.station i := rfl
@[simp] theorem State.withLine_channel (v : Line) (i : Fin 4) : (s.withLine v).channel i = s.channel i := rfl
@[simp] theorem State.withPrinter_station (v : Printer) (i : Fin 4) : (s.withPrinter v).station i = s.station i := rfl
@[simp] theorem State.withPrinter_channel (v : Printer) (i : Fin 4) : (s.withPrinter v).channel i = s.channel i := rfl

/-! ## A cause raised, and a run of writes -/

@[simp] theorem State.raise_pending (c : Cause) : (s.raise c).pending = s.pending := rfl
@[simp] theorem State.raise_choices (c : Cause) : (s.raise c).choices = s.choices := rfl
@[simp] theorem State.raise_mem (c : Cause) : (s.raise c).mem = s.mem := rfl
@[simp] theorem State.raise_desk (c : Cause) : (s.raise c).desk = s.desk := rfl
@[simp] theorem State.raise_geometry (c : Cause) : (s.raise c).geometry = s.geometry := rfl
@[simp] theorem State.raise_settings (c : Cause) : (s.raise c).settings = s.settings := rfl
@[simp] theorem State.raise_rules (c : Cause) : (s.raise c).rules = s.rules := rfl
@[simp] theorem State.raise_clock (c : Cause) : (s.raise c).clock = s.clock := rfl
@[simp] theorem State.raise_channels (c : Cause) : (s.raise c).channels = s.channels := rfl
@[simp] theorem State.raise_stations (c : Cause) : (s.raise c).stations = s.stations := rfl
@[simp] theorem State.raise_writer (c : Cause) : (s.raise c).writer = s.writer := rfl
@[simp] theorem State.raise_engine (c : Cause) : (s.raise c).engine = s.engine := rfl
@[simp] theorem State.raise_sweep (c : Cause) : (s.raise c).sweep = s.sweep := rfl
@[simp] theorem State.raise_journal (c : Cause) : (s.raise c).journal = s.journal := rfl
@[simp] theorem State.raise_executor (c : Cause) : (s.raise c).executor = s.executor := rfl
@[simp] theorem State.raise_upload (c : Cause) : (s.raise c).upload = s.upload := rfl
@[simp] theorem State.raise_line (c : Cause) : (s.raise c).line = s.line := rfl
@[simp] theorem State.raise_printer (c : Cause) : (s.raise c).printer = s.printer := rfl

@[simp] theorem State.raiseIf_pending (b : Bool) (c : Cause) : (s.raiseIf b c).pending = s.pending := by cases b <;> rfl
@[simp] theorem State.raiseIf_choices (b : Bool) (c : Cause) : (s.raiseIf b c).choices = s.choices := by cases b <;> rfl
@[simp] theorem State.raiseIf_mem (b : Bool) (c : Cause) : (s.raiseIf b c).mem = s.mem := by cases b <;> rfl
@[simp] theorem State.raiseIf_desk (b : Bool) (c : Cause) : (s.raiseIf b c).desk = s.desk := by cases b <;> rfl
@[simp] theorem State.raiseIf_geometry (b : Bool) (c : Cause) : (s.raiseIf b c).geometry = s.geometry := by cases b <;> rfl
@[simp] theorem State.raiseIf_settings (b : Bool) (c : Cause) : (s.raiseIf b c).settings = s.settings := by cases b <;> rfl
@[simp] theorem State.raiseIf_rules (b : Bool) (c : Cause) : (s.raiseIf b c).rules = s.rules := by cases b <;> rfl
@[simp] theorem State.raiseIf_clock (b : Bool) (c : Cause) : (s.raiseIf b c).clock = s.clock := by cases b <;> rfl
@[simp] theorem State.raiseIf_channels (b : Bool) (c : Cause) : (s.raiseIf b c).channels = s.channels := by cases b <;> rfl
@[simp] theorem State.raiseIf_stations (b : Bool) (c : Cause) : (s.raiseIf b c).stations = s.stations := by cases b <;> rfl
@[simp] theorem State.raiseIf_writer (b : Bool) (c : Cause) : (s.raiseIf b c).writer = s.writer := by cases b <;> rfl
@[simp] theorem State.raiseIf_engine (b : Bool) (c : Cause) : (s.raiseIf b c).engine = s.engine := by cases b <;> rfl
@[simp] theorem State.raiseIf_sweep (b : Bool) (c : Cause) : (s.raiseIf b c).sweep = s.sweep := by cases b <;> rfl
@[simp] theorem State.raiseIf_journal (b : Bool) (c : Cause) : (s.raiseIf b c).journal = s.journal := by cases b <;> rfl
@[simp] theorem State.raiseIf_executor (b : Bool) (c : Cause) : (s.raiseIf b c).executor = s.executor := by cases b <;> rfl
@[simp] theorem State.raiseIf_upload (b : Bool) (c : Cause) : (s.raiseIf b c).upload = s.upload := by cases b <;> rfl
@[simp] theorem State.raiseIf_line (b : Bool) (c : Cause) : (s.raiseIf b c).line = s.line := by cases b <;> rfl
@[simp] theorem State.raiseIf_printer (b : Bool) (c : Cause) : (s.raiseIf b c).printer = s.printer := by cases b <;> rfl

@[simp] theorem State.writeAll_pending (ws : List WordWrite) : (s.writeAll ws).pending = s.pending := rfl
@[simp] theorem State.writeAll_choices (ws : List WordWrite) : (s.writeAll ws).choices = s.choices := rfl
@[simp] theorem State.writeAll_mem (ws : List WordWrite) : (s.writeAll ws).mem = s.mem.apply ws := rfl
@[simp] theorem State.writeAll_desk (ws : List WordWrite) : (s.writeAll ws).desk = s.desk := rfl
@[simp] theorem State.writeAll_geometry (ws : List WordWrite) : (s.writeAll ws).geometry = s.geometry := rfl
@[simp] theorem State.writeAll_settings (ws : List WordWrite) : (s.writeAll ws).settings = s.settings := rfl
@[simp] theorem State.writeAll_rules (ws : List WordWrite) : (s.writeAll ws).rules = s.rules := rfl
@[simp] theorem State.writeAll_clock (ws : List WordWrite) : (s.writeAll ws).clock = s.clock := rfl
@[simp] theorem State.writeAll_notices (ws : List WordWrite) : (s.writeAll ws).notices = s.notices := rfl
@[simp] theorem State.writeAll_channels (ws : List WordWrite) : (s.writeAll ws).channels = s.channels := rfl
@[simp] theorem State.writeAll_stations (ws : List WordWrite) : (s.writeAll ws).stations = s.stations := rfl
@[simp] theorem State.writeAll_writer (ws : List WordWrite) : (s.writeAll ws).writer = s.writer := rfl
@[simp] theorem State.writeAll_engine (ws : List WordWrite) : (s.writeAll ws).engine = s.engine := rfl
@[simp] theorem State.writeAll_sweep (ws : List WordWrite) : (s.writeAll ws).sweep = s.sweep := rfl
@[simp] theorem State.writeAll_journal (ws : List WordWrite) : (s.writeAll ws).journal = s.journal := rfl
@[simp] theorem State.writeAll_executor (ws : List WordWrite) : (s.writeAll ws).executor = s.executor := rfl
@[simp] theorem State.writeAll_upload (ws : List WordWrite) : (s.writeAll ws).upload = s.upload := rfl
@[simp] theorem State.writeAll_line (ws : List WordWrite) : (s.writeAll ws).line = s.line := rfl
@[simp] theorem State.writeAll_printer (ws : List WordWrite) : (s.writeAll ws).printer = s.printer := rfl

@[simp] theorem State.writeGroup_pending (off : Nat) (ws : List WordWrite) : (s.writeGroup off ws).pending = s.pending := rfl
@[simp] theorem State.writeGroup_choices (off : Nat) (ws : List WordWrite) : (s.writeGroup off ws).choices = s.choices := rfl
@[simp] theorem State.writeGroup_desk (off : Nat) (ws : List WordWrite) : (s.writeGroup off ws).desk = s.desk := rfl
@[simp] theorem State.writeGroup_geometry (off : Nat) (ws : List WordWrite) : (s.writeGroup off ws).geometry = s.geometry := rfl
@[simp] theorem State.writeGroup_settings (off : Nat) (ws : List WordWrite) : (s.writeGroup off ws).settings = s.settings := rfl
@[simp] theorem State.writeGroup_rules (off : Nat) (ws : List WordWrite) : (s.writeGroup off ws).rules = s.rules := rfl
@[simp] theorem State.writeGroup_clock (off : Nat) (ws : List WordWrite) : (s.writeGroup off ws).clock = s.clock := rfl
@[simp] theorem State.writeGroup_notices (off : Nat) (ws : List WordWrite) : (s.writeGroup off ws).notices = s.notices := rfl
@[simp] theorem State.writeGroup_channels (off : Nat) (ws : List WordWrite) : (s.writeGroup off ws).channels = s.channels := rfl
@[simp] theorem State.writeGroup_stations (off : Nat) (ws : List WordWrite) : (s.writeGroup off ws).stations = s.stations := rfl
@[simp] theorem State.writeGroup_writer (off : Nat) (ws : List WordWrite) : (s.writeGroup off ws).writer = s.writer := rfl
@[simp] theorem State.writeGroup_engine (off : Nat) (ws : List WordWrite) : (s.writeGroup off ws).engine = s.engine := rfl
@[simp] theorem State.writeGroup_sweep (off : Nat) (ws : List WordWrite) : (s.writeGroup off ws).sweep = s.sweep := rfl
@[simp] theorem State.writeGroup_journal (off : Nat) (ws : List WordWrite) : (s.writeGroup off ws).journal = s.journal := rfl
@[simp] theorem State.writeGroup_executor (off : Nat) (ws : List WordWrite) : (s.writeGroup off ws).executor = s.executor := rfl
@[simp] theorem State.writeGroup_upload (off : Nat) (ws : List WordWrite) : (s.writeGroup off ws).upload = s.upload := rfl
@[simp] theorem State.writeGroup_line (off : Nat) (ws : List WordWrite) : (s.writeGroup off ws).line = s.line := rfl
@[simp] theorem State.writeGroup_printer (off : Nat) (ws : List WordWrite) : (s.writeGroup off ws).printer = s.printer := rfl

end Sys2Proof.Machine
end

