-- ==== Sys2Proof/Laws/Station.lean ====
section
/-! SUPPORT. What the shared operations of the stations, of slips and of orders do: one lemma each, cited instead of unfolding
them. -/

namespace Sys2Proof.Machine

/-! ## Updates of one member -/

@[simp] theorem State.setStation_setStation (s : State) (i : Fin 4) (a b : Station) :
    (s.setStation i a).setStation i b = s.setStation i b := by
  simp [State.setStation, State.withStations]

@[simp] theorem State.setChannel_setChannel (s : State) (i : Fin 4) (a b : Channel) :
    (s.setChannel i a).setChannel i b = s.setChannel i b := by
  simp [State.setChannel, State.withChannels]

theorem State.setChannel_setStation (s : State) (i j : Fin 4) (a : Channel) (b : Station) :
    (s.setChannel i a).setStation j b = (s.setStation j b).setChannel i a := rfl

/-! ## Slip requests (R179) -/

/-- A request with fewer than 16 records in the queue is queued. -/
theorem State.requestSlip_queued (s : State) (x : Slip) (h : s.printer.queue.length < 16) :
    s.requestSlip x = s.withPrinter (s.printer.enqueue x) := by simp [State.requestSlip, h]

/-- A request with 16 records in the queue is counted lost. -/
theorem State.requestSlip_lost (s : State) (x : Slip) (h : 16 ≤ s.printer.queue.length) :
    s.requestSlip x = s.countPrinter offSlipsLost := by simp [State.requestSlip, Nat.not_lt.2 h]

/-- A count of the printer group changes desk memory alone. -/
theorem State.countPrinter_eq (s : State) (off : Nat) : ∃ m, s.countPrinter off = s.withMem m := by
  unfold State.countPrinter
  split
  · exact ⟨_, rfl⟩
  · exact ⟨s.mem, rfl⟩

/-- A slip request changes desk memory and the printer alone. -/
theorem State.requestSlip_eq (s : State) (x : Slip) : ∃ m p, s.requestSlip x = (s.withMem m).withPrinter p := by
  unfold State.requestSlip
  split
  · exact ⟨s.mem, _, rfl⟩
  · obtain ⟨m, hm⟩ := s.countPrinter_eq offSlipsLost
    exact ⟨m, s.printer, by rw [hm]; rfl⟩

theorem State.requestSlip_station (s : State) (x : Slip) (i : Fin 4) : (s.requestSlip x).station i = s.station i := by
  obtain ⟨m, p, h⟩ := s.requestSlip_eq x
  rw [h]; rfl

theorem State.setStation_requestSlip (s : State) (i : Fin 4) (u : Station) (x : Slip) :
    (s.setStation i u).requestSlip x = (s.requestSlip x).setStation i u := by
  by_cases h : s.printer.queue.length < 16
  · rw [State.requestSlip_queued _ _ h, State.requestSlip_queued (s.setStation i u) x h]; rfl
  · rw [State.requestSlip_lost _ _ (Nat.not_lt.1 h), State.requestSlip_lost (s.setStation i u) x (Nat.not_lt.1 h)]
    unfold State.countPrinter
    by_cases ha : s.attached
    · rw [if_pos ha, if_pos (show (s.setStation i u).attached = true from ha)]; rfl
    · rw [if_neg ha, if_neg (show ¬ (s.setStation i u).attached = true from ha)]

/-! ## The outcome buffer (R36) -/

theorem Station.bufferOpen_iff (t : Station) : t.bufferOpen = true ↔ t.bufferTakes := by
  rcases hb : t.buffer with _ | b <;> simp [Station.bufferOpen, Station.bufferTakes, hb, SlateOutcome.isDiscarded]

theorem Station.canEnter_iff (t : Station) : t.canEnter = true ↔ t.entersAtOnce := by
  simp [Station.canEnter, Station.entersAtOnce, Station.bufferOpen_iff]

theorem Station.offer_enters (t : Station) (o : SlateOutcome) (p : Producer) (h : t.entersAtOnce) :
    t.offer o p = { t with buffer := some o } := by
  simp [Station.offer, (Station.canEnter_iff t).2 h]

theorem Station.offer_waits (t : Station) (o : SlateOutcome) (p : Producer) (h : ¬ t.entersAtOnce) :
    t.offer o p = { t with waiting := t.waiting ++ [(o, p)] } := by
  have : t.canEnter = false := by simpa using fun x => h ((Station.canEnter_iff t).1 x)
  simp [Station.offer, this]

theorem Label.discarded_eq (l : Label) (n : Nat) : l.discarded n = discardedOutcome l n := by
  rcases hk : l.kind <;>
    simp [Label.discarded, hk, discardedOutcome, SlateOutcome.bare, Blocks.empty, Stamp.zero]

theorem Station.offerDiscarded_eq (t : Station) (o : SlateOutcome) :
    t.offerDiscarded o = { t with buffer := t.bufferAfterDiscarded o } := by
  rcases t with ⟨a, b, c, d, e, f, g, h, i, j, k, l, m, n⟩
  rcases g with _ | g
  · rfl
  · simp [Station.offerDiscarded, Station.bufferOpen, Station.bufferAfterDiscarded, SlateOutcome.isDiscarded]
    split <;> rfl

/-! ## The close of a session (R31) -/

theorem State.closeSession_prints (s : State) (i : Fin 4) (se : Session) (h : (s.station i).session = some se)
    (hp : s.closePrints i) :
    s.closeSession i = ((s.requestSlip (s.closeSlip i se.number)).setStation i { s.station i with session := none, items := [] },
      decide (16 ≤ s.printer.queue.length)) := by
  have hp' : (s.station i).items ≠ [] ∧ s.settings.slipFlags.getLsbD i.val = true := hp
  simp only [State.closeSession, h, Option.isNone_some, State.requestDueDate, if_pos hp', State.slipLost, dueDateSlip,
    State.reading, State.requestSlip_station]
  rfl

theorem State.closeSession_silent (s : State) (i : Fin 4) (se : Session) (h : (s.station i).session = some se)
    (hp : ¬ s.closePrints i) :
    s.closeSession i = (s.setStation i { s.station i with session := none, items := [] }, false) := by
  have hp' : ¬ ((s.station i).items ≠ [] ∧ s.settings.slipFlags.getLsbD i.val = true) := hp
  simp only [State.closeSession, h, Option.isNone_some, State.requestDueDate, if_neg hp']
  rfl

/-! ## Orders (R200) -/

/-- The order that waits where a step looks for it. -/
theorem State.orderAt_some (s : State) (k : Nat) (w : OrderWait) (o : Order) (h : s.orderAt k w = some o) :
    ∃ t, s.currentOrder = some t ∧ t.order = o ∧ o.kind = k ∧ t.wait = w := by
  unfold State.orderAt at h
  split at h
  · next t ht =>
    split at h
    · next hc =>
      have : t.order = o := by simpa using h
      exact ⟨t, ht, this, this ▸ hc.1, hc.2⟩
    · simp at h
  · simp at h

/-- The end of an order: reason word, result count, outcome word; then the executor is past the block (R200, R201). -/
theorem State.finishOrder_eq (s : State) (r : OrderResult) (l : RunningList) (t : TakenOrder)
    (hl : s.executor.running = some l) (ht : l.current = some t) :
    s.finishOrder r
      = (s.writeAll (r.writes l.address)).withExecutor
          { s.executor with
            running := some
              { l with
                address := l.address + 32
                stopped := l.stopped || (t.order.stopOnRefusal && r.outcome == .refused)
                current := none } } := by
  simp only [State.finishOrder, hl, ht]
  rfl

/-- With no order taken up, there is none to end. -/
theorem State.finishOrder_idle (s : State) (r : OrderResult) (h : s.currentOrder = none) : s.finishOrder r = s := by
  unfold State.finishOrder
  split
  · rfl
  · next l hl =>
    have : l.current = none := by simpa [State.currentOrder, Executor.current, hl] using h
    simp [this]

/-- The end of an order changes desk memory and the executor alone. -/
theorem State.finishOrder_blocks (s : State) (r : OrderResult) :
    ∃ ws e, s.finishOrder r = (s.writeAll ws).withExecutor e := by
  unfold State.finishOrder
  split
  · exact ⟨[], s.executor, rfl⟩
  · split
    · exact ⟨[], s.executor, rfl⟩
    · exact ⟨_, _, rfl⟩

end Sys2Proof.Machine
end

