-- ==== Sys2Proof/Laws/Engine.lean ====
section
/-! SUPPORT. The engine's shared operations: a step of the engine as the conclusion of its plan, the gates of a transaction that
is admitted, and the read phases in the `Except` monad. -/

namespace Sys2Proof.Machine

/-! ## A step of the engine -/

theorem State.engaged_attached {s : State} {t : Txn} (h : s.engaged t) : s.attached = true := by
  rcases h.2.2 with h | h <;> simp [State.attached, h]

/-- An engaged engine carries its transaction out. -/
theorem State.runTxn_engaged {s : State} {t : Txn} (h : s.engaged t) (want : TxnKind → Bool) (plan : State → Txn → Plan)
    (hw : want t.kind = true) : s.runTxn want plan = .next (s.carryOut t (plan s t)) := by
  simp [State.runTxn, State.busyWith, h.1, h.2.1, hw, State.engaged_attached h]

/-- A plan without a fault is concluded. -/
theorem State.carryOut_conclude (s : State) (t : Txn) (p : Plan) (h : p.fault = none) : s.carryOut t p = s.conclude t p := by
  simp [State.carryOut, h]

/-- The step of an engaged engine whose plan is `p`. -/
theorem State.runTxn_plan {s : State} {t : Txn} (h : s.engaged t) (want : TxnKind → Bool) (plan : State → Txn → Plan) (p : Plan)
    (hw : want t.kind = true) (hp : plan s t = p) (hf : p.fault = none) : s.runTxn want plan = .next (s.conclude t p) := by
  rw [State.runTxn_engaged h want plan hw, hp, State.carryOut_conclude _ _ _ hf]

/-! ## Gates -/

theorem Txn.at_admitted {t : Txn} {st : Stamp} {n : Nat} (h : t.admitted st n) : t.at = st := by simp [Txn.at, h.2.1]

theorem Txn.gate_aboveReserve {t : Txn} {st : Stamp} (h : t.admitted st 65) (c : Bool) : t.gate .aboveReserve c = none := by
  have : 64 < t.room := h.2.2
  simp [Txn.gate, h.1, h.2.1, RoomClass.allows, Config.reserve, this]

theorem Txn.gate_one {t : Txn} {st : Stamp} (h : t.admitted st 1) (c : Bool) : t.gate .one c = none := by
  have : 1 ≤ t.room := h.2.2
  simp [Txn.gate, h.1, h.2.1, RoomClass.allows, this]

theorem Txn.gate_none {t : Txn} {st : Stamp} {n : Nat} (h : t.admitted st n) (c : Bool) : t.gate .none c = none := by
  simp [Txn.gate, h.1, h.2.1, RoomClass.allows]

/-! ## The label of a transaction -/

theorem Txn.names_number {t : Txn} {k : LabelKind} {n : Nat} (h : t.names k n) : t.labelNumber = n := by
  obtain ⟨l, h1, _, h3⟩ := h
  simp [Txn.labelNumber, h1, h3]

theorem Txn.marks_eq (t : Txn) : t.labelFlags = t.marks := by
  unfold Txn.labelFlags Txn.marks
  cases t.label <;> rfl

theorem Txn.refuse_item {s : State} {t : Txn} {i : Fin 4} {n : Nat} {se : Session} (h : t.names .item n)
    (hr : t.requester = .station i) (hs : (s.station i).session = some se) (r : Reason) :
    t.refuse s r = stationRefused r se.number n := by
  obtain ⟨l, h1, h2, h3⟩ := h
  simp [Txn.refuse, Txn.refusal, Txn.labelNumber, Txn.stationContext, h1, h2, h3, hr, hs, stationRefused, stationAnswer,
    Plan.only]

theorem Txn.refuse_item_alone {s : State} {t : Txn} {i : Fin 4} {n : Nat} (h : t.names .item n)
    (hr : t.requester = .station i) (hs : (s.station i).session = none) (r : Reason) :
    t.refuse s r = stationRefused r 0 n := by
  obtain ⟨l, h1, h2, h3⟩ := h
  simp [Txn.refuse, Txn.refusal, Txn.labelNumber, Txn.stationContext, h1, h2, h3, hr, hs, stationRefused, stationAnswer,
    Plan.only]

theorem Txn.refuse_borrower {s : State} {t : Txn} {n : Nat} (h : t.names .borrower n) (r : Reason) :
    t.refuse s r = stationRefused r n 0 := by
  obtain ⟨l, h1, h2, h3⟩ := h
  simp [Txn.refuse, Txn.refusal, Txn.labelNumber, h1, h2, h3, stationRefused, stationAnswer, Plan.only]

theorem Txn.session_eq {s : State} {t : Txn} {i : Fin 4} {se : Session} (hr : t.requester = .station i)
    (hs : (s.station i).session = some se) : t.session s = se := by
  simp [Txn.session, Txn.stationContext, hr, hs]

/-! ## Read phases -/

@[simp] theorem planOf_ok (r : TxnResult) (p : Plan) : planOf r (.ok p) = p := rfl

@[simp] theorem planOf_pure (r : TxnResult) (p : Plan) : planOf r (pure p) = p := rfl

/-- A read phase that goes on after an answer. -/
@[simp] theorem Except.ok_bind' {ε α β : Type} (a : α) (f : α → Except ε β) : (Except.ok a >>= f) = f a := rfl

end Sys2Proof.Machine
end

