-- ==== Sys2Proof/Laws/Memory.lean ====
section
/-! SUPPORT. Desk memory: a read after a write, what a run of 16-bit writes leaves alone, the canonical form kept by every
write, runs of bytes and words place by place, and the window test. -/

namespace Sys2Proof.Machine

open Config

/-! ## Reads after writes -/

theorem Memory.read8_of_below (m : Memory) (a : Nat) (h : ∀ c ∈ m, a < c.1) : m.read8 a = blankByte := by
  induction m with
  | nil => rfl
  | cons x m ih =>
    obtain ⟨b, w⟩ := x
    have hb : a < b := h _ (List.mem_cons_self ..)
    simp only [Memory.read8, if_neg (Nat.ne_of_lt hb)]
    exact ih fun c hc => h c (List.mem_cons_of_mem _ hc)

/-- The addresses of a memory in canonical form lie above its first one. -/
theorem Memory.wf_tail_above {b : Nat} {w : Byte} {m : Memory} (h : Memory.wf ((b, w) :: m) = true) :
    ∀ c ∈ m, b < c.1 := by
  induction m generalizing b w with
  | nil => simp
  | cons x m ih =>
    obtain ⟨c, u⟩ := x
    simp only [Memory.wf, Bool.and_eq_true, decide_eq_true_eq] at h
    intro y hy
    rcases List.mem_cons.1 hy with rfl | hy
    · exact h.1.2
    · exact Nat.lt_trans h.1.2 (ih (b := c) (w := u) (by simp [Memory.wf, h.2]) y hy)

theorem Memory.wf_tail {b : Nat} {w : Byte} {m : Memory} (h : Memory.wf ((b, w) :: m) = true) : Memory.wf m = true := by
  simp only [Memory.wf, Bool.and_eq_true] at h
  exact h.2

theorem Memory.read8_write8_other (m : Memory) (a b : Nat) (v : Byte) (h : b ≠ a) :
    (m.write8 a v).read8 b = m.read8 b := by
  induction m with
  | nil => by_cases hv : v = blankByte <;> simp [Memory.write8, Memory.read8, hv, h]
  | cons x m ih =>
    obtain ⟨c, w⟩ := x
    simp only [Memory.write8]
    split
    · split <;> simp [Memory.read8, h]
    · split
      · next hc =>
        subst hc
        split <;> simp [Memory.read8, h]
      · simp only [Memory.read8, ih]

theorem Memory.read8_write8_self (m : Memory) (a : Nat) (v : Byte) (hm : m.wf = true) : (m.write8 a v).read8 a = v := by
  induction m with
  | nil => by_cases hv : v = blankByte <;> simp [Memory.write8, Memory.read8, hv]
  | cons x m ih =>
    obtain ⟨c, w⟩ := x
    simp only [Memory.write8]
    split
    · next hlt =>
      split
      · next hv =>
        rw [hv]
        refine Memory.read8_of_below _ _ fun d hd => ?_
        rcases List.mem_cons.1 hd with rfl | hd
        · exact hlt
        · exact Nat.lt_trans hlt (Memory.wf_tail_above hm d hd)
      · simp [Memory.read8]
    · split
      · next hc =>
        subst hc
        split
        · next hv => rw [hv]; exact Memory.read8_of_below _ _ fun d hd => Memory.wf_tail_above hm d hd
        · simp [Memory.read8]
      · next hc => simp only [Memory.read8, if_neg hc]; exact ih (Memory.wf_tail hm)

/-! ## The canonical form -/

theorem Memory.wf_cons {a : Nat} {v : Byte} {m : Memory} (hv : v ≠ blankByte) (hm : m.wf = true)
    (ha : ∀ c ∈ m, a < c.1) : Memory.wf ((a, v) :: m) = true := by
  cases m with
  | nil => simp [Memory.wf, hv]
  | cons x m =>
    obtain ⟨b, w⟩ := x
    have := ha _ (List.mem_cons_self ..)
    simp only [Memory.wf] at hm ⊢
    simp [hv, this, hm]

theorem Memory.write8_above (m : Memory) (a b : Nat) (v : Byte) (hb : b < a) (h : ∀ c ∈ m, b < c.1) :
    ∀ c ∈ m.write8 a v, b < c.1 := by
  induction m with
  | nil => by_cases hv : v = blankByte <;> simp [Memory.write8, hv, hb]
  | cons x m ih =>
    obtain ⟨d, w⟩ := x
    have hd : b < d := h _ (List.mem_cons_self ..)
    have hm : ∀ c ∈ m, b < c.1 := fun c hc => h c (List.mem_cons_of_mem _ hc)
    intro c hc
    simp only [Memory.write8] at hc
    split at hc
    · split at hc
      · exact h c hc
      · rcases List.mem_cons.1 hc with rfl | hc
        · exact hb
        · exact h c hc
    · split at hc
      · split at hc
        · exact hm c hc
        · rcases List.mem_cons.1 hc with rfl | hc
          · exact hb
          · exact hm c hc
      · rcases List.mem_cons.1 hc with rfl | hc
        · exact hd
        · exact ih hm c hc

theorem Memory.wf_entry {b : Nat} {w : Byte} {m : Memory} (h : Memory.wf ((b, w) :: m) = true) : w ≠ blankByte := by
  simp only [Memory.wf, Bool.and_eq_true, bne_iff_ne, ne_eq] at h
  exact h.1.1

theorem Memory.write8_wf (m : Memory) (a : Nat) (v : Byte) (hm : m.wf = true) : (m.write8 a v).wf = true := by
  induction m with
  | nil => by_cases hv : v = blankByte <;> simp [Memory.write8, Memory.wf, hv]
  | cons x m ih =>
    obtain ⟨b, w⟩ := x
    have above := Memory.wf_tail_above hm
    simp only [Memory.write8]
    split
    · next hlt =>
      split
      · exact hm
      · next hv =>
        refine Memory.wf_cons hv hm fun c hc => ?_
        rcases List.mem_cons.1 hc with rfl | hc
        · exact hlt
        · exact Nat.lt_trans hlt (above c hc)
    · split
      · next hab =>
        split
        · exact Memory.wf_tail hm
        · next hv => exact Memory.wf_cons hv (Memory.wf_tail hm) (hab ▸ above)
      · next hlt hne =>
        refine Memory.wf_cons (Memory.wf_entry hm) (ih (Memory.wf_tail hm)) ?_
        exact Memory.write8_above m a b v (by omega) above

theorem Memory.writeWord_wf (m : Memory) (w : WordWrite) (hm : m.wf = true) : (m.writeWord w).wf = true :=
  Memory.write8_wf _ _ _ (Memory.write8_wf _ _ _ hm)

theorem Memory.apply_wf (m : Memory) (ws : List WordWrite) (hm : m.wf = true) : (m.apply ws).wf = true := by
  induction ws generalizing m with
  | nil => exact hm
  | cons w ws ih => exact ih _ (Memory.writeWord_wf m w hm)

/-- Desk memory before the host has written it is in canonical form. -/
theorem State.reset_mem_wf : State.reset.mem.wf = true := rfl

/-! ## Runs of writes -/

@[simp] theorem Memory.apply_nil (m : Memory) : m.apply [] = m := rfl

theorem Memory.apply_append (m : Memory) (xs ys : List WordWrite) : m.apply (xs ++ ys) = (m.apply xs).apply ys := by
  induction xs generalizing m with
  | nil => rfl
  | cons x xs ih => exact ih _

/-- One 16-bit write changes its own two bytes and no other. -/
theorem Memory.read8_writeWord_other (m : Memory) (w : WordWrite) (a : Nat) (h : a ≠ w.addr) (h' : a ≠ w.addr + 1) :
    (m.writeWord w).read8 a = m.read8 a := by
  rw [Memory.writeWord, Memory.read8_write8_other _ _ _ _ h', Memory.read8_write8_other _ _ _ _ h]

/-- A run of writes leaves every byte outside its words as it was. -/
theorem Memory.read8_apply_other (m : Memory) (ws : List WordWrite) (a : Nat)
    (h : ∀ w ∈ ws, a ≠ w.addr ∧ a ≠ w.addr + 1) : (m.apply ws).read8 a = m.read8 a := by
  induction ws generalizing m with
  | nil => rfl
  | cons w ws ih =>
    have hw := h w (List.mem_cons_self ..)
    rw [Memory.apply, ih _ fun x hx => h x (List.mem_cons_of_mem _ hx), Memory.read8_writeWord_other m w a hw.1 hw.2]

/-- A 16-bit field reads as the word last written to it. -/
theorem Memory.read16_writeWord_self (m : Memory) (w : WordWrite) (hm : m.wf = true) :
    (m.writeWord w).read16 w.addr = w.word % 65536 := by
  have h1 : (m.writeWord w).read8 w.addr = BitVec.ofNat 8 w.word := by
    rw [Memory.writeWord, Memory.read8_write8_other _ _ _ _ (by omega), Memory.read8_write8_self _ _ _ hm]
  have h2 : (m.writeWord w).read8 (w.addr + 1) = BitVec.ofNat 8 (w.word / 256) := by
    rw [Memory.writeWord, Memory.read8_write8_self _ _ _ (Memory.write8_wf _ _ _ hm)]
  rw [Memory.read16, h1, h2, BitVec.toNat_ofNat, BitVec.toNat_ofNat]
  omega

/-- A 16-bit field that shares no byte with a write reads as before. -/
theorem Memory.read16_writeWord_other (m : Memory) (w : WordWrite) (a : Nat) (h : a + 1 < w.addr ∨ w.addr + 1 < a) :
    (m.writeWord w).read16 a = m.read16 a := by
  rw [Memory.read16, Memory.read16, Memory.read8_writeWord_other m w a (by omega) (by omega),
    Memory.read8_writeWord_other m w (a + 1) (by omega) (by omega)]

theorem Memory.read16_apply_other (m : Memory) (ws : List WordWrite) (a : Nat)
    (h : ∀ w ∈ ws, a + 1 < w.addr ∨ w.addr + 1 < a) : (m.apply ws).read16 a = m.read16 a := by
  induction ws generalizing m with
  | nil => rfl
  | cons w ws ih =>
    rw [Memory.apply, ih _ fun x hx => h x (List.mem_cons_of_mem _ hx),
      Memory.read16_writeWord_other m w a (h w (List.mem_cons_self ..))]

/-! ## Runs of bytes and of words, and the window -/

/-- A 16-bit field holds a 16-bit value. -/
theorem Memory.read16_lt (m : Memory) (a : Nat) : m.read16 a < 65536 := by
  have h1 := (m.read8 a).isLt
  have h2 := (m.read8 (a + 1)).isLt
  rw [Memory.read16]
  omega

/-- A run of bytes, place by place. -/
theorem Memory.bytes_eq_map (m : Memory) (a n : Nat) : m.bytes a n = (List.range n).map fun i => m.read8 (a + i) := by
  induction n generalizing a with
  | zero => rfl
  | succ n ih => simp [List.range_succ_eq_map, Memory.bytes, ih, Function.comp_def, Nat.add_assoc, Nat.add_comm 1]

/-- The writes of consecutive words, place by place. -/
theorem putWords_map (a n : Nat) (f : Nat → Nat) (hf : ∀ k, f k < 65536) :
    putWords a ((List.range n).map f) = (List.range n).map fun k => { addr := a + 2 * k, word := f k } := by
  induction n generalizing a f with
  | zero => rfl
  | succ n ih =>
    simp only [List.range_succ_eq_map, List.map_cons, List.map_map, putWords, Nat.mod_eq_of_lt (hf 0),
      ih (a + 2) (f ∘ Nat.succ) fun k => hf _, Nat.mul_zero, Nat.add_zero]
    congr 1
    refine List.map_congr_left fun k _ => ?_
    have h : a + 2 + 2 * k = a + 2 * (k + 1) := by omega
    simp only [Function.comp, Nat.succ_eq_add_one, h]

/-- The window test, as the manual words it (R196). -/
theorem Geometry.inWindow_iff (g : Geometry) (a len : Nat) :
    g.inWindow a len = true ↔ g.windowBase ≤ a ∧ a + len ≤ g.windowBase + 65536 * g.windowUnits := by
  rw [Geometry.inWindow, Bool.and_eq_true, decide_eq_true_eq, decide_eq_true_eq, Geometry.windowEnd, Nat.mul_comm 65536]

end Sys2Proof.Machine
end

