-- ==== Sys2Proof/Laws/Interrupt.lean ====
section
/-! SUPPORT. What a stop of the work in progress can do: desk memory takes the first writes of each work and keeps its canonical
form, and the queue of commands and the ANCHOR register stay. -/

namespace Sys2Proof.Machine

/-- An effect leaves desk memory, the queue of commands and the ANCHOR register as they are. -/
theorem State.effect_keeps (s : State) (e : Effect) :
    (s.effect e).mem = s.mem ∧ (s.effect e).pending = s.pending ∧ (s.effect e).desk.anchor = s.desk.anchor := by
  cases e with
  | clock c => simp only [State.effect, State.setClockAt]; split <;> exact ⟨rfl, rfl, rfl⟩
  | _ => exact ⟨rfl, rfl, rfl⟩

/-- Effects keep them too. -/
theorem State.effectsOf_keep (es : List Effect) (s : State) :
    (es.foldl State.effect s).mem = s.mem ∧ (es.foldl State.effect s).pending = s.pending ∧
      (es.foldl State.effect s).desk.anchor = s.desk.anchor := by
  induction es generalizing s with
  | nil => exact ⟨rfl, rfl, rfl⟩
  | cons e es ih =>
    obtain ⟨h1, h2, h3⟩ := ih (s.effect e)
    obtain ⟨k1, k2, k3⟩ := s.effect_keeps e
    exact ⟨h1.trans k1, h2.trans k2, h3.trans k3⟩

theorem State.effects_keep (es : List (Nat × Effect)) (s : State) :
    let u := es.foldl (fun v e => v.effect e.2) s
    u.mem = s.mem ∧ u.pending = s.pending ∧ u.desk.anchor = s.desk.anchor := by
  induction es generalizing s with
  | nil => exact ⟨rfl, rfl, rfl⟩
  | cons e es ih =>
    obtain ⟨h1, h2, h3⟩ := ih (s.effect e.2)
    obtain ⟨k1, k2, k3⟩ := s.effect_keeps e.2
    exact ⟨h1.trans k1, h2.trans k2, h3.trans k3⟩

/-- What a stopped work leaves of desk memory: its first writes, and nothing else. -/
theorem State.leave_keeps (s : State) (j : Job) (n : Nat) :
    (s.leave j n).mem = s.mem.apply (j.writes.take n) ∧ (s.leave j n).pending = s.pending ∧
      (s.leave j n).desk.anchor = s.desk.anchor :=
  State.effects_keep _ (s.writeAll (j.writes.take n))

/-- Stopped works leave the queue of commands, the ANCHOR register and the canonical form of desk memory as they were. -/
theorem State.leaveEach_keeps (s : State) (made : List Work) (u : State) (works : List (Work × Nat)) :
    (s.leaveEach made u works).pending = u.pending ∧ (s.leaveEach made u works).desk.anchor = u.desk.anchor ∧
      (u.mem.wf = true → (s.leaveEach made u works).mem.wf = true) := by
  induction works generalizing made u with
  | nil => exact ⟨rfl, rfl, id⟩
  | cons x rest ih =>
    simp only [State.leaveEach]
    split
    · obtain ⟨b1, b2, b3⟩ := State.effectsOf_keep (s.broughtBy made x.1) u
      obtain ⟨k1, k2, k3⟩ := ((s.broughtBy made x.1).foldl State.effect u).leave_keeps (u.job x.1) x.2
      obtain ⟨h1, h2, h3⟩ := ih (if (u.job x.1).writes.length ≤ x.2 then x.1 :: made else made)
        (((s.broughtBy made x.1).foldl State.effect u).leave (u.job x.1) x.2)
      exact ⟨h1.trans (k2.trans b2), h2.trans (k3.trans b3),
        fun h => h3 (k1 ▸ Memory.apply_wf _ _ (b1.symm ▸ h))⟩
    · exact ih made u

/-- One work alone: what its step has brought about and its first writes, when it can have begun with no other work whole, and
nothing otherwise. -/
@[simp] theorem State.interrupt_one (s : State) (w : Work) (n : Nat) :
    s.interrupt [(w, n)]
      = if s.begun [] w then ((s.broughtBy [] w).foldl State.effect s).leave (s.job w) n else s := rfl

/-- Only the end of an order comes after effects of its own step. -/
@[simp] theorem State.broughtBy_other (s : State) (made : List Work) (w : Work) (h : ∀ r c, w ≠ .orderFields r c) :
    s.broughtBy made w = [] := by
  cases w <;> first | rfl | exact absurd rfl (h _ _)

/-- The end of an order that its step brings with these values: the rules and settings it has handed over, and its causes. -/
theorem State.broughtBy_orderFields (s : State) (made : List Work) (r : BitVec 16) (c : BitVec 32) (x : StepNow)
    (ha : s.attached = true) (h : s.orderEnd made r.toNat c.toNat = some x) :
    s.broughtBy made (.orderFields r c) = [.rules x.2.rules, .settings x.2.settings, .causes x.2.notices.flags] := by
  simp only [State.broughtBy, ha, if_true, h]

/-- The end of an order has begun when a step that can come now ends it with these values and the works of that step are whole. -/
theorem State.begun_orderFields (s : State) (made : List Work) (r : BitVec 16) (c : BitVec 32) :
    s.begun made (.orderFields r c)
      = ((s.ordersNow.filter fun x => s.endsOrder x.2 r.toNat c.toNat).map Prod.fst).any fun b =>
          b.all fun w => made.contains w := rfl

/-- A step that changes nothing ends no order. -/
@[simp] theorem State.endsOrder_self (s : State) (r c : Nat) : s.endsOrder s r c = false := by
  cases h : s.executor.running <;> simp [State.endsOrder, h]

@[simp] theorem State.begun_engine (s : State) (made : List Work) : s.begun made .engine = true := rfl

@[simp] theorem State.begun_slateOutcome (s : State) (made : List Work) : s.begun made .slateOutcome = true := rfl

@[simp] theorem State.begun_freedPages (s : State) (made : List Work) : s.begun made .freedPages = true := rfl

/-- A work that no step in progress has, has not begun. -/
theorem State.begun_of_no_step (s : State) (made : List Work) (w : Work) (h : s.stepsOf w = []) : s.begun made w = false := by
  simp [State.begun, h]

@[simp] theorem State.interrupt_none (s : State) : s.interrupt [] = s := rfl

/-- A restart finds the queue of commands, the ANCHOR register and the canonical form of desk memory as they were. -/
theorem State.interrupt_keeps (s : State) (stopped : List (Work × Nat)) :
    (s.interrupt stopped).pending = s.pending ∧ (s.interrupt stopped).desk.anchor = s.desk.anchor ∧
      (s.mem.wf = true → (s.interrupt stopped).mem.wf = true) :=
  s.leaveEach_keeps [] s _

end Sys2Proof.Machine
end

