-- ==== Sys2Proof/Laws/Reports.lean ====
section
/-! SUPPORT. The tables under a report's entries (R202): an entry written changes desk memory alone, and the entries found so far,
written one by one as they are found, leave what `reportWrites` leaves. -/

namespace Sys2Proof.Machine

@[simp] theorem Draft.record_mem (d : Draft) (a n : Nat) (e : List Nat) :
    (d.record a n e).mem = d.mem.apply (putWords (a + 16 * n) e) := rfl
@[simp] theorem Draft.record_geometry (d : Draft) (a n : Nat) (e : List Nat) : (d.record a n e).geometry = d.geometry := rfl
@[simp] theorem Draft.record_itemHeader (d : Draft) (a n : Nat) (e : List Nat) :
    (d.record a n e).itemHeader = d.itemHeader := rfl
@[simp] theorem Draft.record_borrowerHeader (d : Draft) (a n : Nat) (e : List Nat) :
    (d.record a n e).borrowerHeader = d.borrowerHeader := rfl
@[simp] theorem Draft.record_items (d : Draft) (a n : Nat) (e : List Nat) : (d.record a n e).items = d.items := rfl
@[simp] theorem Draft.record_borrowers (d : Draft) (a n : Nat) (e : List Nat) :
    (d.record a n e).borrowers = d.borrowers := rfl

/-- Where a record lies, and that it lies inside the window, is as before. -/
@[simp] theorem Draft.record_address (d : Draft) (a n : Nat) (e : List Nat) (t : TableName) (i : Nat) :
    (d.record a n e).address t i = d.address t i := by cases t <;> rfl
@[simp] theorem Draft.record_inside (d : Draft) (a n : Nat) (e : List Nat) (t : TableName) (i : Nat) :
    (d.record a n e).inside t i = d.inside t i := by cases t <;> rfl

/-- One entry more. -/
theorem reportWrites_append (a : Nat) (es : List (List Nat)) (e : List Nat) :
    reportWrites a (es ++ [e]) = reportWrites a es ++ putWords (a + 16 * es.length) e := by
  induction es generalizing a with
  | nil => simp [reportWrites]
  | cons x es ih =>
    simp only [List.cons_append, reportWrites, ih, List.append_assoc, List.length_cons]
    congr 3
    omega

/-- The tables with the entries `es` written, after one more. -/
theorem Draft.record_written (d : Draft) (a : Nat) (es : List (List Nat)) (e : List Nat) :
    Draft.record { d with mem := d.mem.apply (reportWrites a es) } a es.length e
      = { d with mem := d.mem.apply (reportWrites a (es ++ [e])) } := by
  simp only [Draft.record, reportWrites_append, Memory.apply_append]

end Sys2Proof.Machine
end

