-- ==== Sys2Proof/Tests/Slice0.lean ====
section
/-! SUPPORT. Tests: the shape checks of a command, worked examples of the manual, and for every statement with hypotheses a
state and operands that meet them, at the bounds of its clauses. -/

namespace Sys2Proof.Tests

open Sys2Proof Sys2Proof.Machine

set_option maxRecDepth 20000
set_option Elab.async false

/-! ## Shapes of commands and the words of the table -/

/-- An octet of nine bit times is neither form of R162. -/
theorem test_octet_of_nine_bits_is_ill_formed : (Instr.octetReceived { bits := List.replicate 9 0, changes := 0 } 0).wellFormed = false := by decide

/-- The holding queue of R164 holds four octets, so five cannot be taken. -/
theorem test_five_octets_taken_is_ill_formed : (Instr.octetReceived { bits := List.replicate 10 7, changes := 0 } 5).wellFormed = false := by decide

theorem test_octet_with_parity_is_well_formed : (Instr.octetReceived { bits := List.replicate 11 7, changes := 0 } 4).wellFormed = true := by decide

/-- No row of the table has bits: no word spells a command. -/
theorem test_no_word_spells_a_command : decodeTableWord 32 0 = none ∧ State.reset.withFetchWord 32 0 = State.reset :=
  ⟨rfl, rfl⟩

/-! ## Worked examples of the manual -/

/-- Section 1.6, A check digit: item 0412345678 has check value 6. -/
theorem test_check_digit : checkValue [0, 4, 1, 2, 3, 4, 5, 6, 7, 8] = 6 := by decide

/-- Section 1.6, Classifying one character. -/
theorem test_classify_character : classify [340, 700, 330, 360, 320, 690, 350] = some (.digit 6) := by decide

/-- Section 1.6, A backward pass: the label of item 0412345678, its characters written out from section 1.3, swept backwards. -/
theorem test_backward_pass :
    decodeSweep (printCharacters 340
        ([.startItem] ++ [0, 4, 1, 2, 3, 4, 5, 6, 7, 8, 6].map .digit ++ [.stop]) (List.replicate 12 160)).reverse
      = .ok { kind := .item, number := 412345678, direction := .reversed, tag := .wand } := by decide +kernel

/-- Section 6.8: the weekly hours and the closed set of the worked cases. -/
def workedRules : Rules :=
  let week : DayHours := { openMinute := 600, closeMinute := 1080 }
  { Rules.reset with
    baseDay := 8900
    closedSet := 1#512 <<< 121 ||| (BitVec.ofNat 512 (2 ^ 46 - 1)) <<< 195
    weekly := [week, week, week, week, week, { openMinute := 600, closeMinute := 840 }, { openMinute := 0, closeMinute := 0 }] }

/-- Section 6.8, Finding weekdays and dates: day 9000 is Thursday 22.08.2024, open; day 9024 is a closed Sunday. -/
theorem test_dates : weekday 9000 = 3 ∧ civilDate 9000 = (2024, 8, 22) ∧ workedRules.isOpen 9000 = true ∧
    workedRules.isOpen 9021 = false ∧ workedRules.isOpen 9024 = false := by decide +kernel

/-- Section 6.8, A day loan, A clamped day loan, A limited day loan, Saturation at the end of the day range. -/
theorem test_day_loans :
    let due := fun d c l => { due := { day := d, minute := 1439 },
                              flags := { DueFlags.empty with clamped := c, limited := l } : DueStamp }
    workedRules.dueDays { day := 9000, minute := 640 } 21 9030 = due 9022 false false ∧
      workedRules.dueDays { day := 9000, minute := 640 } 21 9017 = due 9016 true false ∧
      workedRules.dueDays { day := 9080, minute := 700 } 21 9500 = due 9101 false true ∧
      workedRules.dueDays { day := 65520, minute := 700 } 30 65535 = due 65535 false true := by decide +kernel

/-- Section 6.8, An hour loan and A clamped hour loan, with the stamp after the close. -/
theorem test_hour_loans :
    let hour := { DueFlags.empty with hourLoan := true }
    workedRules.dueHours { day := 9022, minute := 1000 } 3 9030 = { due := { day := 9023, minute := 705 }, flags := hour } ∧
      workedRules.dueHours { day := 9022, minute := 1000 } 3 9022
        = { due := { day := 9022, minute := 1080 }, flags := { hour with clamped := true } } ∧
      workedRules.dueHours { day := 9022, minute := 1085 } 3 9022
        = { due := { day := 9022, minute := 1439 }, flags := { hour with clamped := true, limited := true } } := by
  decide +kernel

/-- Section 6.8, The same loan, fined; The hour loan, fined; the cap from day 9038. -/
theorem test_fines :
    let day : PolicyEntry := { kind := .days, period := 21, renewLimit := 2, fineRate := 25, fineCap := 500, grace := 1 }
    let hour : PolicyEntry := { kind := .hours, period := 3, renewLimit := 2, fineRate := 50, fineCap := 600, grace := 1 }
    workedRules.fine day false { day := 9022, minute := 1439 } { day := 9030, minute := 700 } = 150 ∧
      workedRules.fine hour true { day := 9023, minute := 705 } { day := 9025, minute := 650 } = 150 ∧
      workedRules.fine hour true { day := 9023, minute := 705 } { day := 9038, minute := 650 } = 600 := by decide +kernel

/-- Section 6.8, A pickup deadline. -/
theorem test_pickup_deadline :
    workedRules.pickupDeadline 9017 5 = 9022 ∧ workedRules.pickupDeadline 9017 4 = 9022 := by decide +kernel

/-- Section 4.6, Evaluating the set: the rows of days 9020, 9022 and 9031. -/
theorem test_block_set :
    let rules := { Rules.reset with
      classes := List.replicate 8 { loanLimit := 5, holdLimit := 5, fineBlockLimit := 1000 } }
    let b : BorrowerRecord :=
      { count := 0, inUse := some true, cls := 2, number := 31150027, expiry := 9030, activity := 0, fines := 950, loans := 0,
        holds := 0, lost := 0, manual := none, center := some (14, 8990), chainNext := 0xFFFF }
    b.blocks rules (some { day := 9020, minute := 0 }) = { Blocks.empty with center := true } ∧
      { b with center := none, fines := 1100 }.blocks rules (some { day := 9022, minute := 0 })
        = { Blocks.empty with fines := true } ∧
      { b with center := none, fines := 900 }.blocks rules (some { day := 9031, minute := 0 })
        = { Blocks.empty with expired := true } := by decide +kernel

/-- Section 10.8, A session slip: the ten text lines of the slip, 352 dot lines. -/
theorem test_session_slip :
    let text : String → List Nat := fun x => (x.toList.map Char.toNat) ++ List.replicate (24 - x.length) 32
    let settings := { Settings.reset with
      header1 := text "CENTRAL LENDING LIBRARY", header2 := text "LOAN DESK", footer := text "PLEASE KEEP THIS SLIP" }
    let slip : Slip :=
      { kind := .dueDate, station := some 1, stamp := some { day := 9022, minute := 1012 }, borrower := 27300415
        entries :=
          [{ item := 412345678, due := { day := 9022, minute := 1439 }, flags := DueFlags.empty },
           { item := 1130440019, due := { day := 9023, minute := 705 },
             flags := { DueFlags.empty with hourLoan := true, renewed := true } }]
        holdBorrower := 0, deadline := 0, text := [] }
    slip.lines settings
      = ["CENTRAL LENDING LIBRARY", "LOAN DESK", "13.09.2024 16:52      S1", "BORROWER ****0415", "0412345678 13.09.2024",
         "1130440019 14.09.2024", "DUE 11:45", "RENEWED", "ITEMS 2", "PLEASE KEEP THIS SLIP"].map text := by decide +kernel

/-- The note under R165: the octets 0x31 to 0x39 give the CRC 0x29B1. -/
theorem test_crc : crcOf [0x31, 0x32, 0x33, 0x34, 0x35, 0x36, 0x37, 0x38, 0x39] = 0x29B1 := by decide +kernel
/-! ## A small desk

An OPEN desk with both tables, the clock at day 100, minute 600, and 96 places of journal room. Item n is record n - 1 and
borrower n is record n - 1; item 7 and borrower 3 are not found. -/

/-- The cells of some words at an address. -/
def cells (a : Nat) : List Nat → Memory
  | [] => []
  | w :: ws => [(a, BitVec.ofNat 8 w), (a + 1, BitVec.ofNat 8 (w / 256))].filter (fun c => c.2 != 0) ++ cells (a + 2) ws

def places : Geometry :=
  { pageCount := 4, windowBase := 0, windowUnits := 1, itemTable := 0x100, borrowerTable := 0x800, pageTable := 0x1000,
    rulesArea := 0x2000, settingsBlock := 0x3000, slateArea := 0x3100, font := 0x4000 }

/-- DAYS 21 for every pair of classes, renew limit 2, loan and hold limit `limit`, open every day. -/
def lending (limit : Nat) : Rules :=
  { Rules.reset with
    policy := List.replicate 128 { kind := .days, period := 21, renewLimit := 2, fineRate := 25, fineCap := 500, grace := 1 }
    classes := List.replicate 8 { loanLimit := limit, holdLimit := limit, fineBlockLimit := 2000 }
    holdsAllowed := List.replicate 16 true
    weekly := List.replicate 7 { openMinute := 540, closeMinute := 1140 } }

/-- A borrower with one loan and one hold, and 25 cents owed, whose card is good to day 100. -/
def reader (n : Nat) : BorrowerRecord :=
  { count := 0, inUse := some true, cls := 2, number := n, expiry := 100, activity := 0, fines := 25, loans := 1, holds := 1,
    lost := 0, manual := none, center := none, chainNext := 0xFFFF }

def book (n : Nat) (st : ItemState) (queue : List Nat) : ItemRecord :=
  { count := 0, state := some st, itemClass := 3, number := n, borrower := 0xFFFF, due := .zero, loanDay := 0, renewCount := 0,
    hourLoan := false, clamped := false, queue := queue.map fun b => { borrower := b, placed := 90 }, deadline := 0,
    shelfNext := 0xFFFF, chainNext := 0xFFFF }

/-- Item 1 on loan to borrower 1, items 2 and 6 on the hold shelf, item 3 lost by borrower 1, item 4 withdrawn, item 5 on the
open shelf held for borrower 2. -/
def books : List ItemRecord :=
  [{ book 1 .onLoan [] with borrower := 0, due := { day := 99, minute := 1439 }, loanDay := 80 },
   { book 2 .onHoldShelf [0] with deadline := 99, shelfNext := 5 },
   { book 3 .lost [] with borrower := 0 }, book 4 .withdrawn [], book 5 .onShelf [1],
   { book 6 .onHoldShelf [0, 1] with deadline := 100 }]

/-- Both tables: `free` is the item table's free-list head, 6 for the free record 6. -/
def tablesOf (free : Nat) (items : List ItemRecord) (readers : List BorrowerRecord) (head tail shelved : Nat) : Memory :=
  cells 0x100 (Header.words { count := 0, capacity := 7, exponent := 8, records := 6, freeHead := free, shelfHead := head,
                              shelfTail := tail, shelfCount := shelved }) ++
    cells 0x112 [0, 1, 2, 3, 4, 5, 0xFFFF] ++ cells 0x310 (items.flatMap ItemRecord.words) ++
    cells 0x800 (Header.words { count := 0, capacity := 3, exponent := 8, records := 2, freeHead := 2, shelfHead := 0xFFFF,
                                shelfTail := 0xFFFF, shelfCount := 0 }) ++
    cells 0x812 [0, 1, 0xFFFF] ++ cells 0xA10 (readers.flatMap BorrowerRecord.words)

def library : Memory := tablesOf 6 books [reader 1, reader 2] 1 5 2

def noon : Stamp := { day := 100, minute := 600 }

def openDesk (m : Memory) : State :=
  { State.reset with
    mem := m, geometry := places, rules := lending 5
    settings := { Settings.reset with glitchLimit := 3, quietLimit := 2000, sessionTimeout := 60, repeatWindow := 500 }
    desk := { state := .opened, reason := .none, anchor := 0x8000 }
    clock := { day := 100, minute := 600, second := 0, isSet := true }
    journal := { Journal.empty with
      pages := [{ address := 0x5000, state := .full, first := 1000, count := 32 },
                { address := 0x5400, state := .full, first := 1032, count := 32 },
                { address := 0x5800, state := .filling, first := 1064, count := 30 },
                { address := 0x5C00, state := .free, first := 0, count := 0 }]
      oldest := some 0, newest := some 2, filling := some 2, nextSequence := 1094, nextPage := 3, room := 34 } }

def desk : State := openDesk library

theorem test_library_is_well_formed : library.wf = true := by decide +kernel

/-- A transaction of a requester with a label, its stamp the desk's reading. -/
def txn (r : Requester) (k : TxnKind) (room : Nat) (l : Option (LabelKind × Nat)) : Txn :=
  { requester := r, kind := k, stamp := some noon, rules := lending 5, halted := false, room := room, busy := false
    label := l.map fun x => { kind := x.1, number := x.2, direction := .forward, tag := .wand } }

/-- The desk with its engine BUSY with a transaction. -/
def busyWith (s : State) (t : Txn) : State := s.withEngine { s.engine with state := .busy, current := some t }

/-- The desk with an order taken up, in a list at 0x9000. -/
def taken (s : State) (o : Order) (w : OrderWait) : State :=
  s.withExecutor { s.executor with
    running := some { start := 0x9000, address := 0x9000, taken := 1, stopped := false
                      current := some { order := o, wait := w, stamp := some noon } } }

def order (kind item borrower a b : Nat) : Order :=
  { kind := kind, stopOnRefusal := false, item := item, borrower := borrower, a := a, b := b }

/-- The desk in HALTED. -/
def haltedDesk (s : State) : State := s.withDesk { s.desk with state := .halted }

theorem busyWith_engaged (s : State) (t : Txn) (h : s.desk.state = .opened) : (busyWith s t).engaged t :=
  ⟨rfl, rfl, .inl h⟩

theorem txn_admitted (r : Requester) (k : TxnKind) (room : Nat) (l : Option (LabelKind × Nat)) :
    (txn r k room l).admitted noon room := ⟨rfl, rfl, Nat.le_refl _⟩

theorem txn_names (r : Requester) (k : TxnKind) (room : Nat) (x : LabelKind × Nat) :
    (txn r k room (some x)).names x.1 x.2 := ⟨_, rfl, rfl, rfl⟩

/-- The tables that a transaction of the desk reads are those of its memory. -/
theorem busyWith_tables (s : State) (t : Txn) : (busyWith s t).tables = s.tables := rfl

theorem test_headers_good : desk.headerGood .item ∧ desk.headerGood .borrower := by
  unfold State.headerGood
  decide +kernel

/-- Both headers of a draft pass the checks of a first access: `headerGood` of the state it is taken from. -/
def goodHeaders (d : Draft) : Bool := d.touch .item == .ok d && d.touch .borrower == .ok d

/-! ## Witnesses: wand channels -/

/-- PrintedLabelDecodes: the least and the greatest number of each kind, module width 1. -/
theorem test_PrintedLabelDecodes_met :
    numberInRange .item 1 = true ∧ numberInRange .item 9999999999 = true ∧ numberInRange .borrower 1 = true ∧
      numberInRange .borrower 99999999 = true ∧ 1 ≤ 1 := by decide

/-- The desk with wand channel 0 in a condition. -/
def wand (c : Channel) : State := desk.setChannel 0 c

def capturing (level : ElementKind) (last : Option Element) (pushed : Nat) : Channel :=
  { Channel.reset with level := level, capture := .capturing, last := last, inCapture := List.replicate pushed 100 }

/-- ElementEndByCase: a merge; a glitch of 2 ticks; the first true element at the glitch limit of 3; a sweep begun with one and
refused with two in the queue; the push of the 128th width and of one too many, at a space of the quiet limit. -/
theorem test_ElementEndByCase_met :
    let end_ := fun s : State => (s.channel 0).level = .bar ∨ (s.channel 0).capture = .quiet ∨ 2000 ≤ s.settings.quietLimit
    let w := min (0 + 3) 65535
    let bar5 : Element := { kind := .bar, width := 5 }
    let merge := wand { capturing .space (some bar5) 2 with mergePending := true }
    let settle := wand { Channel.reset with level := .bar, last := some bar5 }
    let begins := fun n => wand { Channel.reset with level := .bar, last := some bar5, capture := .quiet,
                                                     complete := List.replicate n [1], decoder := .decoding }
    let pushes := fun n => wand (capturing .space (some bar5) n)
    (end_ merge ∧ (merge.channel 0).mergePending = true ∧ (merge.channel 0).last = some bar5) ∧
    (end_ settle ∧ (settle.channel 0).mergePending = false ∧ (settle.channel 0).last = some bar5 ∧
      2 < settle.settings.glitchLimit ∧ settle.settings.glitchLimit ≤ w ∧ (settle.channel 0).capture = .settling) ∧
    (end_ (begins 1) ∧ ((begins 1).channel 0).capture = .quiet ∧ ((begins 1).channel 0).level = .bar ∧
      ((begins 1).channel 0).complete.length < 2) ∧
    (end_ (begins 2) ∧ 2 ≤ ((begins 2).channel 0).complete.length) ∧
    (end_ (pushes 127) ∧ ((pushes 127).channel 0).capture = .capturing ∧
      (((pushes 127).channel 0).complete.map List.length).sum + ((pushes 127).channel 0).inCapture.length < 128) ∧
    (end_ (pushes 128) ∧
      128 ≤ (((pushes 128).channel 0).complete.map List.length).sum + ((pushes 128).channel 0).inCapture.length) := by
  decide +kernel

/-- QuietZoneByState: 2000 ticks are no quiet zone and 2001 are one; each capture state, with 127 and with 128 widths pushed. -/
theorem test_QuietZoneByState_met :
    let none_ := wand (capturing .space (some { kind := .bar, width := 5 }) 2)
    let settle := wand { Channel.reset with level := .space }
    let merge := wand { capturing .space (some { kind := .bar, width := 1998 }) 2 with mergePending := true }
    let pushes := fun n => wand (capturing .space (some { kind := .bar, width := 5 }) n)
    (0 + min (0 + 2000) 65535 ≤ none_.settings.quietLimit ∧ 0 + min (0 + 2000) 65535 < 65535) ∧
    ((settle.channel 0).level = .space ∧ settle.settings.quietLimit < 0 + min (0 + 2001) 65535 ∧
      (settle.channel 0).capture = .settling) ∧
    ((merge.channel 0).level = .space ∧ merge.settings.quietLimit < 1998 + min (0 + 3) 65535 ∧
      (merge.channel 0).capture = .capturing ∧ (merge.channel 0).mergePending = true) ∧
    (((pushes 127).channel 0).level = .space ∧ ((pushes 127).channel 0).mergePending = false ∧
      ((pushes 127).channel 0).last = some { kind := .bar, width := 5 } ∧
      (((pushes 127).channel 0).complete.map List.length).sum + ((pushes 127).channel 0).inCapture.length < 128) ∧
    (128 ≤ (((pushes 128).channel 0).complete.map List.length).sum + ((pushes 128).channel 0).inCapture.length) := by
  decide +kernel

/-- A sweep of a borrower label whose characters are given; every element 1 or 2 wide but for the first character's scale. -/
def sweep (scale : Nat) (cs : List LabelChar) : List Nat :=
  LabelChar.startBorrower.elements scale ++ 1 :: printCharacters 1 cs []

def body (ds : List Nat) (check : Nat) : List LabelChar := ds.map .digit ++ [.digit check, .stop]

/-- DecodeComplete's cases: each misread, a repeat, a CLOSED station, an empty slot, a full one. Borrower 27300415 has check
value 3 (R18). -/
theorem test_DecodeCompletes_met :
    let good := sweep 1 (body [2, 7, 3, 0, 0, 4, 1, 5] 3)
    let label : Label := { kind := .borrower, number := 27300415, direction := .forward, tag := .wand }
    let s := wand { Channel.reset with complete := [good], decoder := .decoding }
    let repeated := s.setStation 0 { Station.reset with repeatTimer := some 500, lastLabel := some (.borrower, 27300415) }
    let waits := s.setStation 0 { Station.reset with mode := .checkout }
    ((s.channel 0).decoder = .decoding ∧ (s.channel 0).complete = [good]) ∧
    decodeSweep [1] = .error .format ∧
    decodeSweep (List.replicate 87 1) = .error .character ∧
    decodeSweep (sweep 3 (body [2, 7, 3, 0, 0, 4, 1, 5] 3)) = .error .speed ∧
    decodeSweep (sweep 1 (body [2, 7, 3, 0, 0, 4, 1, 5] 4)) = .error .check ∧
    decodeSweep good = .ok label ∧
    ((repeated.station 0).repeatTimer.isSome = true ∧ (repeated.station 0).lastLabel = some (label.kind, label.number)) ∧
    (¬ (s.station 0).repeatTimer.isSome = true ∧ (s.station 0).mode = .closed) ∧
    ((waits.station 0).mode ≠ .closed ∧ (waits.station 0).slot = none) ∧
    (((waits.setStation 0 { waits.station 0 with slot := some label }).station 0).slot = some label) := by
  decide +kernel

/-- PrintedLabelDecodes on every sweep: the fourteen characters are read, a reversed label does not start with a start character, and
each misread has a sweep: all widths 1; a first character three times as wide; a stop among the digits; a wrong check value. -/
theorem test_PrintedLabelDecodes_sweeps_met :
    let pairs : List (Nat × Nat) :=
      [(1, 4), (1, 5), (1, 6), (1, 7), (2, 4), (2, 5), (2, 6), (2, 7), (3, 4), (3, 5), (3, 6), (1, 2), (1, 3), (2, 3)]
    let width := fun (vs : List Nat) c q => vs.getD (8 * c + q - 1) 0
    let sum := fun vs c => ((List.range 7).map fun q => width vs c (q + 1)).sum
    let reads := fun vs c x => (List.range 7).all fun q =>
      decide (sum vs c < 6 * width vs c (q + 1)) == (q + 1 == (pairs.getD x (0, 0)).1 || q + 1 == (pairs.getD x (0, 0)).2)
    let assigned := fun vs => (List.range 11).all fun c => (List.range 14).any fun x => reads vs c x
    let even := fun vs => (List.range 10).all fun c =>
      decide (sum vs c ≤ 2 * sum vs (c + 1)) && decide (sum vs (c + 1) ≤ 2 * sum vs c)
    let digits := fun vs ds => (List.range 8).all fun c => reads vs (c + 1) (ds.getD c 0)
    let good := sweep 1 (body [2, 7, 3, 0, 0, 4, 1, 5] 3)
    let bad := sweep 1 ([.stop] ++ body [7, 3, 0, 0, 4, 1, 5] 3)
    (good.length + 1 = 8 * 11 ∧ reads good 0 12 = true ∧ assigned good = true ∧ even good = true ∧
      digits good [2, 7, 3, 0, 0, 4, 1, 5] = true ∧ reads good 9 3 = true ∧ reads good 10 13 = true) ∧
    (reads good.reverse 0 11 = false ∧ reads good.reverse 0 12 = false) ∧
    assigned (List.replicate 87 1) = false ∧
    (assigned (sweep 3 (body [2, 7, 3, 0, 0, 4, 1, 5] 3)) = true ∧ even (sweep 3 (body [2, 7, 3, 0, 0, 4, 1, 5] 3)) = false) ∧
    (bad.length = 87 ∧ assigned bad = true ∧ even bad = true ∧ reads bad 1 13 = true ∧ decodeSweep bad = .error .format) := by
  decide +kernel

/-! ## Witnesses: stations -/

def answered (r : Reason) : SlateOutcome :=
  { refused := false, reason := r, borrower := 0, item := 0, due := .zero, fine := 0, blocks := .empty, itemState := none,
    sessionItems := 0, slipLost := false, keyed := false }

def lent (n : Nat) : SessionItem := { item := n, due := { day := 121, minute := 1439 }, flags := DueFlags.empty }

/-- A CHECKOUT station with a session of borrower 1 and some items lent. -/
def session (n : Nat) : Station :=
  { Station.reset with
    mode := .checkout, session := some { number := 1, index := 0 }, items := (List.range n).map fun k => lent (k + 1) }

/-- The desk with station 1 as given. -/
def at1 (t : Station) : State := desk.setStation 1 t

theorem entersAtOnce_empty (t : Station) (h : t.buffer = none) (hw : t.waiting = []) : t.entersAtOnce :=
  ⟨fun o ho => by simp [h] at ho, hw⟩

theorem not_entersAtOnce (t : Station) (o : SlateOutcome) (h : t.buffer = some o) (ho : o.reason ≠ .discarded) :
    ¬ t.entersAtOnce := fun hc => ho (hc.1 o h)

/-- Slips printed at the close of station 1. -/
def printing (s : State) : State := s.withSettings { s.settings with slipFlags := 2 }

theorem closePrints_printing : (printing (at1 (session 1))).closePrints 1 ∧ ¬ (at1 (session 1)).closePrints 1 := by
  unfold State.closePrints
  decide +kernel

/-- IdleDeadlineCloses: no session; a session that closes without and with a slip, into a free and into a full buffer. -/
theorem test_IdleDeadlineCloses_met :
    let t := { session 1 with deadline := some 60 }
    let full := { t with buffer := some (answered .renewed) }
    ((at1 { Station.reset with deadline := some 60 }).station 1).deadline = some 60 ∧
    ((at1 { Station.reset with deadline := some 60 }).station 1).session = none ∧
    (t.deadline = some 60 ∧ t.slot = none ∧ t.inFlight = none ∧ t.session = some { number := 1, index := 0 }) ∧
    (printing (at1 (session 1))).closePrints 1 ∧ ¬ (at1 (session 1)).closePrints 1 ∧ t.entersAtOnce ∧ ¬ full.entersAtOnce :=
  ⟨rfl, rfl, ⟨rfl, rfl, rfl, rfl⟩, closePrints_printing.1, closePrints_printing.2, entersAtOnce_empty _ rfl rfl,
    not_entersAtOnce _ _ rfl (by decide)⟩

/-- WaitingOutcomeEnters: an outcome of each producer waits at an empty buffer, in an OPEN and in a HALTED desk. -/
theorem test_WaitingOutcomeEnters_met (p : Producer) :
    let t := { session 1 with waiting := [(answered .renewed, p)] }
    ((at1 t).station 1).waiting = (answered .renewed, p) :: [] ∧ ((at1 t).station 1).bufferTakes ∧
      (at1 t).desk.state ≠ .halted ∧ (haltedDesk (at1 t)).desk.state = .halted :=
  ⟨rfl, fun o h => (nomatch (show (none : Option SlateOutcome) = some o from h)), nofun, rfl⟩

/-- SlatesAreWritten: an outcome at station 1 with none at station 0 before it, keyed or not; a mirror pending at channel 1. -/
theorem test_SlatesAreWritten_met :
    let s := at1 { session 1 with buffer := some (answered .renewed) }
    let keyed := taken (at1 { session 1 with buffer := some { answered .renewed with keyed := true } }) (order 2 1 0 1 1) .slate
    let mirror := desk.setChannel 1 { Channel.reset with mirrorPending := true }
    (s.desk.state = .opened ∧ s.writer.outcomeTurn = 0 ∧ (s.station (0 + 1)).buffer = some (answered .renewed) ∧
      (∀ j : Fin 4, j < 1 → (s.station (0 + j)).buffer = none)) ∧
    (keyed.currentOrder.map TakenOrder.wait = some .slate ∧ (keyed.station 1).buffer.map SlateOutcome.keyed = some true ∧
      (∀ j : Fin 4, j < 1 → (keyed.station (0 + j)).buffer = none)) ∧
    (mirror.desk.state = .opened ∧ (∀ j, (mirror.station j).buffer = none) ∧ mirror.writer.mirrorTurn = 0 ∧
      (mirror.channel (0 + 1)).mirrorPending = true ∧ (∀ j : Fin 4, j < 1 → (mirror.channel (0 + j)).mirrorPending = false)) := by
  decide +kernel

/-- TonesRunByPeriods: a sounding generator that stops, that changes over, that goes on, that ends; a silent one. -/
theorem test_TonesRunByPeriods_met :
    let x : ToneOutput := { period := 8000, duty := 4000 }
    let a : ToneStep := { hz := 2000, ms := 120 }
    let g : ToneGen := { output := some x, steps := [a], next := none, stopping := false }
    ({ g with stopping := true }.output = some x ∧ { g with stopping := true }.stopping = true) ∧
    ({ g with next := some [a] }.stopping = false ∧ { g with next := some [a] }.next = some (a :: [])) ∧
    ({ g with steps := [a, a] }.next = none ∧ { g with steps := [a, a] }.steps = a :: a :: []) ∧
    (g.stopping = false ∧ g.next = none ∧ g.steps = [a] ∧ g.output ≠ none) ∧ ToneGen.silent.output = none := by decide

/-- ModesAreSet: station 4 and mode 5 out of range, station 3 and mode 4 in it; a mode change in OPEN and in HALTED, with and
without a session, with and without a slip. -/
theorem test_ModesAreSet_met :
    let ask := fun a b => (taken desk (order 1 0 0 a b) .owner).orderAt kindSetStationMode .owner
    let s := fun t => taken (at1 t) (order 1 0 0 1 4) .flight
    (ask 4 0 = some (order 1 0 0 4 0) ∧ 3 < 4) ∧ (ask 0 5 = some (order 1 0 0 0 5) ∧ 4 < 5) ∧
    (ask 3 4 = some (order 1 0 0 3 4) ∧ 3 = (3 : Fin 4).val ∧ 4 ≤ 4) ∧
    (((s (session 1)).orderAt kindSetStationMode .flight = some (order 1 0 0 1 4) ∧ Mode.ofCode 4 = some .inquiry ∧
      ((s (session 1)).station 1).inFlight = none ∧ (s (session 1)).desk.state ≠ .halted ∧
      ((s (session 1)).station 1).session = some { number := 1, index := 0 }) ∧
    ((s Station.reset).station 1).session = none ∧
    ((s Station.reset).withDesk { desk.desk with state := .halted }).desk.state = .halted) := by decide +kernel

/-- ModesAreSet: the buffer of a session that closes takes its outcome, or holds another. -/
theorem test_ModesAreSet_buffers_met :
    ({ session 1 with slot := none, session := none, items := [] } : Station).entersAtOnce ∧
    ¬ ({ session 1 with buffer := some (answered .renewed), session := none, items := [] } : Station).entersAtOnce ∧
    (printing (at1 (session 1))).closePrints 1 ∧ ¬ (at1 (session 1)).closePrints 1 :=
  ⟨entersAtOnce_empty _ rfl rfl, not_entersAtOnce _ _ rfl (by decide), closePrints_printing⟩

/-- KeyedLabelArrives: station 4, item 0 and item 9999999999; a CLOSED station with a free and a full buffer; an empty slot, a
full one, and one that has emptied while the order waited. -/
theorem test_KeyedLabelArrives_met :
    let o := fun a item => order 2 item 0 a 1
    let ask := fun s a item => (taken s (o a item) .owner).orderAt kindKeyedLabel .owner
    let l : Label := { kind := .item, number := 9, direction := .forward, tag := .wand }
    (ask desk 4 1 = some (o 4 1) ∧ 3 < (o 4 1).a) ∧ (ask desk 3 0 = some (o 3 0) ∧ ¬ 1 ≤ (o 3 0).item) ∧
    (ask desk 1 9999999999 = some (o 1 9999999999) ∧ 1 ≤ (o 1 9999999999).item ∧ (o 1 9999999999).item ≤ 9999999999 ∧
      (desk.station 1).mode = .closed) ∧
    ((at1 (session 0)).station 1).mode ≠ .closed ∧ ((at1 (session 0)).station 1).slot = none ∧
    ((at1 { session 0 with slot := some l }).station 1).slot ≠ none ∧
    (taken (at1 (session 0)) (o 1 1) .slot).orderAt kindKeyedLabel .slot = some (o 1 1) := by decide +kernel

/-! ## Witnesses: the decision engine -/

/-- GrantFollowsTheRotation: a station's label, an order, the sweep and a notice each first in the rotation; every row of what
the background position stands for. -/
theorem test_GrantFollowsTheRotation_met :
    let l : Label := { kind := .item, number := 5, direction := .forward, tag := .wand }
    let n : CenterNotice := { borrower := 1, action := 1, origin := 7, day := 99 }
    let station := at1 { session 0 with slot := some l }
    let ordered := taken desk (order 17 6 1 0 0) .grant
    let marks := taken desk (order 18 0 0 1 0) (.markGrant 1 1031)
    let sweeps := desk.withSweep { Sweep.reset with state := .running }
    let notices := fun s : State => s.withUpload { s.upload with held := some { notice := n, granted := false } }
    let first := fun (s : State) (k : Fin 6) g bg =>
      (s.desk.state = .opened ∧ s.engine.state = .idle) ∧ s.engine.pointer = 0 ∧ s.standsAt (0 + k) = some (g, bg) ∧
        ∀ j : Fin 6, j < k → s.standsAt (0 + j) = none
    first station 1 (.station 1 l .checkout) .sweep ∧
    first ordered 4 (.order (.order (order 17 6 1 0 0))) .sweep ∧
    first sweeps 5 .sweep .center ∧
    first (notices desk) 5 (.center (.notice n)) .sweep ∧
    marks.currentOrder.map TakenOrder.wait = some (.markGrant 1 1031) ∧ desk.currentOrder = none ∧
    (desk.sweep.state = .idle ∧ desk.upload.request = none) ∧
    (sweeps.sweep.state = .running ∧ sweeps.sweep.inEngine = false ∧ sweeps.upload.request = none) ∧
    ((notices desk).sweep.state = .idle ∧ (notices desk).upload.request = some (.notice n)) ∧
    ((notices sweeps).sweep.state = .running ∧ (notices sweeps).upload.request = some (.notice n) ∧
      (notices sweeps).engine.background = .sweep) ∧
    ((notices sweeps).withEngine { desk.engine with background := .center }).engine.background = .center := by decide +kernel

/-- GrantFollowsTheRotation: each of the three marks first in the rotation. -/
theorem test_GrantFollowsTheRotation_marks_met :
    let marks := taken desk (order 18 0 0 1 0) (.markGrant 1 1031)
    let started := desk.withUpload { Upload.reset with startedMark := .standing }
    let ended := desk.withUpload { Upload.reset with endedMark := .standing }
    (marks.standsAt 4 = some (.order (.pagesReleased 1 1031), .sweep) ∧ ∀ j : Fin 6, j < 4 → marks.standsAt j = none) ∧
    (started.standsAt 5 = some (.center .started, .sweep) ∧ ∀ j : Fin 6, j < 5 → started.standsAt j = none) ∧
    (ended.standsAt 5 = some (.center .ended, .sweep) ∧ ∀ j : Fin 6, j < 5 → ended.standsAt j = none) := by decide +kernel

/-- CommitIsConcluded's frames: a station's answer without an entry, and an order's in a running list. -/
theorem test_CommitIsConcluded_met :
    let refusal : StationResult := { refused := true, reason := .noBorrower }
    (txn (.station 1) .noBorrower 65 none).requester = .station 1 ∧
    (stationAnswer refusal).result = .station refusal ∧ (stationAnswer refusal).clock = none ∧
    (stationAnswer refusal).pointer = none ∧
    (txn .order (.order (order 6 0 1 0 0)) 65 none).requester = .order ∧
    orderLimit.result = .order { outcome := .limit } ∧
    (taken desk (order 6 0 1 0 0) .engine).executor.running.map RunningList.address = some 0x9000 := by decide +kernel

/-- ResultsAreHandedOver: journal room 0 and above; an upload that runs, whose FINISHED is noted, and that is ending; a cut. -/
theorem test_ResultsAreHandedOver_met :
    let full := desk.withJournal { desk.journal with room := 0 }
    let up := fun u => desk.withUpload u
    let start := txn .center .uploadStarted 65 none
    (txn .sweep .sweepStep 0 none).requester = .sweep ∧ full.journal.room = 0 ∧ desk.journal.room ≠ 0 ∧
    ((up { Upload.reset with state := .receivingNotices }).upload.state ≠ .ending ∧ Upload.reset.finishedNoted = false) ∧
    (up { Upload.reset with state := .receivingNotices, finishedNoted := true }).upload.finishedNoted = true ∧
    ((up { Upload.reset with state := .ending, cutMade := true }).upload.state = .ending ∧
      (up { Upload.reset with state := .ending, cutMade := true }).upload.cutMade = true) ∧
    (txn .order (.pagesReleased 1 1031) 65 none).kind = .pagesReleased 1 1031 ∧
    (start.requester = .center ∧ start.kind = .uploadStarted ∧ start.stamp = some noon ∧ Upload.reset.state ≠ .ending) ∧
    (taken desk (order 19 0 0 0 0) .cut).currentOrder.map TakenOrder.wait = some .cut ∧
    desk.currentOrder.map TakenOrder.wait ≠ some .cut ∧
    (taken desk (order 20 0 0 0 0) (.uploadIdle 1)).currentOrder.map TakenOrder.wait = some (.uploadIdle 1) ∧
    (up { Upload.reset with state := .ending }).upload.cutMade = false ∧
    (txn .center .uploadEnded 65 none).kind = .uploadEnded := by decide +kernel

/-- GatesRefuseInOrder: a gate each: a HALTED desk, an unset clock, room 64 for a checkout, room 0 for a return, an order of each
class, a sweep step and a notice. -/
theorem test_GatesRefuseInOrder_met :
    let t := txn (.station 1) .checkout 64 (some (.item, 5))
    let n : CenterNotice := { borrower := 1, action := 2, origin := 7, day := 99 }
    ((order 3 0 0 0 0).kind ∈ [3, 4, 5, 7, 11, 12, 13, 14, 16] ∧ (order 17 0 0 0 0).kind ∈ [6, 8, 9, 10, 17] ∧
      (txn .order (.order (order 17 0 0 0 0)) 0 none).kind = .order (order 17 0 0 0 0)) ∧
    ((txn .sweep .sweepStep 0 none).kind = .sweepStep ∧ (txn .sweep .sweepStep 0 none).room = 0) ∧
    ((txn .center (.notice n) 0 none).kind = .notice n ∧ t.requester = .station 1 ∧ t.label ≠ none) ∧
    ({ t with halted := true }.halted = true) ∧ ({ t with stamp := none }.stamp = none ∧ t.halted = false) ∧
    (t.kind = .checkout ∧ t.stamp ≠ none ∧ t.room ≤ 64) ∧
    ((txn (.station 1) .returnItem 0 none).kind = .returnItem ∧ (txn (.station 1) .returnItem 0 none).room = 0) := by decide

/-! ## Witnesses: labels -/

/-- What every label transaction of station 1 of a desk meets, with room 65 where a checkout or renewal needs it, 1 for a return,
0 for the rest. The theorems below add what its clauses ask of the tables and the station. -/
theorem test_label_transactions_met (s : State) (k : TxnKind) (room : Nat) (x : LabelKind × Nat)
    (h : s.desk.state = .opened) :
    let t := txn (.station 1) k room (some x)
    (busyWith s t).engaged t ∧ t.requester = .station 1 ∧ t.kind = k ∧ t.names x.1 x.2 ∧ t.admitted noon room :=
  ⟨busyWith_engaged s _ h, rfl, rfl, txn_names _ _ _ _, txn_admitted _ _ _ _⟩

/-- Borrowers found and not found, with and without a block; every state of an item the inquiry answers. -/
theorem test_QuietLabelsAreAnswered_met :
    let d := desk.tables
    d.lookup .borrower 3 = .ok none ∧ d.lookup .borrower 1 = .ok (some 0) ∧
    ((d.borrower 0).blocks (lending 5) (some noon)).any = false ∧
    ((d.borrower 0).blocks (lending 5) (some { noon with day := 101 })).any = true ∧
    ((at1 (session 0)).station 1).session = some { number := 1, index := 0 } ∧ (desk.station 1).session = none ∧
    d.lookup .item 7 = .ok none ∧
    (d.lookup .item 4 = .ok (some 3) ∧ (d.item 3).state = some .withdrawn) ∧
    (d.lookup .item 1 = .ok (some 0) ∧ (d.item 0).state = some .onLoan ∧ d.itemBorrower 0 = .ok (d.borrower 0)) ∧
    (d.lookup .item 3 = .ok (some 2) ∧ (d.item 2).state = some .lost ∧ d.itemBorrower 2 = .ok (d.borrower 0)) ∧
    (d.lookup .item 2 = .ok (some 1) ∧ (d.item 1).state = some .onHoldShelf ∧
      d.holdBorrower 1 0 (d.item 1).head = .ok (d.borrower 0)) ∧
    (d.lookup .item 5 = .ok (some 4) ∧ (d.item 4).state = some .onShelf ∧
      d.holdBorrower 4 0 (d.item 4).head = .ok (d.borrower 1)) := by decide +kernel

/-- CheckoutLends: a session borrower found and not, blocked and not; loan limit 2 above the one loan and 1 at it; an item with
and without a record, a full table, and every state of the item. -/
theorem test_CheckoutLends_met :
    let d := desk.tables
    let full := (openDesk (tablesOf 0xFFFF books [reader 1, reader 2] 1 5 2)).tables
    let se1 : Session := { number := 1, index := 0 }
    let se2 : Session := { number := 2, index := 1 }
    (((at1 (session 0)).station 1).session = some se1 ∧ d.sessionBorrower { number := 9, index := 0 } = none) ∧
    (d.sessionBorrower se1 = some (d.borrower 0) ∧ d.sessionBorrower se2 = some (d.borrower 1)) ∧
    ((d.borrower 0).blocks (lending 2) (some { noon with day := 101 })).any = true ∧
    (((d.borrower 0).blocks (lending 2) (some noon)).any = false ∧ d.lookup .item 7 = .ok none) ∧
    (((Rules.reset).policyEntry 0 2).kind = .none ∧ ((lending 2).policyEntry 0 2).kind ≠ .none) ∧
    (((lending 1).borrowerClass 2).loanLimit ≤ (d.borrower 0).loans ∧
      (d.borrower 0).loans < ((lending 2).borrowerClass 2).loanLimit) ∧
    (goodHeaders full = true ∧ full.takeFree .item = .ok none ∧ full.lookup .item 7 = .ok none ∧ d.takeFree .item = .ok (some (6, 0))) ∧
    (d.lookup .item 1 = .ok (some 0) ∧ (d.item 0).state = some .onLoan ∧ (d.item 0).borrower ≠ se2.index) ∧
    ((d.item 2).state = some .lost ∧ (d.item 3).state = some .withdrawn) ∧
    ((d.item 4).state = some .onShelf ∧ (d.item 4).head ≠ se1.index ∧ (d.item 4).head = se2.index) ∧
    (d.lookup .item 2 = .ok (some 1) ∧ (d.item 1).state = some .onHoldShelf ∧ (d.item 1).head = se1.index ∧
      (d.shelfRemove 1).isOk = true) := by decide +kernel

/-- RenewalExtends: no record, an item not on loan, one on loan elsewhere, a blocked borrower; then no policy, a hold that
waits, renew limit reached (2) and not (1 so far). -/
theorem test_RenewalExtends_met :
    let of := fun (k : Nat) (q : List Nat) => (openDesk (tablesOf 6
      [{ book 1 .onLoan q with borrower := 0, due := { day := 100, minute := 1439 }, renewCount := k }] [reader 1, reader 2]
      0xFFFF 0xFFFF 0)).tables
    let d := of 1 []
    let b := d.borrower 0
    let r := d.item 0
    goodHeaders d = true ∧ d.sessionBorrower { number := 1, index := 0 } = some b ∧
    (((at1 { session 0 with session := some { number := 9, index := 0 } }).station 1).session = some { number := 9, index := 0 } ∧
      d.sessionBorrower { number := 9, index := 0 } = none) ∧ desk.tables.lookup .item 7 = .ok none ∧
    (desk.tables.lookup .item 5 = .ok (some 4) ∧ (desk.tables.item 4).state = some .onShelf) ∧
    (d.lookup .item 1 = .ok (some 0) ∧ r.state = some .onLoan ∧ r.borrower = 0 ∧ r.borrower ≠ 1) ∧
    ((b.blocks (lending 5) (some { noon with day := 101 })).any = true ∧ (b.blocks (lending 5) (some noon)).any = false) ∧
    ((Rules.reset).policyEntry r.itemClass b.cls).kind = .none ∧
    (((lending 5).policyEntry r.itemClass b.cls).kind ≠ .none ∧ r.queue = [] ∧
      r.renewCount < ((lending 5).policyEntry r.itemClass b.cls).renewLimit) ∧
    ((lending 5).policyEntry r.itemClass b.cls).renewLimit ≤ ((of 2 []).item 0).renewCount ∧
    ((of 1 [1]).item 0).queue ≠ [] := by decide +kernel

/-- ReturnSettles: every state of an item, with an empty queue and with a hold that traps it. -/
theorem test_ReturnSettles_met :
    let d := desk.tables
    let of := fun r => (openDesk (tablesOf 6 [r] [reader 1, reader 2] 0xFFFF 0xFFFF 0)).tables
    let loan := of { book 1 .onLoan [1] with borrower := 0 }
    let lost := of { book 1 .lost [] with borrower := 0 }
    let trap := { loan.item 0 with state := some .onHoldShelf, borrower := 0xFFFF, deadline := 107 }
    (goodHeaders d = true ∧ goodHeaders loan = true ∧ goodHeaders lost = true) ∧
    d.lookup .item 7 = .ok none ∧ (d.item 1).state = some .onHoldShelf ∧ (d.item 3).state = some .withdrawn ∧
    (desk.station 1).session = none ∧ ((at1 (session 1)).station 1).session ≠ none ∧
    ((d.item 4).state = some .onShelf ∧ (d.item 4).queue = [{ borrower := 1, placed := 90 }] ∧
      d.holdBorrower 4 0 1 = .ok (d.borrower 1)) ∧
    ((d.item 0).state = some .onLoan ∧ d.itemBorrower 0 = .ok (d.borrower 0) ∧ (d.item 0).queue = [] ∧
      (d.removeItem 0).isOk = true) ∧
    (loan.lookup .item 1 = .ok (some 0) ∧ (loan.item 0).state = some .onLoan ∧
      (loan.item 0).queue = [{ borrower := 1, placed := 90 }] ∧ loan.holdBorrower 0 0 1 = .ok (loan.borrower 1) ∧
      (loan.shelfInsert 0 trap).isOk = true) ∧
    (lost.lookup .item 1 = .ok (some 0) ∧ (lost.item 0).state = some .lost ∧ lost.itemBorrower 0 = .ok (lost.borrower 0) ∧
      (lost.removeItem 0).isOk = true) := by decide +kernel

/-! ## Witnesses: orders of the engine -/

/-- What every order transaction of the desk meets, with room 65 for the first class of R90 and 1 for the second. The theorems
below add what its clauses ask of the tables. -/
theorem test_order_transactions_met (o : Order) (room : Nat) :
    let t := txn .order (.order o) room none
    (busyWith desk t).engaged t ∧ t.requester = .order ∧ t.kind = .order o ∧ t.admitted noon room ∧ t.halted = false ∧
      t.room = room :=
  ⟨busyWith_engaged desk _ rfl, rfl, rfl, txn_admitted _ _ _ _, rfl, rfl⟩

/-- A desk with one borrower, as given, and no free borrower record. -/
def account (b : BorrowerRecord) : Draft :=
  (openDesk (tablesOf 6 books [b] 1 5 2)).tables

/-- RegistrationOrders: numbers and days at the bounds; a number found and not, a free record and none; UPDATE with the same and
another class; REMOVE of a record with each count above 0, and of a clean one. -/
theorem test_RegistrationOrders_met :
    let d := desk.tables
    let noFree := { d with borrowerHeader := { d.borrowerHeader with freeHead := 0xFFFF } }
    let clean := { reader 1 with loans := 0, holds := 0, fines := 0 }
    (¬ 1 ≤ 0 ∧ ¬ 100000000 ≤ 99999999 ∧ 1 ≤ 99999999 ∧ 65535 < 65536 ∧ 65535 ≤ 65535) ∧
    (d.lookup .borrower 1 = .ok (some 0) ∧ d.lookup .borrower 3 = .ok none ∧ d.takeFree .borrower = .ok (some (2, 0)) ∧
      noFree.takeFree .borrower = .ok none) ∧
    ((min 2 7 = (d.borrower 0).cls ∧ 100 = (d.borrower 0).expiry) ∧ ¬ (min 9 7 = (d.borrower 0).cls)) ∧
    0 < (d.borrower 0).loans ∧
    (((account { reader 1 with loans := 0 }).borrower 0).loans = 0 ∧
      0 < ((account { reader 1 with loans := 0 }).borrower 0).holds) ∧
    (((account { clean with lost := 1 }).borrower 0).holds = 0 ∧ 0 < ((account { clean with lost := 1 }).borrower 0).lost) ∧
    (((account { clean with fines := 1 }).borrower 0).lost = 0 ∧ 0 < ((account { clean with fines := 1 }).borrower 0).fines) ∧
    (goodHeaders (account clean) = true ∧ (account clean).lookup .borrower 1 = .ok (some 0) ∧ ((account clean).borrower 0).fines = 0 ∧
      ((account clean).removeBorrower 0).isOk = true) := by decide +kernel

/-- AccountOrders: note codes 255 and 256, selectors 0 to 2, blocks absent and present; amounts 0, 1, 999999 and 1000000 against
fines of 0 and 25; adjustments of 0, +1, at the upper bound and beyond it. -/
theorem test_AccountOrders_met :
    let d := desk.tables
    let blocked := account { reader 1 with manual := some 4, center := some (7, 99), fines := 0 }
    (255 < 256 ∧ 255 ≤ 255 ∧ d.lookup .borrower 3 = .ok none ∧ d.lookup .borrower 1 = .ok (some 0)) ∧
    ((d.borrower 0).manual = none ∧ (d.borrower 0).center = none ∧ (d.borrower 0).fines = 25) ∧
    (goodHeaders blocked = true ∧ blocked.lookup .borrower 1 = .ok (some 0) ∧ (blocked.borrower 0).manual = some 4 ∧
      (blocked.borrower 0).center = some (7, 99) ∧ (blocked.borrower 0).fines = 0) ∧
    (0 ≠ 1 ∧ 0 ≠ 2 ∧ 999999 < 1000000 ∧ 1 ≤ 25 ∧ 25 < 26) ∧
    (ofSigned32 0 = 0 ∧ ofSigned32 4293967297 = -999999 ∧ ofSigned32 4293967296 < -999999 ∧ ofSigned32 999999 = 999999) ∧
    (max 0 (min 999999 (((d.borrower 0).fines : Int) + 1)) ≠ (d.borrower 0).fines ∧
      max 0 (min 999999 (((blocked.borrower 0).fines : Int) - 1)) = (blocked.borrower 0).fines) := by decide +kernel

/-- NoticesAreApplied: gates, a malformed notice, and one for a borrower with and without a CENTER block. -/
theorem test_NoticesAreApplied_met :
    let n : CenterNotice := { borrower := 1, action := 2, origin := 7, day := 99 }
    let t := txn .center (.notice n) 1 none
    let d := desk.tables
    let blocked := account { reader 1 with center := some (7, 99) }
    ((busyWith desk t).engine.current = some t ∧ t.kind = .notice n ∧ t.halted = false ∧ t.stamp = some noon ∧ 1 ≤ t.room) ∧
    ({ t with room := 0 }.room = 0 ∧ { n with action := 3 }.action ≠ 1 ∧ { n with action := 3 }.action ≠ 2) ∧
    (d.lookup .borrower 3 = .ok none ∧ d.lookup .borrower 1 = .ok (some 0) ∧ (d.borrower 0).center = none) ∧
    (goodHeaders blocked = true ∧ blocked.lookup .borrower 1 = .ok (some 0) ∧ (blocked.borrower 0).center = some (7, 99)) := by decide +kernel

/-- ItemOrders: numbers 0 and 10000000000; item 7 without a record, a free record and none; lost counts 14 and 15; each state. -/
theorem test_ItemOrders_met :
    let d := desk.tables
    let full := (openDesk (tablesOf 0xFFFF books [reader 1, reader 2] 1 5 2)).tables
    let of := fun q n => (openDesk (tablesOf 6 [{ book 1 .lost q with borrower := 0 }] [{ reader 1 with lost := n }]
      0xFFFF 0xFFFF 0)).tables
    (9999999999 < 10000000000 ∧ d.lookup .item 7 = .ok none ∧ d.takeFree .item = .ok (some (6, 0)) ∧
      goodHeaders full = true ∧ full.lookup .item 7 = .ok none ∧ full.takeFree .item = .ok none) ∧
    ((d.item 4).state = some .onShelf ∧ (d.item 0).state = some .onLoan ∧ (d.item 1).state = some .onHoldShelf ∧
      (d.item 3).state = some .withdrawn) ∧
    (d.itemBorrower 0 = .ok (d.borrower 0) ∧ (d.borrower 0).lost < 15) ∧
    (15 ≤ ((of [] 15).borrower 0).lost ∧ ((of [] 14).borrower 0).lost < 15) ∧
    (goodHeaders (of [] 1) = true ∧ (of [] 1).lookup .item 1 = .ok (some 0) ∧ ((of [] 1).item 0).state = some .lost ∧ ((of [] 1).item 0).queue = [] ∧
      (of [] 1).itemBorrower 0 = .ok ((of [] 1).borrower 0) ∧ ((of [1] 1).item 0).queue ≠ []) ∧
    (d.lookup .item 4 = .ok (some 3) ∧ (d.removeItem 3).isOk = true) := by decide +kernel

/-- RegistersAct: 11 and 12 for NOTICE, 16 and 17 for CEILING; cause 3 shown below a ceiling of 4 and not below one of 3; a slot
with an address and an empty one. By R206 an OPEN desk with its clock set and all else at rest shows 6 in STATE. -/
theorem test_RegistersAct_met :
    ((11#32).toNat < 12 ∧ 12 ≤ (12#32).toNat ∧ (16#32).toNat ≤ 16 ∧ 16 < (17#32).toNat) ∧
    (let s := fun c => desk.withNotices { flags := 8#12, ceiling := c }
     ((s 4).notices.flags.getLsbD 3 = true ∧ 3 < (s 4).notices.ceiling ∧
       ∀ k, k < 3 → ¬ ((s 4).notices.flags.getLsbD k = true ∧ k < (s 4).notices.ceiling)) ∧
     ∀ n, n < 12 → ¬ ((s 3).notices.flags.getLsbD n = true ∧ n < (s 3).notices.ceiling)) ∧
    (desk.executor.slot = none ∧ { Executor.reset with slot := some 0x9000 }.slot = some 0x9000 ∧ desk.readState = 6) := by
  decide +kernel

/-- AnchorWriteRestarts: an address and 0, a running list and none, a slot with an address and an empty one. -/
theorem test_AnchorWriteRestarts_met :
    let listing := taken desk (order 17 6 1 0 0) .engine
    (0x01008000#32).toNat % 16777216 = 0x8000 ∧ (0x01000000#32).toNat % 16777216 = 0 ∧
    (listing.executor.running.map RunningList.start = some 0x9000 ∧ listing.executor.slot = none) ∧
    ((desk.withExecutor { Executor.reset with slot := some 0x9000 }).executor.slot ≠ none ∧ desk.executor.running = none) ∧
    (desk.station 1).tone.output = none := by
  decide +kernel

/-- AnchorWriteRestarts, what it finds stopped: a return that commits with room above the reserve, an outcome at the station whose
turn it is, and two FULL pages to free. -/
theorem test_AnchorWriteRestarts_stopped_met :
    let t := txn (.station 1) .returnItem 65 (some (.item, 1))
    let s := busyWith desk t
    let p := planTxn s t
    let o := answered .renewed
    (p.fault = none ∧ p.view = none ∧ p.clock = none ∧ p.entry.isSome = true ∧ s.desk.state = .opened) ∧
    (((at1 { session 1 with buffer := some o }).station (0 + 1)).buffer = some o ∧
      ∀ j : Fin 4, j < 1 → ((at1 { session 1 with buffer := some o }).station (0 + j)).buffer = none) ∧
    ((taken desk (order 18 0 0 2 0) .owner).orderAt kindReleasePages .owner = some (order 18 0 0 2 0) ∧
      2 ≤ (desk.journal.ring.takeWhile fun p => (desk.journal.page p).state == .full).length) := by decide +kernel

/-- R158: a restart during RELEASE_PAGES leaves the pages freed before it FREE and the rest FULL. R37: one that stops a slate write
after its first access leaves the change count odd and the outcome sequence in desk memory as it was. -/
theorem test_restart_stops_work :
    let frees := (taken desk (order 18 0 0 2 0) .owner).interrupt [(.freedPages, 1)]
    let writes := (at1 { session 1 with buffer := some (answered .renewed) }).interrupt [(.slateOutcome, 1)]
    (frees.mem.read16 (0x1000 + 4) = 0 ∧ frees.mem.read16 (0x1000 + 16) = desk.mem.read16 (0x1000 + 16)) ∧
    (writes.mem.read16 (0x3100 + 48) = 1 ∧ writes.mem.read16 (0x3100 + 48 + 28) = 0 ∧ (writes.station 1).buffer = none ∧
      (writes.station 1).sequence = 1) := by decide +kernel

/-! ## Witnesses: anchoring -/

/-- An anchor block at `a` of the desk's places, with two pages. -/
def anchorBlock (a version base units pages item borrower : Nat) : Memory :=
  cells a ([0x0410, 0x5A31, version, pages] ++ words32 base ++ [units, 0] ++ words32 item ++ words32 borrower ++
    words32 0x1000 ++ words32 0x2000 ++ words32 0x3000 ++ words32 0x3100 ++ [0, 0] ++ words32 0x4000)

/-- The desk of `library` with two FREE pages and an anchor block at 0x8000, in ANCHORING. -/
def anchoring (m : Memory) : State :=
  { State.reset with mem := m, desk := { state := .anchoring, reason := .none, anchor := 0x8000 } }

def anchored : Memory := library ++ cells 0x1000 [0x5000, 0, 0, 0, 0, 0, 0x5400, 0, 0, 0, 0, 0] ++
  anchorBlock 0x8000 1 0 1 2 0x100 0x800

/-- AnchoringEnds, first step: the anchor block at a bound of each check, and just beyond it. -/
theorem test_AnchoringEnds_checks_met :
    let ok := fun version base units pages item => anchorBlock 0x8000 version base units pages item 0x800
    let m := ok 1 0 1 128 0x100
    (0x8000 % 16 = 0 ∧ m.read32 0x8000 = 0x5A310410 ∧ m.read16 0x8004 = 1 ∧ m.read16 0x8006 = 128 ∧ m.read16 0x800C = 1) ∧
    (ok 2 0 1 128 0x100).read16 0x8004 ≠ 1 ∧ (ok 1 0 0 128 0x100).read16 0x800C = 0 ∧
    (ok 1 0 1 129 0x100).read16 0x8006 = 129 ∧
    ((ok 1 0 1 128 0xFFF0).read32 0x8010 + 16 ≤ 0 + 65536 * 1 ∧ ¬ (ok 1 0 1 128 0xFFF1).read32 0x8010 + 16 ≤ 0 + 65536 * 1) ∧
    ((ok 1 0 1 128 0x108).read32 0x8010 % 16 ≠ 0 ∧ m.read32 0x8010 % 16 = 0) := by decide +kernel

/-- AnchoringEnds: a checked anchor block with an EMPTY slot, good headers and a good journal, with the clock set or not; and a
slot of 9 images, which replay refuses. -/
theorem test_AnchoringEnds_met :
    let s := anchoring anchored
    let g := { places with pageCount := 2 }
    let bad := anchored ++ cells 0x80B0 [1, 9]
    (s.desk.state = .anchoring ∧ s.executor.abandoned = none ∧ s.clock.isSet = false) ∧
    (g.inWindow 0x8000 792 = true ∧ g.inWindow 0x1000 24 = true ∧ g.inWindow 0x4000 4608 = true) ∧
    replayWrites g anchored 0x80B0 = .ok [] ∧
    headerOk g anchored .item (Header.read anchored 0x100) = true ∧
    headerOk g anchored .borrower (Header.read anchored 0x800) = true ∧
    (match checkJournal g anchored 0x8030 with | .ok _ => true | .error _ => false) = true ∧
    replayWrites g bad 0x80B0 = .error () := by decide +kernel

/-- AnchoringEnds, the halts and the close: an odd count in either header, a page state that is none of the four, a next page beyond
the page count, and an abandoned list. JournalShape of one page FILLING, all FREE, one FREE behind FULL ones, and all FULL. -/
theorem test_AnchoringEnds_halts_met :
    let g := { places with pageCount := 2 }
    let item := (0x100, 1#8) :: anchored
    let borrower := (0x800, 1#8) :: anchored
    let page := (0x1004, 7#8) :: anchored
    let pool := fun a b next => anchored.apply ((List.zip [0x1004, 0x1006, 0x1010, 0x1012, 0x1014, 0x8032]
      [a, 1, b, 1, 1, next]).map fun x => { addr := x.1, word := x.2 })
    let shape := fun m => match checkJournal g m 0x8030 with
      | .ok sh => some (sh.pages.map Page.state, sh.newest)
      | .error _ => none
    let failed := fun m => match checkJournal g m 0x8030 with | .ok _ => none | .error f => some f
    (headerOk g item .item (Header.read item 0x100) = false ∧ headerOk g borrower .item (Header.read borrower 0x100) = true ∧
      headerOk g borrower .borrower (Header.read borrower 0x800) = false) ∧
    (failed page = some (.page 0) ∧ failed (pool 0 0 2) = some .group) ∧
    (shape (pool 1 0 1) = some ([.filling, .free], some 0) ∧ shape (pool 0 0 1) = some ([.free, .free], none) ∧
      shape (pool 2 0 1) = some ([.full, .free], some 0) ∧ shape (pool 2 2 0) = some ([.full, .full], some 1)) ∧
    ((pool 1 0 1).wf = true ∧ (pool 0 0 1).wf = true ∧ (pool 2 0 1).wf = true ∧ (pool 2 2 0).wf = true) ∧
    (g.pageCount ≤ 128 ∧ g.pageTable + 12 * g.pageCount ≤ 0x8030) ∧
    ((anchoring anchored).withExecutor
      { Executor.reset with abandoned := some { start := 0x9000, address := some 0x9020 } }).executor.abandoned
        = some { start := 0x9000, address := some 0x9020 } := by decide +kernel

/-- AnchoringEnds, replay: an ARMED slot of one COUNTED image of 4 bytes, which passes, with the writes R60 and R62 give it; a PLAIN
image of 2 bytes, one of 64, and a target and an entry that end with the window, which pass; then each check of R62 just missed: 9
images, lengths 3, 0 and 66, an odd target, a COUNTED image of 2 bytes, and a target and an entry one step too far. -/
theorem test_AnchoringEnds_replay_met :
    let slot := fun images target length kind entry : Nat =>
      cells 0x80B0 ([1, images] ++ words32 entry) ++ cells 0x80D8 (words32 target ++ [length, kind, 2, 7])
    let replays := fun m => match replayWrites places m 0x80B0 with | .ok _ => true | .error _ => false
    let m := slot 1 0x810 4 1 0xFFE0
    let zeros : List WordWrite := (List.range 16).map fun k => { addr := 0xFFE0 + 2 * k, word := 0 }
    (m.read16 0x80B0 = 1 ∧ m.read16 0x80B2 = 1 ∧ m.read32 0x80B4 + 32 = 65536 * 1 ∧ m.read32 0x80D8 = 0x810 ∧
      m.read16 0x80DC = 4 ∧ m.read16 0x80DE = 1 ∧ anchored.read16 0x80B0 ≠ 1) ∧
    replayWrites places m 0x80B0
      = .ok ([{ addr := 0x810, word := 1 }, { addr := 0x812, word := 7 }, { addr := 0x810, word := 2 }] ++ zeros ++
          [{ addr := 0x80B0, word := 0 }]) ∧
    (replays (slot 0 1 3 1 0) = true ∧ replays (slot 1 0x810 2 0 0) = true ∧ replays (slot 1 0x810 64 1 0) = true ∧
      replays (slot 1 0xFFFC 4 1 0) = true) ∧
    (replays (slot 9 0x810 4 1 0) = false ∧ replays (slot 1 0x810 3 0 0) = false ∧ replays (slot 1 0x810 0 0 0) = false ∧
      replays (slot 1 0x810 66 0 0) = false ∧ replays (slot 1 0x811 4 0 0) = false ∧ replays (slot 1 0x810 2 1 0) = false ∧
      replays (slot 1 0xFFFE 4 0 0) = false ∧ replays (slot 1 0x810 4 1 0xFFE1) = false) := by decide +kernel

/-- Section 8.7, A cut, a restart and normalization: pages 2 SENDING and 3 FULL, 0 and 1 FREE. Page 0 becomes FILLING at 2069, the
next page is 1 and room 64. -/
theorem test_normalization :
    let m := cells 0x1000 [0x5000, 0, 0, 0, 0, 0] ++ cells 0x100C [0x5400, 0, 0, 0, 0, 0] ++
      cells 0x1018 [0x5800, 0, 3, 32, 2032, 0] ++ cells 0x1024 [0x5C00, 0, 2, 5, 2064, 0]
    let view := match checkJournal places m 0x8030 with
      | .ok sh => some (normalizedView sh m 0x8030)
      | .error _ => none
    m.wf = true ∧ view.map (fun j => (j.pages.map Page.state, j.filling, j.nextSequence, j.nextPage, j.room))
      = some ([.filling, .free, .full, .full], some 0, 2069, 1, 64) := by decide +kernel

/-- R201: an anchoring that ends OPEN writes ABANDONED into the first unfinished order of an abandoned list and closes the list. -/
theorem test_abandoned_list_is_closed :
    let s := (anchoring anchored).withExecutor
      { Executor.reset with abandoned := some { start := 0x9000, address := some 0x9020 } }
    let t := match exec .anchoringEnd s with | .next t => t | _ => s
    t.desk.state = .opened ∧ t.mem.read16 0x9020 = 8 ∧ t.mem.read16 0x8042 = 3 ∧ t.mem.read32 0x8044 = 0x9000 ∧
      t.executor.abandoned = none := by decide +kernel

/-! ## Witnesses: work lists -/

/-- PostsAndListStarts: 0; an attached desk, one in ANCHORING and one UNANCHORED; an address off 32 bytes, the last inside the
window, and the first outside it; an address that waits with no list running. -/
theorem test_PostsAndListStarts_met :
    let waits := fun x => desk.withExecutor { Executor.reset with slot := some x }
    ((0xFFE0#32).toNat % 32 = 0 ∧ 0 ≤ (0xFFE0#32).toNat ∧ (0xFFE0#32).toNat + 32 ≤ 0 + 65536 * 1) ∧
    (0x10000#32).toNat + 32 > 0 + 65536 * 1 ∧ (0x9010#32).toNat % 32 ≠ 0 ∧
    (desk.desk.state = .opened ∧ desk.executor.slot = none) ∧
    ((anchoring anchored).desk.state = .anchoring ∧ (anchoring anchored).executor.slot = none) ∧
    State.reset.desk.state = .unanchored ∧
    ((waits 0xFFE0).executor.slot = some 0xFFE0 ∧ (waits 0xFFE0).executor.running = none ∧
      places.inWindow 0xFFE0 32 = true ∧ places.inWindow 0x10000 32 = false) := by decide +kernel

/-- OrdersAreTakenUp: a list with no order taken up, at 255 and at 256 orders taken, stopped or not, at its last block and
outside the window; the kinds END, 25 and 26; a HALTED desk. -/
theorem test_OrdersAreTakenUp_met :
    let at_ := fun a n st => desk.withExecutor
      { Executor.reset with running := some { start := a, address := a, taken := n, stopped := st, current := none } }
    let kind := fun k => Order.ofBlock ((desk.withMem (desk.mem ++ cells 0x9004 [k])).mem.bytes 0x9000 32)
    ((at_ 0x9000 255 true).executor.running.map RunningList.current = some none ∧ 255 < 256) ∧
    (places.inWindow 0xFFE0 32 = true ∧ places.inWindow 0x10000 32 = false) ∧
    ((kind 0).kind = 0 ∧ (kind 25).kind = 25 ∧ 25 < (kind 26).kind ∧ (kind 7).kind = 7) ∧
    (desk.withDesk { desk.desk with state := .halted }).desk.state = .halted := by decide +kernel

/-- OrdersAndListsEnd: an END taken up by its owner. -/
theorem test_OrdersAndListsEnd_met :
    let s := taken desk (order 0 0 0 0 0) .owner
    s.executor.running.map RunningList.address = some 0x9000 ∧
    s.executor.running.bind RunningList.current = some { order := order 0 0 0 0 0, wait := .owner, stamp := some noon } ∧
    (order 0 0 0 0 0).kind = 0 := by decide +kernel

/-- ReloadsTakeEffect: RELOAD_RULES at a BUSY and an IDLE engine, and when its hold has come; RELOAD_SETTINGS. -/
theorem test_ReloadsTakeEffect_met :
    let t := txn (.station 1) .noBorrower 65 none
    let at_ := fun s k w => (taken s (order k 0 0 0 0) w).orderAt k w
    (at_ (busyWith desk t) kindReloadRules .owner = some (order 15 0 0 0 0) ∧ (busyWith desk t).engine.state = .busy) ∧
    (at_ desk kindReloadRules .owner = some (order 15 0 0 0 0) ∧ desk.engine.state ≠ .busy) ∧
    at_ desk kindReloadRules .hold = some (order 15 0 0 0 0) ∧
    at_ desk kindReloadSettings .owner = some (order 22 0 0 0 0) ∧
    ((cells 0 [1, 5]).readByte 0 = 1 ∧ (cells 0 [1, 5]).read16 2 ≠ 0) ∧ State.reset.mem.readByte 0 = 0 := by decide +kernel

/-- ReloadsTakeEffect, a restart. R203: the settings block of the desk holds zeros, of which 8 lie below their ranges. A
RELOAD_SETTINGS that is stopped in step 1 has handed nothing over; one stopped with its count of 8 written has handed every value
over, the quiet limit at its lower bound of 1000 (R2) among them. R115: the same for RELOAD_RULES, where no value is clamped. -/
theorem test_restart_after_settings_handed_over :
    let s := taken desk (order 22 0 0 0 0) .owner
    let stop := fun n => s.interrupt [(.orderFields 0 8, n)]
    let rules := taken desk (order 15 0 0 0 0) .owner
    (s.mem.wf = true ∧ s.desk.state = .opened ∧ s.executor.running.isSome = true ∧
      s.orderAt kindReloadSettings .owner = some (order 22 0 0 0 0)) ∧
    ((s.interrupt []).settings.quietLimit = 2000 ∧ (stop 0).settings.quietLimit = 1000 ∧ (stop 0).mem = desk.mem ∧
      (stop 2).settings.quietLimit = 1000 ∧ (stop 2).mem.read32 0x9008 = 8) ∧
    (rules.rules ≠ Rules.reset ∧ (rules.interrupt []).rules = rules.rules ∧
      (rules.interrupt [(.orderFields 0 0, 1)]).rules = Rules.reset) := by decide +kernel

/-! ## Witnesses: tables, clock, holds, sweep -/

/-- TablesAreFormatted: extents at the bounds; tables that fit and that overlap; a label that waits. -/
theorem test_TablesAreFormatted_met :
    let e := fun a c x => ({ address := a, capacity := c, exponent := x } : Extent)
    let sized := fun x : Extent => 1 ≤ x.capacity ∧ x.capacity ≤ 65534 ∧ 8 ≤ x.exponent ∧ x.exponent ≤ 16
    let label : Label := { kind := .item, number := 5, direction := .forward, tag := .wand }
    (sized (e 0 1 8) ∧ sized (e 0 65534 16) ∧ ¬ sized (e 0 0 8) ∧ ¬ sized (e 0 65535 8) ∧ ¬ sized (e 0 1 7) ∧
      ¬ sized (e 0 1 17)) ∧
    (0x100 + (e 0x100 19 8).length 64 ≤ 0x800 ∧ ¬ 0x100 + (e 0x100 20 8).length 64 ≤ 0x800 ∧
      0x800 + (e 0x800 3 8).length 48 ≤ 65536) ∧
    ((txn .order (.order (order 3 0 0 0 0)) 65 none).busy = false ∧ desk.stationsBusy = false ∧
      (at1 { session 0 with slot := some label }).stationsBusy = true) ∧
    ((order 3 0 0 (19 + 65536 * 8) (3 + 65536 * 8)).a % 65536 = 19 ∧
      (order 3 0 0 (19 + 65536 * 8) (3 + 65536 * 8)).a / 65536 % 65536 = 8) := by decide +kernel

/-- FormattedTablesAreEmpty: extents at the bounds, one behind the other. -/
theorem test_FormattedTablesAreEmpty_met :
    let i : Extent := { address := 0x100, capacity := 1, exponent := 8 }
    let b : Extent := { address := i.address + i.length 64, capacity := 65534, exponent := 16 }
    State.reset.mem.wf = true ∧ (1 ≤ i.capacity ∧ i.capacity ≤ 65534 ∧ 8 ≤ i.exponent ∧ i.exponent ≤ 16) ∧
    (1 ≤ b.capacity ∧ b.capacity ≤ 65534 ∧ 8 ≤ b.exponent ∧ b.exponent ≤ 16) ∧ i.address + i.length 64 ≤ b.address := by
  decide +kernel

/-- ClockAdvances: operands at and beyond their bounds; a clock not set, at the end of a minute, of a day and of day 65535. -/
theorem test_ClockAdvances_met :
    let o := order 14 0 0 65535 (1439 + 65536 * 59)
    let bad := order 14 0 0 65536 (1440 + 65536 * 60)
    let at_ := fun d m x => desk.withClock { day := d, minute := m, second := x, isSet := true }
    (o.a ≤ 65535 ∧ o.b % 65536 = 1439 ∧ o.b / 65536 % 65536 = 59 ∧ 65535 < bad.a ∧ 1439 < bad.b % 65536 ∧
      59 < bad.b / 65536 % 65536) ∧
    (desk.clock.day < o.a ∧ ¬ desk.clock.day < 100 ∧ State.reset.clock.isSet = false) ∧
    ((at_ 100 600 58).clock.second < 59 ∧ (at_ 100 1438 59).clock.minute < 1439) ∧
    ((at_ 65534 1439 59).clock.day < 65535 ∧ (at_ 65535 1439 59).clock.day = 65535) ∧
    (desk.settings.uploadMinute ≠ 0 ∧ desk.settings.uploadMinute ≠ 1439) := by decide +kernel

/-- HoldsArePlaced: item 7 without a record, with a free record and none; holds at the limit of 1 and below 2; items LOST,
WITHDRAWN, on the borrower's own loan, queued twice, with six holds and with five. -/
theorem test_HoldsArePlaced_met :
    let d := desk.tables
    let full := (openDesk (tablesOf 0xFFFF books [reader 1, reader 2] 1 5 2)).tables
    let of := fun q => (openDesk (tablesOf 6 [book 1 .onShelf q] [reader 1, reader 2] 0xFFFF 0xFFFF 0)).tables
    (d.lookup .borrower 3 = .ok none ∧ d.lookup .borrower 1 = .ok (some 0) ∧ d.lookup .borrower 2 = .ok (some 1)) ∧
    (((d.borrower 0).blocks (lending 2) (some noon)).any = false ∧
      ((d.borrower 0).blocks (lending 2) (some { noon with day := 101 })).any = true) ∧
    ((lending 2).allowsHolds 15 = true ∧ (Rules.reset).allowsHolds 3 = false) ∧
    (((lending 1).borrowerClass 2).holdLimit ≤ (d.borrower 0).holds ∧
      ¬ ((lending 2).borrowerClass 2).holdLimit ≤ (d.borrower 0).holds) ∧
    (d.takeFree .item = .ok (some (6, 0)) ∧ goodHeaders full = true ∧ full.takeFree .item = .ok none) ∧
    ((d.item 2).state = some .lost ∧ (d.item 3).state = some .withdrawn ∧ (d.item 0).state = some .onLoan ∧
      (d.item 0).borrower = 0) ∧
    ((d.item 4).state = some .onShelf ∧ ∃ e ∈ (d.item 4).queue, e.borrower = 1) ∧
    (goodHeaders (of [1, 1, 1, 1, 1]) = true ∧ (of [1, 1, 1, 1, 1, 1]).lookup .item 1 = .ok (some 0) ∧ 6 ≤ ((of [1, 1, 1, 1, 1, 1]).item 0).queue.length ∧
      ((of [1, 1, 1, 1, 1]).item 0).queue.length < 6 ∧ ¬ ∃ e ∈ ((of [1, 1, 1, 1, 1]).item 0).queue, e.borrower = 0) := by
  decide +kernel

/-- HoldsAreCancelled: an entry behind the head; the only entry of an item on the open shelf; the head on the hold shelf with
nothing behind it, and with the next borrower behind it. SweepStepExpires uses the same items at day 100. -/
theorem test_HoldsAreCancelled_met :
    let d := desk.tables
    let next := fun d1 : Draft => { d1.item 5 with state := some .onHoldShelf, deadline := 107, queue := (d.item 5).queue.tail }
    let ok := fun (x : Except TableFault Draft) (f : Draft → Bool) => match x with | .ok y => f y | .error _ => false
    (d.lookup .item 7 = .ok none ∧ d.lookup .item 6 = .ok (some 5) ∧ d.lookup .borrower 2 = .ok (some 1)) ∧
    (∀ e ∈ (d.item 1).queue, e.borrower ≠ 1) ∧
    ((d.item 5).queue.findIdx? (fun e => e.borrower == 1) = some 1 ∧ (d.item 5).state = some .onHoldShelf) ∧
    ((d.item 4).state = some .onShelf ∧ (d.item 4).queue.findIdx? (fun e => e.borrower == 1) = some 0 ∧
      (d.item 4).queue.eraseIdx 0 = [] ∧ (d.removeItem 4).isOk = true) ∧
    ((d.item 1).state = some .onHoldShelf ∧ (d.item 1).queue.findIdx? (fun e => e.borrower == 0) = some 0 ∧
      (d.item 1).queue.eraseIdx 0 = [] ∧ ok (d.shelfRemove 1) (fun d1 => (d1.removeItem 1).isOk) = true) ∧
    ((d.item 5).queue.findIdx? (fun e => e.borrower == 0) = some 0 ∧
      (d.item 5).queue.eraseIdx 0 = [{ borrower := 1, placed := 90 }] ∧
      ok (d.shelfRemove 5) (fun d1 => d1.holdBorrower 5 1 1 == .ok (d1.borrower 1) && (d1.shelfInsert 5 (next d1)).isOk)
        = true) := by decide +kernel

/-- SweepStepExpires: gates; an empty shelf; a head whose deadline day 99 has passed, with and without the next borrower, and one
whose deadline is today. -/
theorem test_SweepStepExpires_met :
    let t := txn .sweep .sweepStep 1 none
    let of := fun r => (openDesk (tablesOf 6 [r] [reader 1, reader 2] 0 0 1)).tables
    let none_ := (openDesk (tablesOf 6 [book 1 .onShelf [0]] [reader 1, reader 2] 0xFFFF 0xFFFF 0)).tables
    let head := fun d : Draft => match d.seekShelfFromHead (fun _ _ => true) with | .ok (_, x) => x | .error _ => some 99
    let two := of { book 1 .onHoldShelf [0, 1] with deadline := 99 }
    let ok := fun (x : Except TableFault Draft) (f : Draft → Bool) => match x with | .ok y => f y | .error _ => false
    ((busyWith desk t).engine.current = some t ∧ t.kind = .sweepStep ∧ t.halted = false ∧ t.stamp = some noon ∧ 1 ≤ t.room) ∧
    { t with room := 0 }.room = 0 ∧ head none_ = none ∧
    (head (of { book 1 .onHoldShelf [0] with deadline := 100 }) = some 0 ∧
      noon.day ≤ ((of { book 1 .onHoldShelf [0] with deadline := 100 }).item 0).deadline ∧
      goodHeaders (of { book 1 .onHoldShelf [0] with deadline := 100 }) = true ∧
      (of { book 1 .onHoldShelf [0] with deadline := 100 }).holdBorrower 0 0 0
        = .ok ((of { book 1 .onHoldShelf [0] with deadline := 100 }).borrower 0)) ∧
    (head (of { book 1 .onHoldShelf [9] with deadline := 100 }) = some 0 ∧
      ((of { book 1 .onHoldShelf [9] with deadline := 100 }).holdBorrower 0 0 9).isOk = false) ∧
    (head desk.tables = some 1 ∧ (desk.tables.item 1).deadline < noon.day ∧ (desk.tables.item 1).queue.tail = [] ∧
      desk.tables.holdBorrower 1 0 0 = .ok (desk.tables.borrower 0) ∧
      ok (desk.tables.shelfRemove 1) (fun d1 => (d1.removeItem 1).isOk) = true) ∧
    (goodHeaders two = true ∧ head two = some 0 ∧ (two.item 0).deadline < noon.day ∧ (two.item 0).queue.tail = [{ borrower := 1, placed := 90 }] ∧
      ok (two.shelfRemove 0) (fun d1 => d1.holdBorrower 0 1 1 == .ok (d1.borrower 1) &&
        (d1.shelfInsert 0 { d1.item 0 with deadline := 107, queue := (two.item 0).queue.tail }).isOk) = true) := by
  decide +kernel

/-- R141: the head hold's borrower index is checked also when the head has not expired: an index beyond the capacity halts the desk. -/
theorem test_sweep_checks_the_head_hold :
    let t := txn .sweep .sweepStep 1 none
    let s := busyWith (openDesk (tablesOf 6 [{ book 1 .onHoldShelf [9] with deadline := 100 }] [reader 1, reader 2] 0 0 1)) t
    let u := match exec .daySweepStep s with | .next u => u | _ => s
    u.desk.state = .halted ∧ u.desk.reason = .tableIndex := by decide +kernel

/-! ## Witnesses: reports -/

/-- ReportsAreWritten: a target of one entry at the end of the window and one beyond it, SET and NEXT without a pointer; a HALTED
desk, an unset clock, and a walk without a fault, for the engine and for the executor. -/
theorem test_ReportsAreWritten_met :
    let o := fun mode capacity a => order 25 (a + 4294967296 * capacity + 281474976710656 * mode) 0 0 0
    let t := txn .order (.order (o 1 1 0xFFF0)) 0 none
    let late := order 23 (0x9000 + 4294967296) 0 65536 0
    ((o 1 1 0xFFF0).item % 4294967296 = 0xFFF0 ∧ (o 1 1 0xFFF0).item / 4294967296 % 65536 = 1 ∧
      (o 1 1 0xFFF0).item / 281474976710656 % 256 = 1 ∧ places.inWindow 0xFFF0 (16 * 1) = true ∧ 0xFFF0 % 16 = 0) ∧
    ((o 1 0 0xFFF0).item / 4294967296 % 65536 = 0 ∧ (o 3 1 0).item / 281474976710656 % 256 = 3 ∧
      places.inWindow 0xFFF0 (16 * 2) = false ∧ desk.executor.pointer = 0 ∧ 65535 < late.a) ∧
    ((busyWith desk t).engine.current = some t ∧ t.kind = .order (o 1 1 0xFFF0) ∧
      (busyWith desk t).orderAt 25 .owner = none ∧ t.halted = false ∧ t.stamp = some noon) ∧
    (reportRun desk (o 1 1 0xFFF0) noon 0xFFF0).fault = none ∧ ({ t with halted := true }.halted = true) ∧
    { t with stamp := none }.stamp = none ∧
    (taken (desk.withDesk { desk.desk with state := .halted }) (o 1 1 0xFFF0) .owner).currentOrder
      = some { order := o 1 1 0xFFF0, wait := .owner, stamp := some noon } ∧
    ((reportRun (openDesk (tablesOf 6 [] [reader 1, reader 2] 0 0 1)) (o 1 1 0xFFF0) noon 0xFFF0).fault ≠ none) := by decide +kernel

/-- The library with every record readable and all 7 in use. -/
def shelves : State := openDesk (tablesOf 0xFFFF (books ++ [book 7 .withdrawn []]) [reader 1, reader 2] 1 5 2)

/-- The tables after entries written at 0x9000. -/
def reported (es : List (List Nat)) : Draft := { shelves.tables with mem := shelves.mem.apply (reportWrites 0x9000 (es.take 2)) }

/-- ReportsAreWritten, the headers; a borrower found and one not found. -/
theorem test_ReportsAreWritten_tables_met :
    let d := shelves.tables
    goodHeaders d = true ∧ d.lookup .borrower 1 = .ok (some 0) ∧ d.lookup .borrower 3 = .ok none ∧
    d.itemHeader.capacity = 7 ∧ d.itemHeader.shelfHead = 1 ∧ d.itemHeader.shelfTail = 5 ∧ d.itemHeader.shelfCount = 2 := by
  decide +kernel

/-- ReportsAreWritten, REPORT_OVERDUE: record 0, due on day 99, is the only one chosen. -/
theorem test_ReportsAreWritten_overdue_met :
    let es : Nat → Option (List Nat) := fun i => if i = 0 then some [1, 0, 0, 0, 1, 0, 99, 1439] else none
    ∀ i, i < 7 →
      let e := reported ((List.range i).filterMap es)
      let r := e.item i
      e.inside .item i = true ∧ r.state ≠ none ∧
        (es i ≠ none ↔ r.state = some .onLoan ∧ (r.due.day < 100 ∨ (r.due.day = 100 ∧ r.due.minute < 600)) ∧
          r.due.day + 1 ≤ 100) ∧
        (es i ≠ none → e.itemBorrower i = .ok (reader 1) ∧
          es i = some [r.number % 65536, r.number / 65536, 0, 0, 1, 0, r.due.day, r.due.minute]) := by decide +kernel

/-- ReportsAreWritten, REPORT_BORROWER_LOANS: records 0 and 2 name borrower record 0. -/
theorem test_ReportsAreWritten_loans_met :
    let es : Nat → Option (List Nat) := fun i =>
      if i = 0 then some [1, 0, 0, 0, 99, 1439, 2, 0] else if i = 2 then some [3, 0, 0, 0, 0, 0, 4, 0] else none
    ∀ i, i < 7 →
      let e := reported ((List.range i).filterMap es)
      let r := e.item i
      e.inside .item i = true ∧ r.state ≠ none ∧
        (es i ≠ none ↔ (r.state = some .onLoan ∨ r.state = some .lost) ∧ r.borrower = 0) ∧
        (es i ≠ none → es i = some [r.number % 65536, r.number / 65536, 0, 0, r.due.day, r.due.minute,
          (if r.state = some .onLoan then 2 else 4) + 256 * r.renewCount, 0]) := by decide +kernel

/-- ReportsAreWritten, REPORT_HOLD_SHELF: records 1 and 5, at the bounds of the list. -/
theorem test_ReportsAreWritten_shelf_met :
    let es : List (List Nat) := [[2, 0, 0, 0, 1, 0, 99, 1], [6, 0, 0, 0, 1, 0, 100, 2]]
    ∀ k, k < 2 →
      let e := reported (es.take k)
      let i := [1, 5].getD k 0
      let r := e.item i
      e.inside .item i = true ∧ r.state = some .onHoldShelf ∧ r.queue ≠ [] ∧
        ((reported (es.take (k - 1))).item ([1, 5].getD (k - 1) 0)).deadline ≤ r.deadline ∧
        r.shelfNext = [1, 5].getD (k + 1) 0xFFFF ∧ e.holdBorrower i 0 r.head = .ok (reader 1) ∧
        es.getD k [] = [r.number, 0, 0, 0, 1, 0, r.deadline, r.queue.length] := by decide +kernel

/-- R202, R206: at noon of day 100 the loan of item 1, due on day 99, is the one that is overdue by a day. -/
theorem test_report_overdue :
    reportRun desk (order 23 (0x9000 + 4294967296 * 2) 0 1 0) noon 0x9000
      = { entries := [[1, 0, 0, 0, 1, 0, 99, 1439]] } ∧
    (reportRun desk (order 23 (0x9000 + 4294967296 * 2) 0 2 0) noon 0x9000).entries = [] := by decide +kernel

/-- R202: entries are written as they are found. Borrower 1's first entry, laid over record 2, makes that record FREE before the
walk comes to it. -/
theorem test_report_over_a_table :
    (reportRun desk (order 24 (0x9000 + 4294967296 * 2) 1 0 0) noon 0x9000).entries
      = [[1, 0, 0, 0, 99, 1439, 2, 0], [3, 0, 0, 0, 0, 0, 4, 0]] ∧
    (reportRun desk (order 24 (0x390 + 4294967296 * 2) 1 0 0) noon 0x390).entries = [[1, 0, 0, 0, 99, 1439, 2, 0]] := by
  decide +kernel

/-- PoolWalksListTheMatches: two records that pass the checks, one of them picked, its entry written at 0x9000. -/
theorem test_PoolWalksListTheMatches_met :
    let chosen : Nat → Option (List Nat) := fun i => if i = 0 then some [1] else none
    let pick : ReportPick := fun _ i _ => .ok (chosen i)
    ∀ i, i < 2 →
      let e := reported ((List.range i).filterMap chosen)
      e.inside .item i = true ∧ (e.item i).state ≠ none ∧ pick e i (e.item i) = .ok (chosen i) := by decide +kernel

/-! ## Witnesses: journal -/

/-- PagesAndMarks: 0, 1, 2, 3 and 129 pages with two FULL ones at the old end; a page to free with a sweep DEFERRED at room 0; a
mark at room 64 and 65, in HALTED and without a clock. -/
theorem test_PagesAndMarks_met :
    let ask := fun n => (taken desk (order 18 0 0 n 0) .owner).orderAt kindReleasePages .owner
    let full := (desk.journal.ring.takeWhile fun p => (desk.journal.page p).state == .full).length
    let t := txn .order (.pagesReleased 1 1031) 65 none
    ((ask 0).map Order.a = some 0 ∧ (ask 129).map Order.a = some 129 ∧ 128 < 129 ∧ full < 3 ∧ 2 ≤ full ∧
      ask 2 = some (order 18 0 0 2 0)) ∧
    (desk.journal.oldest = some 0 ∧ (desk.withJournal { desk.journal with room := 0 }).journal.room = 0 ∧
      (desk.withSweep { Sweep.reset with state := .deferred }).sweep.state = .deferred) ∧
    ((busyWith desk t).engine.current = some t ∧ t.kind = .pagesReleased 1 1031 ∧ t.halted = false ∧ t.stamp = some noon ∧
      ¬ t.room ≤ 64 ∧ { t with room := 64 }.room ≤ 64) ∧
    (txn .center .uploadEnded 65 none).kind = .uploadEnded := by decide +kernel

/-- UploadStartedCuts: a FILLING page with 30 entries, one with none, and no FILLING page. -/
theorem test_UploadStartedCuts_met :
    let t := txn .center .uploadStarted 65 none
    let j := desk.journal
    ((busyWith desk t).engine.current = some t ∧ t.kind = .uploadStarted ∧ t.halted = false ∧ t.stamp = some noon) ∧
    (j.filling = some 2 ∧ (j.page 2).count ≠ 0 ∧ j.room - (32 - (j.page 2).count) ≤ 64) ∧
    64 < ({ j with room := 65, filling := none } : Journal).room ∧
    ({ j with filling := some 3 }.filling = some 3 ∧ ({ j with filling := some 3 } : Journal).page 3 = j.page 3 ∧
      (j.page 3).count = 0) := by decide +kernel

/-- EntriesAreAppended: places 30 and 31 of the FILLING page, before a FREE page and before a FULL one; no FILLING page. -/
theorem test_EntriesAreAppended_met :
    let j := desk.journal
    let last := { j with pages := j.pages.set 2 { j.page 2 with count := 31 } }
    let full := { last with pages := last.pages.set 3 { j.page 3 with state := .full, count := 32 } }
    (j.filling = some 2 ∧ (j.page 2).count + 1 < 32) ∧ (last.filling = some 2 ∧ (last.page 2).count + 1 = 32) ∧
    ((last.pages.set 2 { last.page 2 with state := .full, count := 32 }).getD 3 (j.page 0)).state = .free ∧
    ((full.pages.set 2 { full.page 2 with state := .full, count := 32 }).getD 3 (j.page 0)).state ≠ .free ∧
    ({ j with filling := none } : Journal).filling = none := by decide +kernel

/-- Section 8.7, Filling the ring: entry 1095 fills page 2, and page 3 becomes FILLING from 1096. -/
theorem test_filling_the_ring :
    let j := (desk.journal.append places [] 0x8030).view
    let a := j.append places [] 0x8030
    (j.nextSequence = 1095 ∧ j.room = 33 ∧ (j.page 2).count = 31) ∧
    a.target = 0x5800 + 31 * 32 ∧ a.view.nextSequence = 1096 ∧ a.view.room = 32 ∧
    a.view.page 2 = { address := 0x5800, state := .full, first := 1064, count := 32 } ∧
    a.view.page 3 = { address := 0x5C00, state := .filling, first := 1096, count := 0 } := by decide +kernel

/-! ## Witnesses: slips and uploads -/

def textSlips (n : Nat) : List Slip := List.replicate n (textSlip none [])

/-- SlipsAreRequested: 0, 1, 8 and 9 lines, 8 lines that end at the window's end and beyond it; queues of 0, 15 and 16 slips. -/
theorem test_SlipsAreRequested_met :
    let at_ := fun a b => (taken desk (order 21 0 0 a b) .owner).orderAt kindPrintText .owner
    (at_ 8 0xFF40 = some (order 21 0 0 8 0xFF40) ∧ places.inWindow 0xFF40 (24 * 8) = true ∧ 8 ≤ 8 ∧
      places.inWindow 0xFF41 (24 * 8) = false) ∧
    ((at_ 0 0).map Order.a = some 0 ∧ (at_ 9 0).map Order.a = some 9 ∧ 8 < 9) ∧
    ((textSlips 15).length < 16 ∧ 16 ≤ (textSlips 16).length ∧ desk.printer.state = .idle ∧
      desk.desk.state = .opened ∧ State.reset.desk.state = .unanchored) := by decide +kernel

/-- UploadOrdersAct: START_UPLOAD and ABORT_UPLOAD at an IDLE, a sending and an ENDING upload, with the clock set and not; a
START_UPLOAD in a desk that has halted. -/
theorem test_UploadOrdersAct_met :
    let at_ := fun k => (taken desk (order k 0 0 0 0) .owner).orderAt k .owner
    at_ kindStartUpload = some (order 19 0 0 0 0) ∧ at_ kindAbortUpload = some (order 20 0 0 0 0) ∧
    desk.desk.state = .opened ∧ desk.upload.state = .idle ∧ desk.clock.isSet = true ∧
    (let u := { Upload.reset with state := .opening, startedMark := .standing }
     u.state = .opening ∧ u.cutMade = false ∧ u.startedMark = .standing ∧ u.held = none ∧
       (taken (desk.withUpload u) (order 20 0 0 0 0) .owner).orderAt kindAbortUpload .owner = some (order 20 0 0 0 0) ∧
       desk.journal.sendingPage = none) ∧
    (desk.withClock Clock.reset).clock.isSet = false ∧
    ((taken (haltedDesk desk) (order 19 0 0 0 0) .owner).orderAt kindStartUpload .owner = some (order 19 0 0 0 0) ∧
      (haltedDesk desk).desk.state = .halted) := by decide +kernel

def sending (u : Upload) (r : FrameReceiver) : State := (desk.withUpload u).withLine { Line.reset with receiver := r }

/-- FramesAreAnswered: a frame sent; TAKEN and REFUSED with the reference of each kind of frame; a reply timer that runs; an
oldest page that is FULL and in the cut, and one that is not. -/
theorem test_FramesAreAnswered_met :
    let reply := fun kind (n : Nat) => FrameReceiver.good { kind := kind, length := 4, payload := [BitVec.ofNat 8 n, BitVec.ofNat 8 (n / 256), 0, 0] }
    let up := fun st f => { Upload.reset with state := st, frame := some f, sends := 1, replyTimer := some 30 }
    let opening := up .opening (.opening 7 100 600 1093 3)
    let page := up .sending (.page 0x5000 1000 32)
    let closing := up .closing (.closing 1093)
    (sending opening (reply 0x81 0)).acceptedFrame = some (.taken 0) ∧
    (sending page (reply 0x81 1000)).acceptedFrame = some (.taken 1000) ∧
    (sending closing (reply 0x81 1093)).acceptedFrame = some (.taken 1093) ∧
    (sending page (reply 0x82 1000)).acceptedFrame = some (.refused 1000) ∧
    (sending page (reply 0x81 1001)).acceptedFrame = none ∧ (sending page (reply 0x80 1000)).acceptedFrame = none ∧
    (let t := fun n => ({ frame := .closing 1093, begun := n } : Transmission)
     (t 10).begun = ((t 10).frame.octets []).length ∧ (t 9).begun < ((t 9).frame.octets []).length) ∧
    ((sending page .hunting).upload.frame = some (.page 0x5000 1000 32) ∧
      (sending page .hunting).upload.replyTimer = some 30) ∧
    (let j := { desk.journal with cutCount := 1 }
     j.oldest = some 0 ∧ (j.page 0).state = .full ∧ 0 < j.cutCount ∧
       ¬ ((desk.journal.page 0).state = .full ∧ 0 < desk.journal.cutCount)) := by decide +kernel

/-- UploadsReceiveAndEnd: NOTICE and FINISHED in RECEIVING_NOTICES with and without a held notice; an upload to end before and
after its cut, with a page SENDING, with a notice held and one granted, and with an ABORT_UPLOAD that waits. -/
theorem test_UploadsReceiveAndEnd_met :
    let u := { Upload.reset with state := .receivingNotices, noticeTimer := some 30 }
    let n : CenterNotice := { borrower := 0x01A1910F, action := 1, origin := 7, day := 99 }
    let held := { u with held := some { notice := n, granted := false } }
    let frame := FrameReceiver.good { kind := 0x83, length := 10, payload := [0x0F, 0x91, 0xA1, 0x01, 1, 0, 7, 0, 99, 0] }
    let finished := FrameReceiver.good { kind := 0x84, length := 0, payload := [] }
    (sending u frame).acceptedFrame = some (.notice n) ∧ (sending held frame).upload.held ≠ none ∧
    (sending u finished).acceptedFrame = some .finished ∧ (sending u finished).upload.noticeTimer ≠ none ∧
    (u.state ≠ .idle ∧ u.state ≠ .ending ∧ u.held = none ∧ u.startedMark ≠ .granted ∧
      desk.currentOrder = none ∧ u.cutMade = false ∧ { u with cutMade := true }.cutMade = true) ∧
    (held.held = some { notice := n, granted := false } ∧ (held.held.map fun h => { h with granted := true }) =
      some { notice := n, granted := true }) ∧
    (taken desk (order 20 0 0 0 0) (.uploadIdle 1)).currentOrder.map TakenOrder.wait = some (.uploadIdle 1) ∧
    (desk.journal.oldest = some 0 ∧
      ({ desk.journal with pages := desk.journal.pages.set 0 { desk.journal.page 0 with state := .sending } }.page 0).state
        = .sending) := by decide +kernel

/-- LineEventsAct: a good frame that is not taken, a faulty one, one in assembly, a full queue; both levels of LINE_RDY; the
watch, with the line low, in an upload that is ENDING too (which UploadsReceiveAndEnd speaks of as well). -/
theorem test_LineEventsAct_met :
    let stray := sending Upload.reset (.good { kind := 0x84, length := 0, payload := [] })
    let o : RxOctet := { octet := 1, framing := false, parity := false }
    stray.acceptedFrame = none ∧ stray.line.receiver = .good { kind := 0x84, length := 0, payload := [] } ∧
    (sending Upload.reset .faulty).line.receiver = .faulty ∧ 4 ≤ [o, o, o, o].length ∧
    (sending Upload.reset (.inside .empty)).line.receiver = .inside .empty ∧
    { PartialFrame.empty with overrun := true }.overrun = true ∧
    (true ≠ desk.line.ready ∧ desk.line.ready = false ∧ desk.upload.watch = false ∧
      { Upload.reset with watch := true }.watch = true) ∧
    (let ending := desk.withUpload { Upload.reset with state := .ending, watch := true }
     ending.upload.watch = true ∧ ending.line.ready = false ∧ ending.upload.state = .ending) := by decide +kernel

/-! ## Witnesses: completions, faults, chains, commits -/

/-- LabelsComplete: an answer with no session change; one that closes the session; one that opens a session over none and over
another; a loan of an item in the list, of one not in it at 11 and at 12 items. -/
theorem test_LabelsComplete_met :
    let blocked : StationResult := { refused := true, reason := .borrowerBlocked }
    let x : StationResult := { refused := false, reason := .checkedOut, entry := some (lent 1) }
    let opens : StationResult := { refused := false, reason := .sessionOpened, opens := some { number := 2, index := 1 } }
    (blocked.opens = none ∧ blocked.entry = none ∧ blocked.refused = true ∧ (session 1).session = some { number := 1, index := 0 }) ∧
    (opens.opens = some { number := 2, index := 1 } ∧ TxnKind.sessionOpen false ≠ .sessionOpen true) ∧
    (x.opens = none ∧ x.entry = some (lent 1) ∧ TxnKind.checkout ≠ .sessionOpen true) ∧
    ((session 12).items.map SessionItem.item).Nodup ∧ (lent 1).item ∈ (session 12).items.map SessionItem.item ∧
    ((lent 13).item ∉ (session 12).items.map SessionItem.item ∧ 12 ≤ (session 12).items.length) ∧
    ((lent 13).item ∉ (session 11).items.map SessionItem.item ∧ (session 11).items.length < 12) ∧
    16 ≤ (textSlips 16).length := by decide +kernel

/-- FaultsHaltTheDesk: an inquiry of an item on loan to a borrower record that is not in use; a sweep step with a bad item header, and
a notice, an order and a return at a chain whose record stands in a wrong bucket. -/
theorem test_FaultsHaltTheDesk_met :
    let s := (openDesk (tablesOf 6 [{ book 1 .onLoan [] with borrower := 2 }] [reader 1, reader 2] 0xFFFF 0xFFFF 0))
    let t := txn (.station 1) .itemInquiry 65 (some (.item, 1))
    let p := planTxn s t
    let n : CenterNotice := { borrower := 1, action := 2, origin := 7, day := 99 }
    let reason := fun {α : Type} (x : Except TableFault α) => match x with | .ok _ => StateReason.none | .error f => f.reason
    let bad := (openDesk ((0x100, 1#8) :: library)).tables
    let crossed := (openDesk (tablesOf 6 [book 2 .onShelf []] [reader 2] 0xFFFF 0xFFFF 0)).tables
    p.fault.map TableFault.reason = some .tableRecord ∧ reason (bad.touch .item) = .tableHeader ∧
      (goodHeaders crossed = true ∧ reason (crossed.lookup .borrower 1) = .tableBucket ∧
        reason (crossed.lookup .item 1) = .tableBucket) ∧
      (1 ≤ n.borrower ∧ n.borrower ≤ 99999999 ∧ (order 7 0 1 255 0).a ≤ 255) := by decide +kernel

/-- R65, R176: a fault in the read phase of an order in a desk whose upload stands for its mark ends the upload ABORTED, and the
order is refused DESK_HALTED. -/
theorem test_fault_of_an_order_ends_the_upload :
    let o := order 7 0 1 4 0
    let s := (openDesk (tablesOf 6 [] [reader 2] 0xFFFF 0xFFFF 0)).withUpload
      { Upload.reset with state := .opening, startedMark := .standing }
    let t := match exec .setBlock (busyWith (taken s o .engine) (txn .order (.order o) 65 none)) with | .next t => t | _ => s
    t.desk.state = .halted ∧ t.upload.state = .idle ∧ t.upload.endReason = .aborted ∧ t.mem.read16 0x9000 = 3 ∧
      t.mem.read16 0x9002 % 256 = Reason.deskHalted.code := by decide +kernel

/-- Tables whose bucket 1 holds a chain of two records each. -/
def chains : Draft :=
  (openDesk (tablesOf 6 [{ book 257 .withdrawn [] with chainNext := 1 }, book 1 .withdrawn []]
    [{ reader 257 with chainNext := 1 }, reader 1] 0xFFFF 0xFFFF 0)).tables

/-- TablesChange: a free record; the chain of bucket 1, whose second item record and first borrower record are taken out. -/
theorem test_TablesChange_chains_met :
    let d := chains
    ((d.header .item).freeHead < (d.header .item).capacity ∧ d.inside .item 6 = true ∧
      (d.chainRecord .item 6).inUse = some false ∧ (d.chainRecord .item 6).next < (d.header .item).capacity) ∧
    (d.itemHeader.capacity ≤ 65534 ∧ d.borrowerHeader.capacity = 3 ∧ (d.item 1).number % 2 ^ d.itemHeader.exponent = 1 ∧
      (d.borrower 0).number % 2 ^ d.borrowerHeader.exponent = 1) ∧
    ((∀ k ∈ [0, 1], d.walkable .item 1 k) ∧ d.chained .item (d.bucketWord .item 1) ([0] ++ 1 :: [])) ∧
    ((∀ k ∈ [0, 1], d.walkable .borrower 1 k) ∧ d.chained .borrower (d.bucketWord .borrower 1) ([] ++ 0 :: [1])) := by
  simp only [Draft.walkable, Draft.chained, List.cons_append, List.nil_append]
  decide +kernel

/-- TablesChange: the bucket words of the two tables stand at addresses of their own. -/
theorem test_TablesChange_buckets_met :
    chains.bucketAddress .borrower 1 ≠ chains.bucketAddress .item 1 := by decide +kernel

/-- TablesChange: a record placed between the two on the shelf, and on an empty shelf; the second of the two taken off. -/
theorem test_TablesChange_shelf_met :
    let e := desk.tables
    (e.shelfList ([1] ++ [5]) ∧ 0 ∉ [1] ++ [5] ∧ (∀ k ∈ [1], (e.item k).deadline ≤ 99) ∧
      (∀ k ∈ [5], 99 < (e.item k).deadline)) ∧
    chains.shelfList ([] ++ []) ∧ e.shelfList ([1] ++ 5 :: []) := by
  simp only [Draft.shelfList, Draft.shelved, List.cons_append, List.nil_append]
  decide +kernel

/-- LookupsFindTheNumber: a chain of two records of bucket 1, and the empty chain of a bucket whose word is null. -/
theorem test_LookupsFindTheNumber_met :
    let d := (openDesk (tablesOf 6 books [{ reader 257 with chainNext := 1 }, reader 1] 1 5 2)).tables
    ((d.header .borrower).capacity ≤ 65534 ∧ [0, 1].length ≤ (d.header .borrower).capacity) ∧
    (∀ i ∈ [0, 1], d.walkable .borrower (1 % 2 ^ (d.header .borrower).exponent) i) ∧
    d.chained .borrower (d.bucketWord .borrower (1 % 2 ^ (d.header .borrower).exponent)) [0, 1] ∧
    d.chained .borrower (d.bucketWord .borrower (3 % 2 ^ (d.header .borrower).exponent)) [] := by
  simp only [Draft.walkable, Draft.chained]
  decide +kernel

/-- ReplayCompletesTheCommit: one image of two words outside the slot, and an entry, at the window's ends. -/
theorem test_ReplayCompletesTheCommit_met :
    let x : Image := { target := 0x810, counted := true, words := [2, 7] }
    library.wf = true ∧ x.storable places 0x80B0 ∧ [x].length ≤ 8 ∧ (List.replicate 16 65535).length = 16 ∧
      (∀ w ∈ List.replicate 16 65535, w < 65536) ∧ 0xFFE0 < 4294967296 ∧ places.inWindow 0xFFE0 32 = true ∧
      0x80B0 + 616 ≤ 0xFFE0 ∧ library.read16 0x80B0 ≠ 1 := by
  unfold Image.storable
  decide +kernel

/-- DaysAreCounted: on the calendar of section 6.8, the first open day from 9021 is 9022; none of 9101 to 9132 is open; the
clamps of the worked cases; an overdue loan and one on time. -/
theorem test_DaysAreCounted_met :
    (9021 ≤ 9022 ∧ 9022 ≤ 9021 + 31 ∧ workedRules.isOpen 9022 = true ∧
      ∀ x, x < 9022 → 9021 ≤ x → workedRules.isOpen x = false) ∧
    ((List.range 32).all fun i => !workedRules.isOpen (9101 + i)) = true ∧
    (9000 ≤ 9017 ∧ 9017 < 9022 ∧ 9000 ≤ 9016 ∧ 9016 ≤ 9017 ∧ workedRules.isOpen 9016 = true ∧
      workedRules.isOpen 9017 = false) ∧
    (9022 < 9030 ∧ ¬ 9030 < 9022) := by
  refine ⟨⟨by decide, by decide, by decide +kernel, fun x h1 h2 => ?_⟩, by decide +kernel, by decide +kernel, by decide⟩
  obtain rfl : x = 9021 := by omega
  decide +kernel

/-- DaysAreCounted, entries: the last pair of first digits, and the classes above their ranges; policy entries of both kinds. -/
theorem test_DaysAreCounted_entries_met :
    (Rules.reset.classMap[9999999999 / 100000000]? = some 0 ∧ Rules.reset.policy[8 * min 16 15 + min 8 7]? = some .nothing ∧
      Rules.reset.classes[min 8 7]? = some { loanLimit := 0, holdLimit := 0, fineBlockLimit := 0 } ∧
      Rules.reset.holdsAllowed[min 16 15]? = some false) ∧
    { PolicyEntry.nothing with kind := .days }.kind = .days ∧ { PolicyEntry.nothing with kind := .hours }.kind = .hours := by
  decide

/-! ## Witnesses: line, printer, invariants -/

/-- DaysAreCounted, hours: at minute 1000 of day 9022 three hours reach into day 9023 and 72 hours beyond day 9036; on day 9022 after
its close nothing is left; a loan overdue by 14 and by 15 days. -/
theorem test_DaysAreCounted_hours_met :
    let hours := fun d => workedRules.weekly.getD ((d + 5) % 7) { openMinute := 0, closeMinute := 0 }
    let gives := fun d => if workedRules.isOpen d = true then
      (hours d).closeMinute - (if d = 9022 then max 1000 (hours d).openMinute else (hours d).openMinute) else 0
    (gives 9022 < 3 * 60 ∧ 3 * 60 ≤ gives 9022 + gives 9023) ∧
    ((List.range 15).map fun i => gives (9022 + i)).sum < 120 * 60 ∧
    (workedRules.isOpen 9022 = true ∧ 1000 < (hours 9022).closeMinute ∧ ¬ 1085 < (hours 9022).closeMinute) ∧
    (9023 < 9037 ∧ 9037 ≤ 9023 + 14 ∧ 9023 + 14 < 9038) := by decide +kernel

/-- SentFramesAreReceived: payloads of 0 and of 1040 octets; samples of an octet, and a start bit that is rejected. -/
theorem test_SentFramesAreReceived_met :
    ([] : List Byte).length ≤ 1040 ∧ (List.replicate 1040 (0 : Byte)).length ≤ 1040 ∧
    sampleOctet .none ((octetLevels .none 0xA5).map fun high => if high then 7#3 else 0#3)
      = some { octet := 0xA5, framing := false, parity := false } ∧
    sampleOctet .none (List.replicate 10 7) = none ∧ desk.line.queue.length < 4 ∧
    4 ≤ { desk.line with queue := List.replicate 4 { octet := 0, framing := false, parity := false } }.queue.length := by
  decide +kernel

/-- SentFramesAreReceived, the frames of section 9.4 as R206 lays them out: OPEN with branch 14, (9022, 1230), cut sequence 2068 and 3
pages; PAGE(2000) with 32 entries; CLOSE(2068). -/
theorem test_octets_of_the_frames_sent :
    ((PartFrame.opening 14 9022 1230 2068 3).octets []).take 16
      = [0xA5, 0x01, 12, 0, 14, 0, 0x3E, 0x23, 0xCE, 0x04, 0x14, 0x08, 0, 0, 3, 0] ∧
    (let m := cells 0x5000 [0x07D0, 0]
     ((PartFrame.page 0x5000 2000 32).octets m).take 12 = [0xA5, 0x02, 0x06, 0x04, 0xD0, 0x07, 0, 0, 32, 0, 0xD0, 0x07] ∧
       ((PartFrame.page 0x5000 2000 32).octets m).length = 1 + 3 + 1030 + 2) ∧
    ((PartFrame.closing 2068).octets []).take 8 = [0xA5, 0x03, 4, 0, 0x14, 0x08, 0, 0] := by decide +kernel

/-- SentFramesAreReceived, errors: R163: 0xA5 sent with EVEN parity has the parity bit 0, so a 1 there is PARITY, and a low stop
bit is FRAMING. R166: a length of 1041, and a CRC that is wrong in its last octet. -/
theorem test_SentFramesAreReceived_errors_met :
    let bits := fun parity stop : BitVec 3 => ([false, true, false, true, false, false, true, false, true].map fun high =>
      if high then 7#3 else 1#3) ++ [parity, stop]
    (sampleOctet .even (bits 4 6) = some { octet := 0xA5, framing := false, parity := false } ∧
      sampleOctet .even (bits 3 1) = some { octet := 0xA5, framing := true, parity := true }) ∧
    (1040 < (0x11#8).toNat + 256 * (0x04#8).toNat ∧ ¬ 1040 < (0x10#8).toNat + 256 * (0x04#8).toNat) ∧
    (let crc := crcOf [0x84, 0, 0]
     ¬ ((crc >>> 8).setWidth 8 = (crc >>> 8).setWidth 8 ∧ (crc.setWidth 8 : Byte) + 1 = crc.setWidth 8)) := by decide +kernel

/-- DotLinesArePrinted: a slip with a line to render, a READY line with paper and without, the last dot line of the only slip and
of one before another; PR_PAPER high and low; a paper timer that runs. -/
theorem test_DotLinesArePrinted_met :
    let p := { desk.printer with queue := textSlips 2, state := .printing, paper := true }
    let ready := { p with buffers := p.buffers.set 0 { state := .ready, bytes := blankDots } }
    let struck := { ready with strobe := some 500, fed := 8 + 28 * ((textSlip none []).lines desk.settings).length + 63 }
    (p.queue[p.composer.slip]? = some (textSlip none []) ∧ p.state = .printing ∧ (p.buffers.get p.renderNext).state = .empty) ∧
    (ready.strobe = none ∧ (ready.buffers.get ready.printNext).state = .ready ∧ ready.paper = true ∧
      { ready with paper := false }.paper = false) ∧
    (struck.strobe ≠ none ∧ struck.queue = textSlip none [] :: textSlips 1 ∧
      8 + 28 * ((textSlip none []).lines desk.settings).length + 64 ≤ struck.fed + 1 ∧
      0 + 1 < 8 + 28 * ((textSlip none []).lines desk.settings).length + 64) ∧
    (true ≠ desk.printer.paper ∧ false ≠ p.paper) ∧
    ({ p with state := .paperOut, paperTimer := some 2000 }.state = .paperOut ∧
      { p with state := .paperOut, paperTimer := some 2000 }.paperTimer ≠ none) := by decide +kernel

/-- DotLinesArePrinted, dates: 22 August 2024 is day 9000 (section 6.8), and 6 June 2179 is day 65535 (R128). -/
theorem test_DotLinesArePrinted_dates_met :
    let leap := fun x : Nat => x % 4 = 0 ∧ (x % 100 ≠ 0 ∨ x % 400 = 0)
    let months := fun y : Nat => [31, if leap y then 29 else 28, 31, 30, 31, 30, 31, 31, 30, 31, 30, 31]
    let day := fun y month d : Nat => ((List.range (y - 2000)).map fun i => if leap (2000 + i) then 366 else 365).sum
      + ((months y).take (month - 1)).sum + (d - 1)
    (day 2024 8 22 = 9000 ∧ 22 ≤ (months 2024).getD 7 0) ∧ (day 2179 6 6 = 65535 ∧ 6 ≤ (months 2179).getD 5 0) ∧
    day 2000 1 1 = 0 := by decide +kernel

/-- R190, R191: a restart finds the count of slips printed rising when the last dot line is being struck, once, and not before. -/
theorem test_restart_counts_no_discarded_slip :
    let p := { desk.printer with queue := textSlips 2, state := .printing, paper := true, strobe := some 500 }
    let early := desk.withPrinter p
    let late := desk.withPrinter { p with fed := 8 + 28 * ((textSlip none []).lines desk.settings).length + 63 }
    (early.interrupt [(.count .slipsPrinted, 9)]).mem = desk.mem ∧
    (late.interrupt [(.count .slipsPrinted, 9), (.count .slipsPrinted, 9)]).mem.read32 (desk.desk.anchor + 0x64)
      = desk.mem.read32 (desk.desk.anchor + 0x64) + 1 := by decide +kernel

/-- R176: a restart in SENDING keeps the end reason while no end can be in progress; NO_REPLY comes into the report only when
the sends have reached the tries. -/
theorem test_restart_keeps_the_end_reason :
    let u := { Upload.reset with
      state := .sending, cutMade := true, sends := 1, frame := some (.page 0x5000 1000 32), replyTimer := some 30 }
    let end_ := fun (v : Upload) code => ((desk.withUpload v).interrupt [(.reportEnd code, 3)]).mem
    end_ u 0 = desk.mem ∧ end_ { u with sends := 2 } 1 = desk.mem ∧ end_ { u with sends := 3 } 0 = desk.mem ∧
    (end_ { u with sends := 3 } 1).read16 (0x8000 + 0x72) = 1 := by decide +kernel

/-- R191: a restart counts no slip lost for a station whose label is pending, which cannot close, nor before the transaction of
the one that closes has committed; a session that can close on its idle deadline is another matter. -/
theorem test_restart_counts_no_slip_lost_without_a_request :
    let full := fun (t : Station) =>
      (printing (at1 t)).withPrinter { desk.printer with queue := textSlips 16, state := .printing }
    let ready := { session 1 with deadline := some 60 }
    let lost := fun (s : State) => (s.interrupt [(.count .slipsLost, 9)]).mem
    let label : Label := { kind := .item, number := 1, direction := .forward, tag := .wand }
    lost (full { ready with slot := some label }) = desk.mem ∧ lost (full (session 1)) = desk.mem ∧
    (lost (full ready)).read32 (0x8000 + 0x68) = 1 ∧
    (let other := busyWith (full { session 1 with inFlight := some label })
        (txn (.station 1) (.sessionOpen true) 65 (some (.borrower, 2)))
     lost other = desk.mem ∧
       (other.interrupt [(.engine, 0), (.count .slipsLost, 9)]).mem.read32 (0x8000 + 0x68) = 1) ∧
    (let t := txn (.station 1) .returnItem 65 (some (.item, 1))
     let s := busyWith (full (session 1)) t
     (planTxn s t).fault = none ∧ 0 < ((planTxn s t).writes s).length ∧ s.settings.slipFlags.getLsbD 1 = true ∧
       16 ≤ s.printer.queue.length ∧ s.orderAt kindSetStationMode .flight = none ∧ s.orderAt kindPrintText .owner = none) := by
  decide +kernel

/-- StepsKeepTheStateSound, StepsKeepADeskQuiet, UnanchoredDeskIsBlind: the machine after reset, with a write of ANCHOR in its
queue, is sound and quiet and UNANCHORED, and a step of it answers a next state. -/
theorem test_steps_from_a_sound_and_quiet_state :
    let s := State.reset.withPending [.anchorWrite 0x8000 []]
    s.sound ∧ s.quiet ∧ s.desk.state = .unanchored ∧ ∃ t, step s = .next t ∧ t.desk.state = .anchoring := by
  refine ⟨?_, ?_, rfl, _, rfl, rfl⟩
  · simp only [State.sound, Channel.bounded, Station.bounded, Settings.bounded]
    exact ⟨rfl, by decide +kernel, by decide +kernel, by decide +kernel, by decide, by decide, by decide +kernel, by decide +kernel,
      by decide, by decide +kernel, by decide, trivial⟩
  · simp only [State.quiet, Station.quiet]
    decide +kernel

/-! ## One step each -/

/-- What a command leaves, for tests of one step. -/
def after (c : Instr) (s : State) : State :=
  match exec c s with
  | .next t => t
  | _ => s

/-- Section 1.6, A glitch inside a bar: 12 ticks under a limit of 20 join the bar of 300. -/
theorem test_glitch_joins_the_bar :
    let s := (wand { capturing .space (some { kind := .bar, width := 300 }) 1 with counter := 0 }).withSettings
      { desk.settings with glitchLimit := 20 }
    ((after (.elementEnd 0 12) s).channel 0).last = some { kind := .bar, width := 312 } ∧
      ((after (.elementEnd 0 12) s).channel 0).mergePending = true := by decide +kernel

/-- Section 1.6, Two passes and an overflow: the 26th push of B finds 103 + 25 widths in the queue. -/
theorem test_overflow_discards_the_sweep :
    let c := { capturing .bar (some { kind := .space, width := 50 }) 25 with
                 complete := [List.replicate 103 100], decoder := .decoding }
    let d := (after (.elementEnd 0 200) (wand c)).channel 0
    d.capture = .settling ∧ d.inCapture = [] ∧ d.complete.length = 1 ∧ d.counters.noise = 1 := by decide +kernel

/-- R94, R120: a checkout of item 5 by borrower 2, who holds it and whose card ends today: due today, CLAMPED, the hold
fulfilled. -/
theorem test_checkout_lends_the_held_item :
    let t := txn (.station 1) .checkout 65 (some (.item, 5))
    let p := planTxn (busyWith (at1 { session 0 with session := some { number := 2, index := 1 } }) t) t
    p.fault = none ∧ p.entry.map EntryBody.kind = some .checkout ∧ p.entry.map EntryBody.value1 = some 100 ∧
      p.entry.map EntryBody.flags = some { clamped := true, holdFulfilled := true } := by decide +kernel

/-- R99, R100: item 1, due on day 99, comes back at noon of day 100: one day late, one day of grace, no fine; its record, the
borrower's, the free list's head and the bucket change. -/
theorem test_return_frees_the_record :
    let t := txn (.station 1) .returnItem 65 (some (.item, 1))
    let p := planTxn (busyWith desk t) t
    p.entry.map EntryBody.flags = some { overdue := true } ∧ p.entry.map EntryBody.value1 = some 0 ∧
      (p.images.map Image.target).length = 4 ∧ 0x310 ∈ p.images.map Image.target ∧ 0xA10 ∈ p.images.map Image.target := by
  decide +kernel

/-- R77: 30 cents paid on 25 owed give 5 back, in the result field of the order block at 0x9000. -/
theorem test_payment_gives_change :
    let o := order 9 0 1 30 0
    let t := after .payFine (busyWith (taken desk o .engine) (txn .order (.order o) 65 none))
    t.mem.read32 0x9008 = 5 ∧ t.mem.readByte 0x9000 = OrderOutcome.done.code ∧
      (BorrowerRecord.read t.mem 0xA10).fines = 0 := by decide +kernel

/-- R193, R204: NOTICE reads the lowest cause below CEILING, and a write of its number clears it. -/
theorem test_notice_read_and_clear :
    let s := desk.withNotices { flags := 0x28#12, ceiling := 16 }
    s.readNotice = 3 ∧ (after (.noticeWrite 3) s).readNotice = 5 ∧ (after (.ceilingWrite 3) s).readNotice = 16 := by
  decide +kernel

/-- R109: 23:59:59 of day 100 is followed by midnight of day 101. -/
theorem test_midnight :
    let s := desk.withClock { day := 100, minute := 1439, second := 59, isSet := true }
    (after .clockSecond s).clock = { day := 101, minute := 0, second := 0, isSet := true } := by decide +kernel

/-- R63, R65: a bad item header (odd change count) halts the desk at a lookup. -/
theorem test_fault_halts_the_desk :
    let s := openDesk ((0x100, 1#8) :: library)
    let t := after .itemInquiry (busyWith s (txn (.station 1) .itemInquiry 65 (some (.item, 1))))
    t.desk.state = .halted ∧ t.desk.reason = .tableHeader ∧ t.readNotice = 0 := by decide +kernel

/-- The queue: the command in front runs, the rest waits. -/
theorem test_step_takes_the_front :
    step (State.reset.withPending [.ceilingWrite 5, .ceilingWrite 6])
      = .next ((State.reset.withPending [.ceilingWrite 6]).withNotices { flags := 0, ceiling := 5 }) := rfl

/-- StepRunsTheFrontCommand, an empty queue: a transmitter idle, one in an octet, and one between two octets with LINE_RDY high and
low; a page asked for. R162: the start bit of the lead octet comes first, and the octet goes on though LINE_RDY falls. -/
theorem test_StepRunsTheFrontCommand_met :
    let t : Transmission := { frame := .closing 1093, begun := 0 }
    let s := desk.withLine { Line.reset with ready := true, transmission := some t }
    let next := fun s : State => match step s with | .next u => u | _ => s
    let u := (next s).withLine { (next s).line with ready := false }
    (desk.pending = [] ∧ s.upload.asking = false ∧ { s.upload with asking := true }.asking = true ∧ s.line.octet.length ≤ 1) ∧
    ((t.frame.octets desk.mem)[0]? = some 0xA5#8 ∧ u.line.ready = false ∧ u.line.transmission ≠ none) ∧
    (u.line.octet = [false, true, false, true, false, false, true, false, true, true] ∧ u.line.tx = false ∧
      (next u).line.octet = u.line.octet.tail) := by decide +kernel
end Sys2Proof.Tests
end

section
/-! SUPPORT. Soundness of a state by its parts: what each part's bound says, that every named update of the state keeps the rest,
and the wand channels (R1 to R9, R19). -/

namespace Sys2Proof.Machine

/-! ## The parts of a sound state -/

def Clock.bounded (c : Clock) : Prop := c.day ≤ 65535 ∧ c.minute ≤ 1439 ∧ c.second ≤ 59

/-- BUSY exactly with a transaction (R84); a hold is asked for only while BUSY (R88). -/
def Engine.consistent (e : Engine) : Prop := (e.state = .busy ↔ e.current ≠ none) ∧ (e.holdAsked = true → e.state = .busy)

/-- At most 16 slip records (R179); IDLE exactly with none (R182). -/
def Printer.bounded (p : Printer) : Prop := p.queue.length ≤ 16 ∧ (p.state = .idle ↔ p.queue = [])

/-- At most four octets wait (R164), and the frame in assembly is in its bounds (R166). -/
def Line.bounded (l : Line) : Prop := l.queue.length ≤ 4 ∧ l.receiver.bounded

theorem State.sound_iff (s : State) :
    s.sound ↔ s.mem.wf = true ∧ (∀ i, (s.channel i).bounded) ∧ (∀ i, (s.station i).bounded) ∧ s.settings.bounded ∧
      s.notices.ceiling ≤ 16 ∧ s.clock.bounded ∧ s.engine.consistent ∧ s.printer.bounded ∧ s.line.bounded := by
  simp only [State.sound, Clock.bounded, Engine.consistent, Printer.bounded, Line.bounded, and_assoc]

section Projections

variable {s : State} (h : s.sound)
include h

theorem State.sound.mem : s.mem.wf = true := (s.sound_iff.1 h).1

theorem State.sound.channel (i : Fin 4) : (s.channel i).bounded := (s.sound_iff.1 h).2.1 i

theorem State.sound.station (i : Fin 4) : (s.station i).bounded := (s.sound_iff.1 h).2.2.1 i

theorem State.sound.settings : s.settings.bounded := (s.sound_iff.1 h).2.2.2.1

theorem State.sound.ceiling : s.notices.ceiling ≤ 16 := (s.sound_iff.1 h).2.2.2.2.1

theorem State.sound.clock : s.clock.bounded := (s.sound_iff.1 h).2.2.2.2.2.1

theorem State.sound.engine : s.engine.consistent := (s.sound_iff.1 h).2.2.2.2.2.2.1

theorem State.sound.printer : s.printer.bounded := (s.sound_iff.1 h).2.2.2.2.2.2.2.1

theorem State.sound.line : s.line.bounded := (s.sound_iff.1 h).2.2.2.2.2.2.2.2

end Projections

/-! ## Soundness under the named updates -/

section Updates

variable {s : State} (h : s.sound)
include h

theorem State.sound.withPending (v : List Instr) : (s.withPending v).sound := h

theorem State.sound.withChoices (v : Nat) : (s.withChoices v).sound := h

theorem State.sound.withDesk (v : Desk) : (s.withDesk v).sound := h

theorem State.sound.withGeometry (v : Geometry) : (s.withGeometry v).sound := h

theorem State.sound.withRules (v : Rules) : (s.withRules v).sound := h

theorem State.sound.withWriter (v : SlateWriter) : (s.withWriter v).sound := h

theorem State.sound.withSweep (v : Sweep) : (s.withSweep v).sound := h

theorem State.sound.withJournal (v : Journal) : (s.withJournal v).sound := h

theorem State.sound.withExecutor (v : Executor) : (s.withExecutor v).sound := h

theorem State.sound.withUpload (v : Upload) : (s.withUpload v).sound := h

theorem State.sound.withMem {m : Memory} (hm : m.wf = true) : (s.withMem m).sound :=
  (s.withMem m).sound_iff.2
    ⟨hm, h.channel, h.station, h.settings, h.ceiling, h.clock, h.engine, h.printer, h.line⟩

theorem State.sound.withSettings {t : Settings} (ht : t.bounded) : (s.withSettings t).sound :=
  (s.withSettings t).sound_iff.2 ⟨h.mem, h.channel, h.station, ht, h.ceiling, h.clock, h.engine, h.printer, h.line⟩

theorem State.sound.withNotices {u : NoticeUnit} (hu : u.ceiling ≤ 16) : (s.withNotices u).sound :=
  (s.withNotices u).sound_iff.2
    ⟨h.mem, h.channel, h.station, h.settings, hu, h.clock, h.engine, h.printer, h.line⟩

theorem State.sound.withClock {c : Clock} (hc : c.bounded) : (s.withClock c).sound :=
  (s.withClock c).sound_iff.2
    ⟨h.mem, h.channel, h.station, h.settings, h.ceiling, hc, h.engine, h.printer, h.line⟩

theorem State.sound.withEngine {e : Engine} (he : e.consistent) : (s.withEngine e).sound :=
  (s.withEngine e).sound_iff.2
    ⟨h.mem, h.channel, h.station, h.settings, h.ceiling, h.clock, he, h.printer, h.line⟩

theorem State.sound.withPrinter {p : Printer} (hp : p.bounded) : (s.withPrinter p).sound :=
  (s.withPrinter p).sound_iff.2
    ⟨h.mem, h.channel, h.station, h.settings, h.ceiling, h.clock, h.engine, hp, h.line⟩

theorem State.sound.withLine {l : Line} (hl : l.bounded) : (s.withLine l).sound :=
  (s.withLine l).sound_iff.2
    ⟨h.mem, h.channel, h.station, h.settings, h.ceiling, h.clock, h.engine, h.printer, hl⟩

theorem State.sound.setChannel (i : Fin 4) {c : Channel} (hc : c.bounded) : (s.setChannel i c).sound := by
  refine (s.setChannel i c).sound_iff.2
    ⟨h.mem, fun j => ?_, h.station, h.settings, h.ceiling, h.clock, h.engine, h.printer, h.line⟩
  by_cases hij : i = j
  · subst hij; rwa [State.setChannel_channel_self]
  · rw [State.setChannel_channel_other s i j c hij]; exact h.channel j

theorem State.sound.setStation (i : Fin 4) {t : Station} (ht : t.bounded) : (s.setStation i t).sound := by
  refine (s.setStation i t).sound_iff.2
    ⟨h.mem, h.channel, fun j => ?_, h.settings, h.ceiling, h.clock, h.engine, h.printer, h.line⟩
  by_cases hij : i = j
  · subst hij; rwa [State.setStation_station_self]
  · rw [State.setStation_station_other s i j t hij]; exact h.station j

theorem State.sound.writeAll (ws : List WordWrite) : (s.writeAll ws).sound := h.withMem (Memory.apply_wf _ ws h.mem)

theorem State.sound.writeGroup (off : Nat) (ws : List WordWrite) : (s.writeGroup off ws).sound := h.writeAll _

theorem State.sound.raise (c : Cause) : (s.raise c).sound := h.withNotices h.ceiling

theorem State.sound.raiseIf (b : Bool) (c : Cause) : (s.raiseIf b c).sound := by
  cases b
  · exact h
  · exact h.raise c

end Updates

/-! ## Channels -/

/-- Counters that stay at 65535 (R19). -/
def WandCounters.bounded (k : WandCounters) : Prop :=
  k.format ≤ 65535 ∧ k.character ≤ 65535 ∧ k.speed ≤ 65535 ∧ k.check ≤ 65535 ∧ k.noise ≤ 65535 ∧ k.repeated ≤ 65535

/-- What R3, R5, R6 and R12 say of a channel, the running element and the counters left out. -/
def Channel.queued (c : Channel) : Prop :=
  c.used ≤ 128 ∧ c.complete.length ≤ 2 ∧ (c.capture = .capturing → c.complete.length ≤ 1 ∧ c.last ≠ none) ∧
    (c.capture ≠ .capturing → c.inCapture = []) ∧ (c.mergePending = true → c.last ≠ none) ∧
    (c.decoder = .decoding ↔ c.complete ≠ [])

theorem Channel.bounded_iff (c : Channel) : c.bounded ↔ c.counter ≤ 65535 ∧ c.queued ∧ c.counters.bounded := by
  simp only [Channel.bounded, Channel.queued, Channel.used, WandCounters.bounded, and_assoc]

theorem sat16_le (n : Nat) : sat16 n ≤ 65535 := Nat.min_le_right _ _

theorem WandCounters.bounded.countNoise {c : Channel} (h : c.counters.bounded) : c.countNoise.counters.bounded := by
  obtain ⟨h1, h2, h3, h4, _, h6⟩ := h
  exact ⟨h1, h2, h3, h4, sat16_le _, h6⟩

theorem Channel.bounded.countMisread {c : Channel} (h : c.bounded) (m : Misread) : (c.countMisread m).bounded := by
  obtain ⟨hw, hq, h1, h2, h3, h4, h5, h6⟩ := c.bounded_iff.1 h
  refine (c.countMisread m).bounded_iff.2 ?_
  cases m
  · exact ⟨hw, hq, sat16_le _, h2, h3, h4, h5, h6⟩
  · exact ⟨hw, hq, h1, sat16_le _, h3, h4, h5, h6⟩
  · exact ⟨hw, hq, h1, h2, sat16_le _, h4, h5, h6⟩
  · exact ⟨hw, hq, h1, h2, h3, sat16_le _, h5, h6⟩

theorem Channel.bounded.countRepeat {c : Channel} (h : c.bounded) : c.countRepeat.bounded := by
  obtain ⟨hw, hq, h1, h2, h3, h4, h5, _⟩ := c.bounded_iff.1 h
  exact c.countRepeat.bounded_iff.2 ⟨hw, hq, h1, h2, h3, h4, h5, sat16_le _⟩

theorem Channel.bounded.advance {c : Channel} (h : c.bounded) (ticks : Nat) : (c.advance ticks).bounded := by
  obtain ⟨_, hq, hk⟩ := c.bounded_iff.1 h
  exact (c.advance ticks).bounded_iff.2 ⟨sat16_le _, hq, hk⟩

/-- A sweep in capture that is whole goes behind the one that waits (R6, R7). -/
theorem Channel.queued.completeSweep {c : Channel} (hu : c.used ≤ 128) (hl : c.complete.length ≤ 1)
    (hm : c.mergePending = true → c.last ≠ none) : c.completeSweep.queued := by
  have hused : c.completeSweep.used = c.used := by simp [Channel.completeSweep, Channel.used]
  have hlen : c.completeSweep.complete.length = c.complete.length + 1 := by simp [Channel.completeSweep]
  refine ⟨hused ▸ hu, by omega, fun hc => ?_, fun _ => rfl, hm, ?_⟩
  · simp [Channel.completeSweep] at hc
  · simp [Channel.completeSweep]

/-- The discard of the sweep in capture (R8). -/
theorem Channel.queued.discardSweep {c : Channel} (h : c.queued) {n : CaptureState} (hn : n ≠ .capturing) :
    (c.discardSweep n).queued := by
  obtain ⟨hu, hl, _, _, _, hd⟩ := h
  have hused : (c.discardSweep n).used ≤ c.used := by
    simp [Channel.discardSweep, Channel.used, Channel.countNoise, Channel.withCounters]
  exact ⟨hused.trans hu, hl, fun hc => absurd hc hn, fun _ => rfl, nofun, hd⟩

/-- A push while capturing leaves the channel in bounds, also with the last element gone to another state (R7, R8). -/
theorem Channel.bounded.push {c : Channel} (h : c.bounded) (hc : c.capture = .capturing) {n : CaptureState}
    (hn : n ≠ .capturing) : (c.push n).bounded := by
  obtain ⟨hw, hq, hk⟩ := c.bounded_iff.1 h
  unfold Channel.push
  split
  · exact h
  · next e he =>
    split
    · next hlt =>
      obtain ⟨_, hl, hcap, _, hm, hd⟩ := hq
      refine (Channel.bounded_iff _).2 ⟨hw, ⟨?_, hl, hcap, fun hne => absurd hc hne, hm, hd⟩, hk⟩
      simp only [Channel.used, List.length_append, List.length_singleton] at hlt ⊢
      omega
    · exact (Channel.bounded_iff _).2 ⟨hw, hq.discardSweep hn, hk.countNoise⟩

/-- The element that has ended becomes the last one (R3). -/
theorem Channel.bounded.withLast {c : Channel} (h : c.bounded) (e : Element) : { c with last := some e }.bounded := by
  obtain ⟨hw, ⟨hu, hl, hcap, hin, _, hd⟩, hk⟩ := c.bounded_iff.1 h
  exact (Channel.bounded_iff _).2 ⟨hw, ⟨hu, hl, fun hc => ⟨(hcap hc).1, nofun⟩, hin, fun _ => nofun, hd⟩, hk⟩

theorem Channel.bounded.beginSweep {c : Channel} (h : c.bounded) (hc : c.capture = .quiet) (e : Element) :
    (c.beginSweep e).bounded := by
  obtain ⟨hw, ⟨hu, hl, _, hin, _, hd⟩, hk⟩ := c.bounded_iff.1 h
  have hempty : c.inCapture = [] := hin (by simp [hc])
  unfold Channel.beginSweep
  split
  · next hlt =>
    refine (Channel.bounded_iff _).2 ⟨hw, ⟨?_, hl, fun _ => ⟨Nat.le_of_lt_succ hlt, nofun⟩, fun _ => rfl, fun _ => nofun, hd⟩, hk⟩
    simpa only [Channel.used, hempty] using hu
  · exact (Channel.bounded_iff _).2
      ⟨hw, ⟨hu, hl, nofun, fun _ => hempty, fun _ => nofun, hd⟩, hk.countNoise⟩

theorem Channel.bounded.trueElement {c : Channel} (h : c.bounded) (e : Element) : (c.trueElement e).bounded := by
  unfold Channel.trueElement
  split
  · exact h.withLast e
  · exact h.withLast e
  · next hc _ => exact h.beginSweep hc e
  · next hc => exact (h.push hc (by decide)).withLast e

/-- The line changes its level: another element runs, and what is told of the last one is merged or not (R1, R3). -/
theorem Channel.bounded.nextElement {c : Channel} (h : c.bounded) (l : ElementKind) :
    { c with counter := 0, level := l }.bounded := by
  obtain ⟨_, hq, hk⟩ := c.bounded_iff.1 h
  exact (Channel.bounded_iff _).2 ⟨Nat.zero_le _, hq, hk⟩

theorem Channel.bounded.withMerge {c : Channel} (h : c.bounded) (b : Bool) (hb : b = true → c.last ≠ none) :
    { c with mergePending := b }.bounded := by
  obtain ⟨hw, ⟨hu, hl, hcap, hin, _, hd⟩, hk⟩ := c.bounded_iff.1 h
  exact (Channel.bounded_iff _).2 ⟨hw, ⟨hu, hl, hcap, hin, hb, hd⟩, hk⟩

theorem Channel.bounded.endElement {c : Channel} (h : c.bounded) (glitch : Nat) : (c.endElement glitch).bounded := by
  have next := h.nextElement c.level.other
  unfold Channel.endElement
  dsimp only
  split
  · exact (next.withMerge false nofun).trueElement _
  · split
    · exact (next.withLast _).withMerge false nofun
    · split
      · exact (next.withLast _).withMerge true fun _ => nofun
      · exact next.trueElement _

theorem Channel.bounded.endSweep {c : Channel} (h : c.bounded) (hc : c.capture = .capturing) : c.endSweep.bounded := by
  obtain ⟨hw, ⟨hu, _, hcap, _, _, _⟩, hk⟩ := c.bounded_iff.1 h
  unfold Channel.endSweep
  split
  · exact (Channel.bounded_iff _).2 ⟨hw, Channel.queued.completeSweep hu (hcap hc).1 nofun, hk⟩
  · split
    · next hlt =>
      obtain ⟨hl, hlast⟩ := hcap hc
      obtain ⟨e, he⟩ := Option.ne_none_iff_exists'.1 hlast
      obtain ⟨hw', ⟨hu', _, _, _, hm', _⟩, hk'⟩ := (Channel.bounded_iff _).1 (h.push hc (n := .quiet) (by decide))
      refine (Channel.bounded_iff _).2 ⟨hw', Channel.queued.completeSweep hu' ?_ hm', hk'⟩
      simpa only [Channel.push, he, if_pos hlt] using hl
    · exact h.push hc (by decide)

theorem Channel.bounded.beginQuiet {c : Channel} (h : c.bounded) : c.beginQuiet.bounded := by
  unfold Channel.beginQuiet
  split
  · next hc =>
    obtain ⟨hw, ⟨hu, hl, _, hin, hm, hd⟩, hk⟩ := c.bounded_iff.1 h
    exact (Channel.bounded_iff _).2 ⟨hw, ⟨hu, hl, nofun, fun _ => hin (by simp [hc]), hm, hd⟩, hk⟩
  · exact h
  · next hc => exact h.endSweep hc

theorem Channel.bounded.testQuiet {c : Channel} (h : c.bounded) (limit : Nat) : (c.testQuiet limit).bounded := by
  unfold Channel.testQuiet
  split
  · exact h.beginQuiet
  · exact h

theorem Channel.bounded.releaseSweep {c : Channel} (h : c.bounded) : c.releaseSweep.bounded := by
  obtain ⟨hw, ⟨hu, hl, hcap, hin, hm, _⟩, hk⟩ := c.bounded_iff.1 h
  have hlen : c.complete.tail.length ≤ c.complete.length := by simp
  have hused : c.releaseSweep.used ≤ c.used := by
    rcases hx : c.complete with _ | ⟨w, ws⟩ <;> simp [Channel.releaseSweep, Channel.used, hx]
  refine c.releaseSweep.bounded_iff.2
    ⟨hw, ⟨hused.trans hu, hlen.trans hl, fun hc => ⟨hlen.trans (hcap hc).1, (hcap hc).2⟩, hin, hm, ?_⟩, hk⟩
  rcases hx : c.complete.tail with _ | ⟨w, ws⟩ <;> simp [Channel.releaseSweep, hx]

theorem Channel.bounded_of_reset {l : ElementKind} {p : Bool} : { Channel.reset with level := l, mirrorPending := p }.bounded :=
  (Channel.bounded_iff _).2 (by simp [Channel.reset, Channel.queued, Channel.used, WandCounters.bounded, WandCounters.zero])

theorem State.sound.setMirror {s : State} (h : s.sound) (i : Fin 4) (b : Bool) :
    (s.setChannel i { s.channel i with mirrorPending := b }).sound := h.setChannel i (h.channel i)

end Sys2Proof.Machine
end

section
/-! SUPPORT. The bounds of the printer, the line, the settings, the clock, the engine and the stations under their operations. -/

namespace Sys2Proof.Machine

/-! ## The printer -/

theorem Printer.bounded.start {p : Printer} (h : p.bounded) (hq : p.queue ≠ []) : p.start.bounded :=
  ⟨h.1, nofun, fun he => absurd he hq⟩

/-- While a slip is printed or the paper is out, the queue is not empty (R182). -/
theorem Printer.bounded.queue_ne_nil {p : Printer} (h : p.bounded) (hs : p.state ≠ .idle) : p.queue ≠ [] :=
  fun hq => hs (h.2.2 hq)

theorem Printer.bounded_enqueue {p : Printer} (hlt : p.queue.length < 16) (x : Slip) : (p.enqueue x).bounded := by
  unfold Printer.enqueue
  split
  · exact ⟨by simp [Printer.start]; omega, by simp [Printer.start]⟩
  · next hs => exact ⟨by simp; omega, by simp [hs]⟩

theorem Printer.bounded.runOut {p : Printer} (h : p.bounded) (hs : p.state ≠ .idle) : p.runOut.bounded :=
  ⟨h.1, by simp [Printer.runOut, Printer.start, h.queue_ne_nil hs]⟩

theorem Printer.bounded.finishSlip {p : Printer} (h : p.bounded) (hs : p.state ≠ .idle) : p.finishSlip.bounded := by
  have hlen : p.queue.tail.length ≤ 16 := (by simp : p.queue.tail.length ≤ p.queue.length).trans h.1
  unfold Printer.finishSlip
  split
  · exact ⟨Nat.zero_le _, by simp⟩
  · next hne => exact ⟨hlen, by simpa [hs] using hne⟩

theorem Printer.bounded_restart (p : Printer) : p.restart.bounded :=
  ⟨Nat.zero_le _, fun _ => rfl, fun _ => rfl⟩

/-! ## The line -/

/-- One octet more keeps a frame in assembly in its bounds (R166). -/
theorem PartialFrame.take_bounded {p : PartialFrame} (hl : p.length ≤ 1040) (hp : p.payload.length ≤ 16) (b : Byte) :
    (p.take b).bounded := by
  have hb := b.isLt
  unfold PartialFrame.take
  dsimp only
  split
  · exact ⟨hl, hp⟩
  · split
    · exact ⟨by dsimp only; omega, hp⟩
    · split
      · split
        · trivial
        · exact ⟨by dsimp only; omega, hp⟩
      · split
        · refine ⟨hl, ?_⟩
          dsimp only
          split
          · rw [List.length_append, List.length_singleton]; omega
          · exact hp
        · split
          · exact ⟨hl, hp⟩
          · split <;> trivial

theorem FrameReceiver.bounded.take {r : FrameReceiver} (h : r.bounded) (o : RxOctet) : (r.take o).bounded := by
  cases r with
  | hunting =>
    simp only [FrameReceiver.take]
    split
    · exact ⟨Nat.zero_le _, Nat.zero_le _⟩
    · trivial
  | inside p =>
    simp only [FrameReceiver.take]
    split
    · trivial
    · exact PartialFrame.take_bounded h.1 h.2 o.octet
  | good f => trivial
  | faulty => trivial

theorem takeOctets_bounded (n : Nat) {r : FrameReceiver} (q : List RxOctet) (h : r.bounded) :
    (takeOctets r q n).1.bounded ∧ (takeOctets r q n).2.length ≤ q.length := by
  induction n generalizing r q with
  | zero => simpa only [takeOctets, Nat.le_refl, and_true] using h
  | succ n ih =>
    cases q with
    | nil => simpa only [takeOctets, Nat.le_refl, and_true] using h
    | cons o rest =>
      simp only [takeOctets]
      split
      · obtain ⟨h1, h2⟩ := ih rest (h.take o)
        exact ⟨h1, h2.trans (Nat.le_succ _)⟩
      · exact ⟨h, Nat.le_refl _⟩

theorem Line.bounded.takeOctets {l : Line} (h : l.bounded) (n : Nat) : (l.takeOctets n).bounded := by
  obtain ⟨h1, h2⟩ := takeOctets_bounded n l.queue h.2
  exact ⟨h2.trans h.1, h1⟩

theorem Line.bounded.resume {l : Line} (h : l.bounded) : l.resume.bounded :=
  Line.bounded.takeOctets (l := { l with receiver := .hunting }) ⟨h.1, trivial⟩ _

theorem Line.bounded.lose {l : Line} (h : l.bounded) : l.lose.bounded := by
  unfold Line.lose
  split
  · next p hp => exact ⟨h.1, by simpa [hp, FrameReceiver.bounded] using h.2⟩
  · exact h

theorem Line.bounded.push {l : Line} (h : l.bounded) (o : RxOctet) : (l.push o).bounded := by
  unfold Line.push
  split
  · next hlt => exact ⟨by rw [List.length_append, List.length_singleton]; omega, h.2⟩
  · exact h.lose

theorem Line.bounded.completes {l : Line} (h : l.bounded) (framing : Bool) : (l.completes framing).bounded := h

theorem Line.bounded.receive {l : Line} (h : l.bounded) (p : Parity) (bits : List (BitVec 3)) :
    (l.receive p bits).bounded := by
  unfold Line.receive
  split
  · exact h.completes false
  · exact (h.completes _).push _

theorem Line.bounded.changeParity {l : Line} (h : l.bounded) (old new : Parity) : (l.changeParity old new).bounded := by
  unfold Line.changeParity
  split <;> exact h

theorem Line.bounded_restart (l : Line) : l.restart.bounded := ⟨Nat.zero_le _, trivial⟩

/-! ## Settings and clock -/

theorem le_clampTo {lo hi v : Nat} : lo ≤ (clampTo lo hi v).1 := Nat.le_max_left _ _

theorem clampTo_le {lo hi v : Nat} (h : lo ≤ hi) : (clampTo lo hi v).1 ≤ hi := Nat.max_le.2 ⟨h, Nat.min_le_right _ _⟩

/-- Every setting is copied into its range (R203). -/
theorem copySettings_bounded (m : Memory) (a : Nat) : (copySettings m a).1.bounded :=
  ⟨⟨le_clampTo, clampTo_le (by decide)⟩, clampTo_le (by decide), ⟨le_clampTo, clampTo_le (by decide)⟩,
    ⟨le_clampTo, clampTo_le (by decide)⟩, ⟨le_clampTo, clampTo_le (by decide)⟩, ⟨le_clampTo, clampTo_le (by decide)⟩,
    ⟨le_clampTo, clampTo_le (by decide)⟩, ⟨le_clampTo, clampTo_le (by decide)⟩, ⟨le_clampTo, clampTo_le (by decide)⟩⟩

/-- The clock stops at the end of its range (R109). -/
theorem Clock.bounded.tick {c : Clock} (h : c.bounded) (he : c.atEnd = false) : c.tick.bounded := by
  obtain ⟨hd, hm, hs⟩ := h
  simp only [Clock.atEnd, Bool.and_eq_false_iff, beq_eq_false_iff_ne] at he
  unfold Clock.tick
  split
  · exact ⟨hd, hm, by dsimp only; omega⟩
  · split
    · exact ⟨hd, by dsimp only; omega, Nat.zero_le _⟩
    · exact ⟨by dsimp only; omega, Nat.zero_le _, Nat.zero_le _⟩

/-! ## The engine -/

theorem Engine.consistent_idle {e : Engine} (h : e.consistent) (hs : e.state ≠ .busy) (st : EngineState) (hst : st ≠ .busy) :
    Engine.consistent { e with state := st, holdAsked := false } := by
  have hnone : e.current = none := by
    by_contra hc
    exact hs (h.1.2 hc)
  exact ⟨by simp [hst, hnone], nofun⟩

theorem Engine.consistent_reset : Engine.reset.consistent := ⟨by decide, nofun⟩

/-- The hold is asked for while BUSY (R88). -/
theorem Engine.consistent.askHold {e : Engine} (h : e.consistent) (hb : e.state = .busy) :
    Engine.consistent { e with holdAsked := true } := ⟨h.1, fun _ => hb⟩

theorem Engine.consistent_release (e : Engine) : e.release.consistent :=
  ⟨by cases hh : e.holdAsked <;> simp [Engine.release, hh], nofun⟩

/-! ## Stations -/

theorem replaceItem_map_item (e : SessionItem) (xs : List SessionItem) :
    (replaceItem e xs).map SessionItem.item = xs.map SessionItem.item := by
  induction xs with
  | nil => rfl
  | cons x xs ih =>
    simp only [replaceItem]
    split
    · next hx => simp [hx]
    · simp [ih]

theorem Station.bounded.replaceItem {t : Station} (h : t.bounded) (e : SessionItem) :
    { t with items := Machine.replaceItem e t.items }.bounded := by
  obtain ⟨hl, hn, hc, hs⟩ := h
  have hm := replaceItem_map_item e t.items
  have hlen : (Machine.replaceItem e t.items).length = t.items.length := by simpa using congrArg List.length hm
  exact ⟨hlen ▸ hl, hm ▸ hn, hc, hs⟩

theorem Station.bounded.addItem {t : Station} (h : t.bounded) (e : SessionItem) (hlt : t.items.length < 12)
    (hnew : ¬ (t.items.any fun x => x.item == e.item) = true) : { t with items := t.items ++ [e] }.bounded := by
  obtain ⟨_, hn, hc, hs⟩ := h
  refine ⟨by rw [List.length_append, List.length_singleton]; omega, ?_, hc, hs⟩
  rw [List.map_append, List.nodup_append]
  refine ⟨hn, by simp, fun x hx y hy hxy => hnew ?_⟩
  obtain ⟨z, hz, rfl⟩ := List.mem_map.1 hx
  rw [List.mem_singleton.1 (show y ∈ [e.item] from hy)] at hxy
  exact List.any_eq_true.2 ⟨z, hz, by simpa using hxy⟩

/-- An emptied list, or one with a single entry. -/
theorem Station.bounded.withItems {t : Station} (h : t.bounded) {xs : List SessionItem} (hx : xs.length ≤ 1) :
    { t with items := xs }.bounded := by
  obtain ⟨_, _, hc, hs⟩ := h
  refine ⟨by dsimp only; omega, ?_, hc, hs⟩
  rcases xs with _ | ⟨x, _ | ⟨y, ys⟩⟩
  · simp
  · simp
  · simp at hx

theorem Station.bounded.offerDiscarded {t : Station} (h : t.bounded) (o : SlateOutcome) : (t.offerDiscarded o).bounded := by
  unfold Station.offerDiscarded
  split <;> exact h

theorem Station.bounded.offer {t : Station} (h : t.bounded) (o : SlateOutcome) (p : Producer) : (t.offer o p).bounded := by
  unfold Station.offer
  split <;> exact h

theorem Station.bounded.settle {t : Station} (h : t.bounded) (timeout : Nat) : (t.settle timeout).bounded := h

theorem Station.bounded.discard {t : Station} (h : t.bounded) (l : Label) : (t.discard l).bounded :=
  h.offerDiscarded (l.discarded t.items.length)

theorem Station.bounded.discardPending {t : Station} (h : t.bounded) : t.discardPending.bounded := by
  unfold Station.discardPending
  split
  · exact h
  · exact Station.bounded.offerDiscarded (t := { t with slot := none }) h _

/-- The slate writer takes the outcome and the next sequence, which wraps at 16 bits (R37). -/
theorem Station.bounded.takeOutcome {t : Station} (h : t.bounded) :
    { t with buffer := none, sequence := t.nextSequence }.bounded :=
  ⟨h.1, h.2.1, h.2.2.1, Nat.le_of_lt_succ (Nat.mod_lt _ (by decide))⟩

theorem Station.bounded_restart {t : Station} (h : t.bounded) : t.restart.bounded :=
  ⟨Nat.zero_le _, List.nodup_nil, Nat.zero_le _, h.2.2.2⟩

end Sys2Proof.Machine
end

section
/-! SUPPORT. Every operation shared by the blocks keeps a sound state sound: orders, slips, stations, the center line, the executor
and the clock. Each lemma names the operations its definition goes through. -/

namespace Sys2Proof.Machine

section Operations

variable {s : State} (h : s.sound)
include h

/-! ## Orders, groups and slips -/

theorem State.sound.finishOrder (r : OrderResult) : (s.finishOrder r).sound := by
  obtain ⟨ws, e, he⟩ := s.finishOrder_blocks r
  exact he ▸ (h.writeAll ws).withExecutor e

theorem State.sound.orderWaits (w : OrderWait) : (s.orderWaits w).sound := h.withExecutor _

theorem State.sound.closeList (status : ListStatus) : (s.closeList status).sound := by
  unfold State.closeList
  split
  · exact h
  · exact ((h.writeAll _).raise _).withExecutor _

theorem State.sound.countPrinter (off : Nat) : (s.countPrinter off).sound := by
  unfold State.countPrinter
  split
  · exact h.writeAll _
  · exact h

theorem State.sound.requestSlip (x : Slip) : (s.requestSlip x).sound := by
  unfold State.requestSlip
  split
  · next hlt => exact h.withPrinter (Printer.bounded_enqueue hlt x)
  · exact h.countPrinter _

theorem State.sound.writeField (group off v : Nat) : (s.writeField group off v).sound := by
  unfold State.writeField
  split
  · exact h.writeAll _
  · exact h

theorem State.sound.count16 (group off : Nat) : (s.count16 group off).sound := h.writeField _ _ _

theorem State.sound.countReport (off : Nat) : (s.countReport off).sound := h.count16 _ _

theorem State.sound.writeFault (n : FaultNote) : (s.writeFault n).sound := h.writeAll _

theorem State.sound.listFault (r : StateReason) (a : Nat) : (s.listFault r a).sound := (h.writeFault _).raise _

theorem State.sound.takeSettings {t : Settings} (ht : t.bounded) : (s.takeSettings t).sound :=
  (h.withSettings ht).withLine (h.line.changeParity _ _)

/-! ## Stations -/

/-- A station whose list, closed scans and sequence stay as they are. -/
theorem State.sound.keepStation (i : Fin 4) {t : Station} (hl : t.items = (s.station i).items := by rfl)
    (hc : t.closedScans = (s.station i).closedScans := by rfl) (hq : t.sequence = (s.station i).sequence := by rfl) :
    (s.setStation i t).sound := by
  refine h.setStation i ?_
  have ht := h.station i
  unfold Station.bounded at ht ⊢
  rwa [hl, hc, hq]

theorem State.sound.requestDueDate (i : Fin 4) : (s.requestDueDate i).1.sound := by
  unfold State.requestDueDate
  dsimp only
  split
  · exact h.requestSlip _
  · exact h

theorem State.sound.closeSession (i : Fin 4) : (s.closeSession i).1.sound := by
  unfold State.closeSession
  split
  · exact h
  · have hr := h.requestDueDate i
    exact hr.setStation i ((hr.station i).withItems (Nat.zero_le _))

theorem State.sound.recordItem (i : Fin 4) (e : SessionItem) : (s.recordItem i e).1.sound := by
  unfold State.recordItem
  dsimp only
  split
  · exact h.setStation i ((h.station i).replaceItem e)
  · next hnew =>
    split
    · next hlt => exact h.setStation i ((h.station i).addItem e hlt hnew)
    · have hr := h.requestDueDate i
      exact hr.setStation i ((hr.station i).withItems (Nat.le_refl _))

theorem State.sound.wandArrival (i : Fin 4) (l : Label) : (s.wandArrival i l).sound := by
  obtain ⟨hl, hn, _, hs⟩ := h.station i
  have hscan : Station.bounded { s.station i with closedScans := sat16 ((s.station i).closedScans + 1) } :=
    ⟨hl, hn, sat16_le _, hs⟩
  unfold State.wandArrival
  dsimp only
  split
  · exact (h.setStation i hscan).setMirror i true
  · split
    · exact h.keepStation i
    · exact h.setStation i ((h.station i).discard l)

theorem State.sound.repeatCheck (i : Fin 4) (l : Label) : (s.repeatCheck i l).sound := by
  unfold State.repeatCheck
  dsimp only
  split
  · exact (h.keepStation i).setChannel i (h.channel i).countRepeat
  · exact (h.keepStation i).wandArrival i l

theorem State.sound.applyResult (i : Fin 4) (r : StationResult) : (s.applyResult i r).1.sound := by
  unfold State.applyResult
  split
  · exact h.setStation i ((h.station i).withItems (Nat.zero_le _))
  · exact h.recordItem i _
  · split
    · exact h.closeSession i
    · exact h

theorem State.sound.closeBefore (i : Fin 4) (k : TxnKind) : (s.closeBefore i k).1.sound := by
  unfold State.closeBefore
  split
  · exact h.closeSession i
  · exact h

theorem State.sound.completeLabel (i : Fin 4) (k : TxnKind) (r : StationResult) (lost : Bool) :
    (s.completeLabel i k r lost).sound := by
  have hb := (h.closeBefore i k).applyResult i r
  unfold State.completeLabel
  dsimp only
  split
  · refine hb.setStation i (Station.bounded.settle (Station.bounded.offer ?_ _ _) _)
    exact hb.station i
  · refine hb.setStation i (Station.bounded.offer ?_ _ _)
    exact hb.station i

theorem State.sound.closeWithOutcome (i : Fin 4) (p : Producer) : (s.closeWithOutcome i p).sound := by
  have hc := h.closeSession i
  exact hc.setStation i ((hc.station i).offer _ p)

theorem State.sound.setMode (i : Fin 4) (m : Mode) (count : Nat) : (s.setMode i m count).sound := by
  refine State.sound.finishOrder (h.setStation i ?_) _
  exact (h.station i).discardPending

theorem State.sound.changeMode (i : Fin 4) (m : Mode) : (s.changeMode i m).sound := by
  have h1 := h.setStation i (h.station i).discardPending
  unfold State.changeMode
  dsimp only
  split
  · exact h1.setMode i m 0
  · split
    · exact (h1.closeWithOutcome i _).setMode i m _
    · exact (h1.closeWithOutcome i _).orderWaits _

theorem State.sound.produceOn (i : Fin 4) (p : Producer) : (s.produceOn i p).sound := by
  cases p with
  | completion => exact h.keepStation i
  | idleClose => exact h
  | modeChange count mode =>
    simp only [State.produceOn]
    split
    · exact (h.keepStation i).finishOrder _
    · exact h.setMode i mode count
  | keyedClosed => exact h.finishOrder _

theorem State.sound.keyedArrival (i : Fin 4) (l : Label) : (s.keyedArrival i l).sound := by
  unfold State.keyedArrival
  dsimp only
  split
  · split
    · exact (h.setStation i ((h.station i).offer _ _)).finishOrder _
    · exact (h.setStation i ((h.station i).offer _ _)).orderWaits _
  · split
    · exact (h.keepStation i).orderWaits _
    · exact h.orderWaits _

theorem State.sound.writeOutcome (i : Fin 4) (o : SlateOutcome) : (s.writeOutcome i o).sound := by
  have hw := (((h.writeAll (slateWrites s.mem (slateAddress s.geometry i) o (s.station i).nextSequence)).raise
    .stationOutcome).setStation i (h.station i).takeOutcome).withWriter { s.writer with outcomeTurn := i + 1 }
  unfold State.writeOutcome
  dsimp only
  split
  · exact hw.finishOrder _
  · exact hw

/-! ## The center line -/

theorem State.sound.beginOctet : s.beginOctet.sound := by
  unfold State.beginOctet
  split
  · exact h
  · split
    · exact h
    · split
      · exact h.withLine h.line
      · exact h

theorem State.sound.transmitBit : s.transmitBit.sound := by
  unfold State.transmitBit
  split
  · exact h.withLine h.line
  · exact (h.withLine (l := { s.line with octet := [] }) h.line).beginOctet

theorem State.sound.sendFrame (f : PartFrame) : (s.sendFrame f).sound := (h.withUpload _).withLine h.line

theorem State.sound.resendFrame (f : PartFrame) : (s.resendFrame f).sound :=
  ((h.countReport _).withUpload _).withLine h.line

theorem State.sound.setPageState (p : Nat) (st : PageState) : (s.setPageState p st).sound := (h.writeAll _).withJournal _

theorem State.sound.nextPage : s.nextPage.sound := by
  unfold State.nextPage
  split
  · exact ((h.setPageState _ _).countReport _).sendFrame _
  · exact (h.withUpload _).sendFrame _

theorem State.sound.askPage : s.askPage.sound := by
  unfold State.askPage
  dsimp only
  split
  · exact (h.withChoices _).withUpload _
  · exact (h.withChoices _).nextPage

theorem State.sound.tick : s.tick.sound := by
  unfold State.tick
  dsimp only
  split
  · exact h.transmitBit.nextPage
  · exact h.transmitBit

theorem State.sound.freeOldestPage : s.freeOldestPage.sound := by
  unfold State.freeOldestPage
  split
  · exact h
  · dsimp only
    split
    · exact ((h.writeAll _).withJournal _).withSweep _
    · exact (h.writeAll _).withJournal _

theorem State.sound.uploadIdle : s.uploadIdle.sound := by
  unfold State.uploadIdle
  dsimp only
  split
  · exact (h.withUpload _).finishOrder _
  · exact h.withUpload _

theorem State.sound.finishEnding : s.finishEnding.sound := by
  unfold State.finishEnding
  split
  · exact (h.writeField _ _ _).withUpload _
  · exact h.uploadIdle

theorem State.sound.stopUpload (r : EndReason) : (s.stopUpload r).sound := by
  have h1 := (h.withUpload { s.upload with
    state := .ending, endReason := r, frame := none, asking := false, sends := 0, replyTimer := none, noticeTimer := none,
    watch := false, finishedNoted := false }).withLine (l := { s.line with transmission := none }) h.line
  unfold State.stopUpload
  dsimp only
  split
  · exact h1.setPageState _ _
  · exact h1

theorem State.sound.endUpload (r : EndReason) : (s.endUpload r).sound := by
  have h1 := h.stopUpload r
  unfold State.endUpload
  split
  · exact h
  · dsimp only
    split
    · split
      · exact (h1.countReport _).withUpload _
      · exact ((h1.countReport _).withUpload _).finishEnding
    · split
      · exact h1.withUpload _
      · exact (h1.withUpload _).finishEnding

theorem State.sound.uploadMinute : s.uploadMinute.sound := by
  unfold State.uploadMinute
  split
  · exact h.withUpload _
  · exact h.count16 _ _

theorem State.sound.frameTaken (f : PartFrame) (timeout : Nat) : (s.frameTaken f timeout).sound := by
  cases f with
  | opening => exact (h.withUpload _).askPage
  | page => exact ((h.freeOldestPage.countReport _).withUpload _).askPage
  | closing => exact h.withUpload _

theorem State.sound.stopReplyTimer : s.stopReplyTimer.sound := h.withUpload _

theorem State.sound.replyExpired (f : PartFrame) : (s.replyExpired f).sound := by
  unfold State.replyExpired
  split
  · exact h.resendFrame f
  · exact h.endUpload _

theorem State.sound.resumeLine : s.resumeLine.sound := h.withLine h.line.resume

theorem State.sound.takeNotice (n : CenterNotice) : (s.takeNotice n).sound := by
  unfold State.takeNotice
  dsimp only
  split
  · exact (h.withUpload _).withUpload _
  · exact (h.withUpload _).countReport _

theorem State.sound.discardFrame : s.discardFrame.sound := ((h.count16 _ _).raise _).resumeLine

/-! ## The executor and the clock -/

theorem State.sound.post (a : Nat) : (s.post a).sound := by
  unfold State.post
  split
  · split
    · exact h.listFault _ _
    · exact h.withExecutor _
  · split
    · exact h.raise _
    · exact h.withExecutor _

theorem State.sound.takeUp (l : RunningList) (o : Order) : (s.takeUp l o).sound := by
  unfold State.takeUp
  dsimp only
  split
  · exact (h.withExecutor _).finishOrder _
  · exact h.withExecutor _

theorem State.sound.reloadRules (hs : s.engine.state ≠ .busy) : s.reloadRules.sound :=
  ((h.withRules _).withEngine (Engine.consistent_idle h.engine hs .idle nofun)).finishOrder _

theorem State.sound.dayChange : s.dayChange.sound := by
  unfold State.dayChange
  dsimp only
  split
  · exact (h.raise _).withSweep _
  · exact h.raise _

theorem State.sound.clockEvents (old : Clock) : (s.clockEvents old).sound := by
  have h1 : (if s.clock.day = old.day then s else s.dayChange).sound := by
    split
    · exact h
    · exact h.dayChange
  unfold State.clockEvents
  dsimp only
  split
  · exact h1.uploadMinute
  · exact h1

theorem State.sound.setClockAt {c : Clock} (hc : c.bounded) : (s.setClockAt c).sound := by
  unfold State.setClockAt
  split
  · exact ((h.withClock hc).raise _).withSweep _
  · exact h.withClock hc

theorem State.sound.movePointer (v : Option Nat) : (s.movePointer v).sound := by
  cases v with
  | none => exact h
  | some v => exact h.withExecutor _

theorem State.sound.reportHalted (o : Order) (stamp : Option Stamp) : (s.reportHalted o stamp).sound := by
  unfold State.reportHalted
  split
  · exact h.finishOrder _
  · exact (h.movePointer _).finishOrder _
  · exact ((h.writeAll _).movePointer _).finishOrder _

theorem State.sound.refuseStart : s.refuseStart.sound := by
  unfold State.refuseStart
  split
  · exact h.finishOrder _
  · exact h

theorem State.sound.enterHalted (n : FaultNote) : (s.enterHalted n).sound :=
  ((((h.writeFault n).withDesk _).raise _).endUpload _).refuseStart

theorem State.sound.closeAbandoned : s.closeAbandoned.sound := by
  unfold State.closeAbandoned
  split
  · exact h
  · exact ((h.writeAll _).raise _).withExecutor _

end Operations

theorem State.sound.freePages {s : State} (h : s.sound) (n : Nat) : (s.freePages n).sound := by
  induction n generalizing s with
  | zero => exact h
  | succ n ih => exact ih h.freeOldestPage

end Sys2Proof.Machine
end

section
/-! SUPPORT. The clock a transaction's plan sets is in range: SET_CLOCK alone sets one, and checks it (R111). -/

namespace Sys2Proof.Machine

/-! ## The clock a plan sets -/

/-- Every answer of a read phase is as `P` says. -/
def Yields {ε α : Type} (P : α → Prop) (x : Except ε α) : Prop := ∀ a, x = .ok a → P a

theorem Yields.pure {ε α : Type} {P : α → Prop} {a : α} (h : P a) : Yields P (pure a : Except ε α) := by
  intro b hb
  cases hb
  exact h

theorem Yields.bind {ε α β : Type} {P : β → Prop} {x : Except ε α} {f : α → Except ε β} (h : ∀ a, Yields P (f a)) :
    Yields P (x >>= f) := by
  intro b hb
  cases x with
  | error e => cases hb
  | ok a => exact h a b hb

/-- A clock that a plan sets is within its range (R108, R111). -/
def Plan.timed (p : Plan) : Prop := ∀ c, p.clock = some c → c.bounded

theorem Plan.timed_only (r : TxnResult) : (Plan.only r).timed := nofun

theorem Plan.timed_commits (images : List Image) (e : EntryBody) (count : Int) : (Plan.commits images e count).timed := nofun

theorem Plan.timed.ite {c : Prop} [Decidable c] {p q : Plan} (hp : p.timed) (hq : q.timed) :
    Plan.timed (if c then p else q) := by
  split
  · exact hp
  · exact hq

theorem planOf_timed {r : TxnResult} {x : Except TableFault Plan} (h : Yields Plan.timed x) : (planOf r x).timed := by
  cases x with
  | error f => exact nofun
  | ok p => exact h p rfl

theorem Txn.orderPlan_timed (t : Txn) (c : RoomClass) (clock limit : Bool) {read : Except TableFault Plan}
    (h : Yields Plan.timed read) : (t.orderPlan c clock limit read).timed := by
  unfold Txn.orderPlan
  split
  · exact Plan.timed_only _
  · split
    · exact Plan.timed_only _
    · exact planOf_timed h

theorem Txn.gated_timed (t : Txn) (s : State) (c : RoomClass) (clock : Bool) {read : Except TableFault Plan}
    (h : Yields Plan.timed read) : (t.gated s c clock read).timed := by
  unfold Txn.gated
  split
  · exact Plan.timed_only _
  · exact planOf_timed h

theorem withBorrower_timed {s : State} {n : Nat} {f : Draft → Nat → BorrowerRecord → Except TableFault Plan}
    (h : ∀ d i b, Yields Plan.timed (f d i b)) : Yields Plan.timed (withBorrower s n f) := by
  refine .bind fun d => .bind fun found => ?_
  split
  · exact .pure (Plan.timed_only _)
  · exact h _ _ _

theorem withItem_timed {s : State} {n : Nat} {f : Draft → Option Nat → Except TableFault Plan}
    (h : ∀ d found, Yields Plan.timed (f d found)) : Yields Plan.timed (withItem s n f) :=
  .bind fun d => .bind fun found => h d found

/-! ### Borrower orders -/

theorem planAddBorrower_timed (s : State) (t : Txn) : (planAddBorrower s t).timed := by
  refine t.orderPlan_timed _ _ _ (.bind fun d => .bind fun found => ?_)
  split
  · exact .pure (Plan.timed_only _)
  · refine .bind fun free => ?_
    split
    · exact .pure (Plan.timed_only _)
    · exact .pure (Plan.timed_commits _ _ _)

theorem planUpdateBorrower_timed (s : State) (t : Txn) : (planUpdateBorrower s t).timed := by
  refine t.orderPlan_timed _ _ _ (withBorrower_timed fun d i b => ?_)
  split
  · exact .pure (Plan.timed_only _)
  · exact .pure (Plan.timed_commits _ _ _)

theorem planRemoveBorrower_timed (s : State) (t : Txn) : (planRemoveBorrower s t).timed := by
  refine t.orderPlan_timed _ _ _ (withBorrower_timed fun d i b => ?_)
  split
  · exact .pure (Plan.timed_only _)
  · exact .bind fun d1 => .pure (Plan.timed_commits _ _ _)

theorem planSetBlock_timed (s : State) (t : Txn) : (planSetBlock s t).timed :=
  t.orderPlan_timed _ _ _ (withBorrower_timed fun _ _ _ => .pure (Plan.timed_commits _ _ _))

theorem planClearBlock_timed (s : State) (t : Txn) : (planClearBlock s t).timed := by
  refine t.orderPlan_timed _ _ _ (withBorrower_timed fun d i b => ?_)
  split
  · split
    · exact .pure (Plan.timed_only _)
    · exact .pure (Plan.timed_commits _ _ _)
  · split
    · exact .pure (Plan.timed_only _)
    · exact .pure (Plan.timed_commits _ _ _)

theorem planPayFine_timed (s : State) (t : Txn) : (planPayFine s t).timed :=
  t.orderPlan_timed _ _ _ (withBorrower_timed fun _ _ _ => .pure (Plan.timed_commits _ _ _))

theorem planAdjustFine_timed (s : State) (t : Txn) : (planAdjustFine s t).timed :=
  t.orderPlan_timed _ _ _ (withBorrower_timed fun _ _ _ => .pure (Plan.timed_commits _ _ _))

theorem planNotice_timed (s : State) (t : Txn) (n : CenterNotice) : (planNotice s t n).timed := by
  unfold planNotice
  split
  · exact Plan.timed_only _
  · split
    · exact Plan.timed_only _
    · refine planOf_timed (.bind fun d => .bind fun found => ?_)
      split
      · exact .pure (Plan.timed_only _)
      · dsimp only
        split
        · exact .pure nofun
        · split
          · exact .pure (Plan.timed_only _)
          · exact .pure nofun

/-! ### Labels -/

theorem planSessionOpen_timed (s : State) (t : Txn) : (planSessionOpen s t).timed := by
  refine t.gated_timed s _ _ (.bind fun d => .bind fun found => ?_)
  split
  · exact .pure (Plan.timed_only _)
  · dsimp only
    split
    · exact .pure (Plan.timed_only _)
    · exact .pure (Plan.timed_only _)

theorem planSessionRefresh_timed (s : State) (t : Txn) : (planSessionRefresh s t).timed :=
  t.gated_timed s _ _ (.pure (Plan.timed_only _))

theorem planNoBorrower_timed (s : State) (t : Txn) : (planNoBorrower s t).timed :=
  t.gated_timed s _ _ (.pure (Plan.timed_only _))

theorem planWrongLabel_timed (s : State) (t : Txn) : (planWrongLabel s t).timed :=
  t.gated_timed s _ _ (.pure (Plan.timed_only _))

theorem renewalFromPolicy_timed (s : State) (t : Txn) (d : Draft) (i : Nat) (b : BorrowerRecord) :
    (renewalFromPolicy s t d i b).timed := by
  unfold renewalFromPolicy
  dsimp only
  split
  · exact Plan.timed_only _
  · split
    · exact Plan.timed_only _
    · split
      · exact Plan.timed_only _
      · exact nofun

theorem planRenewal_timed (s : State) (t : Txn) : (planRenewal s t).timed := by
  refine t.gated_timed s _ _ (.bind fun d0 => ?_)
  split
  · exact .pure (Plan.timed_only _)
  · refine .bind fun d => .bind fun found => ?_
    split
    · exact .pure (Plan.timed_only _)
    · split
      · exact .pure (Plan.timed_only _)
      · split
        · exact .pure (Plan.timed_only _)
        · dsimp only
          split
          · exact .pure (Plan.timed_only _)
          · exact .pure (renewalFromPolicy_timed _ _ _ _ _)

theorem checkoutPass_timed (s : State) (t : Txn) (d : Draft) (b : BorrowerRecord) (found : Option Nat) (p : PolicyEntry) :
    Yields Plan.timed (checkoutPass s t d b found p) := by
  unfold checkoutPass
  split
  · exact .pure (Plan.timed_only _)
  · split
    · refine .bind fun free => ?_
      split
      · exact .pure (Plan.timed_only _)
      · exact .pure nofun
    · unfold checkoutHeld
      dsimp only
      split
      · exact .bind fun d1 => .pure nofun
      · exact .pure nofun

theorem checkoutState_timed (s : State) (t : Txn) (d : Draft) (b : BorrowerRecord) (found : Option Nat) (p : PolicyEntry) :
    Yields Plan.timed (checkoutState s t d b found p) := by
  unfold checkoutState
  split
  · exact checkoutPass_timed _ _ _ _ _ _
  · split
    · split
      · exact .pure (renewalFromPolicy_timed _ _ _ _ _)
      · exact .pure (Plan.timed_only _)
    · exact .pure (Plan.timed_only _)
    · exact .pure (Plan.timed_only _)
    · split
      · exact checkoutPass_timed _ _ _ _ _ _
      · exact .pure (Plan.timed_only _)

theorem planCheckout_timed (s : State) (t : Txn) : (planCheckout s t).timed := by
  refine t.gated_timed s _ _ (.bind fun d0 => ?_)
  split
  · exact .pure (Plan.timed_only _)
  · dsimp only
    split
    · exact .pure (Plan.timed_only _)
    · refine .bind fun d => .bind fun found => ?_
      split
      · exact .pure (Plan.timed_only _)
      · exact checkoutState_timed _ _ _ _ _ _

theorem returnItemRecord_timed (s : State) (t : Txn) (d : Draft) (i : Nat) (x : Settled) :
    Yields Plan.timed (returnItemRecord s t d i x) := by
  unfold returnItemRecord
  split
  · exact .bind fun d1 => .pure nofun
  · exact .bind fun y => .pure nofun

theorem planReturn_timed (s : State) (t : Txn) : (planReturn s t).timed := by
  refine t.gated_timed s _ _ (.bind fun d0 => .bind fun found => ?_)
  split
  · exact .pure (Plan.timed_only _)
  · split
    · exact .pure (Plan.timed_only _)
    · exact .pure (Plan.timed_only _)
    · exact .bind fun d => .bind fun b => returnItemRecord_timed _ _ _ _ _
    · exact .bind fun d => .bind fun b => returnItemRecord_timed _ _ _ _ _
    · exact .bind fun d => returnItemRecord_timed _ _ _ _ _

theorem planBorrowerInquiry_timed (s : State) (t : Txn) : (planBorrowerInquiry s t).timed := by
  refine t.gated_timed s _ _ (.bind fun d => .bind fun found => ?_)
  split
  · exact .pure (Plan.timed_only _)
  · exact .pure (Plan.timed_only _)

theorem itemInquiryOf_timed (t : Txn) (d : Draft) (i : Nat) : Yields Plan.timed (itemInquiryOf t d i) := by
  unfold itemInquiryOf
  dsimp only
  split
  · exact .pure (Plan.timed_only _)
  all_goals exact .bind fun b => .pure (Plan.timed_only _)

theorem planItemInquiry_timed (s : State) (t : Txn) : (planItemInquiry s t).timed := by
  refine t.gated_timed s _ _ (.bind fun d0 => .bind fun found => ?_)
  split
  · exact .pure (Plan.timed_only _)
  · split
    · exact itemInquiryOf_timed _ _ _
    · exact .bind fun d => itemInquiryOf_timed _ _ _

/-! ### Holds, items, marks and reports -/

theorem placeHoldItem_timed (t : Txn) (d : Draft) (j : Nat) (b : BorrowerRecord) (item : Nat) (found : Option Nat) :
    Yields Plan.timed (placeHoldItem t d j b item found) := by
  unfold placeHoldItem
  dsimp only
  split
  · split
    · exact .pure (Plan.timed_only _)
    · split
      · exact .pure (Plan.timed_only _)
      · exact .pure (Plan.timed_commits _ _ _)
  · split
    · exact .pure (Plan.timed_only _)
    · refine .bind fun free => ?_
      split
      · exact .pure (Plan.timed_only _)
      · exact .pure (Plan.timed_commits _ _ _)

theorem planPlaceHold_timed (s : State) (t : Txn) : (planPlaceHold s t).timed := by
  refine t.orderPlan_timed _ _ _ (withBorrower_timed fun d0 j b => ?_)
  dsimp only
  split
  · exact .pure (Plan.timed_only _)
  · refine .bind fun d => .bind fun found => ?_
    split
    · exact placeHoldItem_timed _ _ _ _ _ _
    · exact .pure (Plan.timed_only _)

theorem cancelQuiet_timed (t : Txn) (d : Draft) (i j k : Nat) (b : BorrowerRecord) (item : Nat) :
    Yields Plan.timed (cancelQuiet t d i j k b item) := by
  unfold cancelQuiet
  dsimp only
  split
  · exact .bind fun d1 => .pure (Plan.timed_commits _ _ _)
  · exact .pure (Plan.timed_commits _ _ _)

theorem planCancelHold_timed (s : State) (t : Txn) : (planCancelHold s t).timed := by
  refine t.orderPlan_timed _ _ _ (withBorrower_timed fun d0 j b => .bind fun d => .bind fun found => ?_)
  split
  · exact .pure (Plan.timed_only _)
  · split
    · exact .pure (Plan.timed_only _)
    · split
      · exact .bind fun m => .pure nofun
      · exact cancelQuiet_timed _ _ _ _ _ _ _

theorem planSweepStep_timed (s : State) (t : Txn) : (planSweepStep s t).timed := by
  unfold planSweepStep
  split
  · exact Plan.timed_only _
  · exact Plan.timed_only _
  · refine planOf_timed (.bind fun d0 => .bind fun head => ?_)
    split
    · exact .pure (Plan.timed_only _)
    · refine .bind fun d => .bind fun b => ?_
      split
      · exact .pure (Plan.timed_only _)
      · exact .bind fun m => .pure nofun

theorem planDeclareLost_timed (s : State) (t : Txn) : (planDeclareLost s t).timed := by
  refine t.orderPlan_timed _ _ _ (withItem_timed fun d0 found => ?_)
  split
  · exact .pure (Plan.timed_only _)
  · split
    · exact .pure (Plan.timed_only _)
    · refine .bind fun d => .bind fun b => ?_
      split
      · exact .pure (Plan.timed_only _)
      · exact .pure (Plan.timed_commits _ _ _)

theorem planWithdraw_timed (s : State) (t : Txn) : (planWithdraw s t).timed := by
  refine t.orderPlan_timed _ _ _ (withItem_timed fun d found => ?_)
  split
  · refine .bind fun free => ?_
    split
    · exact .pure (Plan.timed_only _)
    · exact .pure (Plan.timed_commits _ _ _)
  · split
    · split
      · exact .bind fun d1 => .bind fun b => .pure (Plan.timed_commits _ _ _)
      · exact .pure (Plan.timed_only _)
    all_goals exact .pure (Plan.timed_only _)

theorem planRelease_timed (s : State) (t : Txn) : (planRelease s t).timed := by
  refine t.orderPlan_timed _ _ _ (withItem_timed fun d found => ?_)
  split
  · exact .pure (Plan.timed_only _)
  · split
    · exact .pure (Plan.timed_only _)
    · exact .bind fun d1 => .pure (Plan.timed_commits _ _ _)

/-- SET_CLOCK sets the reading that its operand check lets pass (R111). -/
theorem planSetClock_timed (s : State) (t : Txn) : (planSetClock s t).timed := by
  unfold planSetClock Txn.orderPlan
  dsimp only
  split
  · exact Plan.timed_only _
  · split
    · exact Plan.timed_only _
    · next hlimit =>
      intro c hc
      obtain rfl : t.order.clock = c := by simpa [setClockPlan] using hc
      simpa [clockLimit, and_assoc, Clock.bounded, Order.clock] using hlimit

theorem planFormatTables_timed (s : State) (t : Txn) : (planFormatTables s t).timed := by
  refine t.orderPlan_timed _ _ _ (.pure ?_)
  split
  · exact Plan.timed_only _
  · exact nofun

theorem markPlan_timed (s : State) (t : Txn) (before : List WordWrite) (view : Journal) (e : EntryBody) :
    (markPlan s t before view e).timed := by
  unfold markPlan
  split
  · exact nofun
  · exact nofun

theorem planReport_timed (s : State) (t : Txn) : (planReport s t).timed := by
  unfold planReport
  split
  · exact Plan.timed_only _
  · split
    · exact nofun
    · exact nofun

theorem planOrder_timed (s : State) (t : Txn) (o : Order) : (planOrder s t o).timed :=
  .ite (planFormatTables_timed s t) <|
  .ite (planAddBorrower_timed s t) <|
  .ite (planUpdateBorrower_timed s t) <|
  .ite (planRemoveBorrower_timed s t) <|
  .ite (planSetBlock_timed s t) <|
  .ite (planClearBlock_timed s t) <|
  .ite (planPayFine_timed s t) <|
  .ite (planAdjustFine_timed s t) <|
  .ite (planDeclareLost_timed s t) <|
  .ite (planWithdraw_timed s t) <|
  .ite (planRelease_timed s t) <|
  .ite (planSetClock_timed s t) <|
  .ite (planPlaceHold_timed s t) <|
  .ite (planCancelHold_timed s t) <| planReport_timed s t

/-- Whatever transaction is in progress, a clock it sets is in range. -/
theorem planTxn_timed (s : State) (t : Txn) : (planTxn s t).timed := by
  unfold planTxn
  split
  · exact planSessionOpen_timed s t
  · exact planSessionRefresh_timed s t
  · exact planNoBorrower_timed s t
  · exact planWrongLabel_timed s t
  · exact planCheckout_timed s t
  · exact planRenewal_timed s t
  · exact planReturn_timed s t
  · exact planBorrowerInquiry_timed s t
  · exact planItemInquiry_timed s t
  · exact planOrder_timed s t _
  · exact markPlan_timed _ _ _ _ _
  · exact planSweepStep_timed s t
  · exact planNotice_timed s t _
  · exact markPlan_timed _ _ _ _ _
  · exact markPlan_timed _ _ _ _ _

end Sys2Proof.Machine
end

section
/-! SUPPORT. Transactions, anchoring and the commands keep a sound state sound. -/

namespace Sys2Proof.Machine

/-! ## Transactions -/

section Transactions

variable {s : State} (h : s.sound)
include h

theorem State.sound.releaseView (p : Plan) : (s.releaseView p).sound := by
  unfold State.releaseView
  dsimp only
  split
  · exact (h.withJournal _).raiseIf _ _
  · exact (((h.withJournal _).raiseIf _ _).withJournal _).raiseIf _ _

theorem State.sound.commit {p : Plan} (hp : p.timed) : (s.commit p).sound := by
  have hw := (h.releaseView p).withMem (Memory.apply_wf s.mem (p.writes s) h.mem)
  unfold State.commit State.armClock
  dsimp only
  split
  · exact hw
  · next c hc => exact hw.setClockAt (hp c hc)

theorem State.sound.requestPlanned (x : Option Slip) : (s.requestPlanned x).1.sound := by
  cases x with
  | none => exact h
  | some x => exact h.requestSlip x

theorem State.sound.releaseEngine : (s.withEngine s.engine.release).sound := h.withEngine (Engine.consistent_release _)

theorem State.sound.handSweep (e : SweepEnd) (changed : Bool) : (s.handSweep e changed).sound := by
  cases e with
  | goesOn => exact h.withSweep _
  | done => exact (h.withSweep _).raiseIf _ _
  | journalFull => exact h.withSweep _

theorem State.sound.handNotice (applied : Bool) : (s.handNotice applied).sound := by
  have h1 := (h.countReport (if applied then offApplied else offIgnored)).withUpload { s.upload with held := none }
  unfold State.handNotice
  dsimp only
  split
  · exact h1.finishEnding
  · split
    · exact h1.endUpload _
    · exact h1

theorem State.sound.handStarted (stamp : Stamp) (refusal : Option Reason) : (s.handStarted stamp refusal).sound := by
  have h1 := (h.withUpload { s.upload with cutMade := true, startStamp := stamp, startedMark := .absent }).writeAll
    (State.cutReport (s.withUpload { s.upload with cutMade := true, startStamp := stamp, startedMark := .absent }) stamp
      s.upload.cutSequence s.journal.cutCount)
  unfold State.handStarted
  dsimp only
  split
  · split
    · exact (h1.finishOrder _).finishEnding
    · exact (h1.finishOrder _).sendFrame _
  · split
    · exact h1.finishEnding
    · exact h1.sendFrame _

theorem State.sound.handOver (t : Txn) (r : TxnResult) (lost committed : Bool) : (s.handOver t r lost committed).sound := by
  unfold State.handOver
  split
  · exact h.completeLabel _ _ _ _
  · exact h.finishOrder _
  · exact h.handSweep _ _
  · exact h.handNotice _
  · exact h.finishOrder _
  · exact h.handStarted _ _
  · exact ((h.withUpload _).raise _).uploadIdle
  · exact h

theorem State.sound.conclude (t : Txn) {p : Plan} (hp : p.timed) : (s.conclude t p).sound :=
  (((((h.commit hp).requestPlanned _).releaseEngine).movePointer _).handOver t _ _ _).raiseIf _ _

theorem State.sound.abandon (t : Txn) (p : Plan) (f : TableFault) : (s.abandon t p f).sound :=
  ((((h.writeAll _).movePointer _).enterHalted _).releaseEngine).handOver t _ _ _

theorem State.sound.carryOut (t : Txn) {p : Plan} (hp : p.timed) : (s.carryOut t p).sound := by
  unfold State.carryOut
  split
  · exact h.conclude t hp
  · exact h.abandon t p _

theorem State.sound.passGrant (g : Grant) : (s.passGrant g).sound := by
  unfold State.passGrant
  split
  · exact h.keepStation _
  · exact h.orderWaits _
  · exact h.orderWaits _
  · exact h.withSweep _
  · exact h.withUpload _
  · exact h.withUpload _
  · exact h.withUpload _

/-! ## Anchoring and restart -/

theorem State.sound.anchorFails (r : StateReason) : (s.anchorFails r).sound :=
  (((h.withDesk _).raise _).raiseIf _ _).withExecutor _

theorem State.sound.openDesk (view : Journal) (rules : Rules) {t : Settings} (ht : t.bounded) :
    (s.openDesk view rules t).sound := by
  have h1 := (((((h.withJournal view).withRules rules).takeSettings ht).raiseIf
    (decide (view.room ≤ Config.reserve)) .journalLow))
  unfold State.openDesk
  dsimp only
  split
  · exact (h1.withDesk _).withSweep _
  · exact h1.withDesk _

theorem State.sound.restartBlocks : s.restartBlocks.sound := by
  have hchannel : ∀ i, s.restartBlocks.channel i = (s.channel i).restart := fun i => by
    simp [State.restartBlocks, State.channel, Vector.get_eq_getElem]
  have hstation : ∀ i, s.restartBlocks.station i = (s.station i).restart := fun i => by
    simp [State.restartBlocks, State.station, Vector.get_eq_getElem]
  exact s.restartBlocks.sound_iff.2
    ⟨h.mem, fun i => hchannel i ▸ Channel.bounded_of_reset, fun i => hstation i ▸ Station.bounded_restart (h.station i),
      h.settings, h.ceiling, h.clock, Engine.consistent_reset, Printer.bounded_restart _, Line.bounded_restart _⟩

theorem State.sound.restart (a : Nat) : (s.restart a).sound :=
  ((h.restartBlocks.withExecutor _).withDesk _).raiseIf _ _

end Transactions

/-- The settings an anchoring ends with are in their ranges (R203). -/
theorem anchorRun_settings {m : Memory} {a : Nat} {view : Journal} {rules : Rules} {t : Settings}
    (h : (anchorRun m a).ending = .opened view rules t) : t.bounded := by
  unfold anchorRun anchorHeaders anchorJournal at h
  dsimp only at h
  split at h
  · cases h
  · split at h
    · cases h
    · split at h
      · cases h
      · split at h
        · cases h
        · split at h
          · cases h
          · cases h
            exact copySettings_bounded _ _

/-! ## Outcomes -/

/-- The next state of an outcome, if it has one, is sound. -/
def SoundNext (x : Host.Outcome State Fault Refusal) : Prop := ∀ t, x = .next t → t.sound

theorem SoundNext.next {t : State} (h : t.sound) : SoundNext (.next t) := by
  intro u hu
  cases hu
  exact h

theorem SoundNext.ite {c : Prop} [Decidable c] {x y : Host.Outcome State Fault Refusal} (hx : SoundNext x)
    (hy : SoundNext y) : SoundNext (if c then x else y) := by
  split
  · exact hx
  · exact hy

section Commands

variable {s : State} (h : s.sound)
include h

theorem State.sound.runTxn (want : TxnKind → Bool) {plan : State → Txn → Plan} (hp : ∀ t, (plan s t).timed) :
    SoundNext (s.runTxn want plan) := by
  unfold State.runTxn
  split
  · exact .next h
  · exact .next (h.carryOut _ (hp _))

theorem State.sound.runReport (kind : Nat) : SoundNext (s.runReport kind) := by
  unfold State.runReport
  split
  · exact .next (h.reportHalted _ _)
  · exact h.runTxn _ (planReport_timed s)

/-! ### Wands and stations -/

theorem execDecodeComplete_sound (wand : Fin 4) : SoundNext (execDecodeComplete wand s) := by
  have hr := (h.channel wand).releaseSweep
  unfold execDecodeComplete
  dsimp only
  split
  · split
    · exact .next ((h.setChannel wand hr).setChannel wand (hr.countMisread _))
    · exact .next ((h.setChannel wand hr).repeatCheck wand _)
  · exact .next h

theorem execCounterMirrorWrite_sound : SoundNext (execCounterMirrorWrite s) := by
  unfold execCounterMirrorWrite
  split
  · split
    · exact .next h
    · refine .next (State.sound.withWriter (State.sound.setChannel (h.writeAll _) _ ?_) _)
      exact h.channel _
  · exact .next h

theorem execSlateOutcomeWrite_sound : SoundNext (execSlateOutcomeWrite s) := by
  unfold execSlateOutcomeWrite
  split
  · split
    · exact .next h
    · split
      · exact .next h
      · exact .next (h.writeOutcome _ _)
  · exact .next h

theorem execOutcomeBufferEnter_sound (i : Fin 4) : SoundNext (execOutcomeBufferEnter i s) := by
  unfold execOutcomeBufferEnter
  dsimp only
  split
  · exact .next h
  · split
    · exact .next ((h.keepStation i).produceOn i _)
    · exact .next h

theorem execIdleDeadlineExpire_sound (i : Fin 4) : SoundNext (execIdleDeadlineExpire i s) := by
  unfold execIdleDeadlineExpire
  dsimp only
  split
  · exact .next h
  · split
    · exact .next (h.keepStation i)
    · exact .next ((h.keepStation i).closeWithOutcome i _)

theorem execToneStepEnd_sound (i : Fin 4) : SoundNext (execToneStepEnd i s) := by
  unfold execToneStepEnd
  dsimp only
  split
  · exact .next h
  · exact .next (h.keepStation i)

theorem execTonePeriodEnd_sound (i : Fin 4) : SoundNext (execTonePeriodEnd i s) := by
  unfold execTonePeriodEnd
  dsimp only
  split
  · exact .next (h.keepStation i)
  · exact .next h

/-! ### The engine and the executor -/

theorem execEngineGrant_sound : SoundNext (execEngineGrant s) := by
  unfold execEngineGrant
  split
  · split
    · exact .next h
    · exact .next ((h.passGrant _).withEngine ⟨by simp, fun _ => rfl⟩)
  · exact .next h

theorem execUploadStarted_sound : SoundNext (execUploadStarted s) := by
  unfold execUploadStarted
  split
  · exact .next h
  · exact .next ((h.withUpload _).carryOut _ (markPlan_timed _ _ _ _ _))

theorem execWorklistWrite_sound (v : RegWord) : SoundNext (execWorklistWrite v s) := by
  unfold execWorklistWrite
  split
  · exact .next h
  · split
    · exact .next (h.raise _)
    · exact .next (h.post _)

theorem execListStart_sound : SoundNext (execListStart s) := by
  unfold execListStart
  split
  · split
    · split
      · exact .next (h.withExecutor _)
      · exact .next ((h.withExecutor _).listFault _ _)
    · exact .next h
  · exact .next h

theorem execOrderTakeUp_sound : SoundNext (execOrderTakeUp s) := by
  unfold execOrderTakeUp
  split
  · exact .next h
  · split
    · exact .next h
    · split
      · exact .next ((h.listFault _ _).closeList _)
      · dsimp only
        split
        · exact .next (h.closeList _)
        · exact .next (h.takeUp _ _)

theorem execEndList_sound : SoundNext (execEndList s) := by
  unfold execEndList
  split
  · exact .next h
  · exact .next ((h.finishOrder _).closeList _)

theorem execSetStationMode_sound : SoundNext (execSetStationMode s) := by
  unfold execSetStationMode
  split
  · exact .next h
  · split
    · exact .next ((h.keepStation _).orderWaits _)
    · exact .next (h.finishOrder _)

theorem execModeChangeFinish_sound : SoundNext (execModeChangeFinish s) := by
  unfold execModeChangeFinish
  split
  · exact .next h
  · split
    · split
      · exact .next h
      · split
        · exact .next ((h.keepStation _).finishOrder _)
        · exact .next (h.changeMode _ _)
    · exact .next h

theorem execKeyedLabel_sound : SoundNext (execKeyedLabel s) := by
  unfold execKeyedLabel
  split
  · exact .next h
  · split
    · exact .next (h.keyedArrival _ _)
    · exact .next (h.finishOrder _)

theorem execKeyedLabelEnter_sound : SoundNext (execKeyedLabelEnter s) := by
  unfold execKeyedLabelEnter
  split
  · exact .next h
  · split
    · split
      · exact .next h
      · exact .next (h.keyedArrival _ _)
    · exact .next h

theorem execReloadRules_sound : SoundNext (execReloadRules s) := by
  unfold execReloadRules
  split
  · split
    · next hb => exact .next ((h.withEngine (h.engine.askHold hb)).orderWaits _)
    · next hb => exact .next (h.reloadRules hb)
  · split
    · exact .next h
    · next hb => exact .next (h.reloadRules hb)
  · exact .next h

theorem execReloadSettings_sound : SoundNext (execReloadSettings s) := by
  unfold execReloadSettings
  split
  · exact .next h
  · exact .next ((h.takeSettings (copySettings_bounded _ _)).finishOrder _)

theorem execReleasePages_sound : SoundNext (execReleasePages s) := by
  unfold execReleasePages
  split
  · exact .next h
  · split
    · exact .next (h.finishOrder _)
    · exact .next ((h.freePages _).orderWaits _)

theorem execPrintText_sound : SoundNext (execPrintText s) := by
  unfold execPrintText
  split
  · exact .next h
  · split
    · exact .next (h.finishOrder _)
    · exact .next ((h.requestSlip _).finishOrder _)

/-! ### Upload, line and clock -/

theorem execStartUpload_sound : SoundNext (execStartUpload s) := by
  unfold execStartUpload
  split
  · exact .next h
  · split
    · exact .next (h.finishOrder _)
    · split
      · exact .next (h.finishOrder _)
      · split
        · exact .next ((h.withUpload _).orderWaits _)
        · exact .next (h.finishOrder _)

theorem execAbortUpload_sound : SoundNext (execAbortUpload s) := by
  unfold execAbortUpload
  split
  · exact .next h
  · split
    · exact .next (h.finishOrder _)
    · exact .next (h.orderWaits _)
    · exact .next ((h.orderWaits _).endUpload _)

theorem execClockSecond_sound : SoundNext (execClockSecond s) := by
  unfold execClockSecond
  split
  · next hc => exact .next ((h.withClock (h.clock.tick (by simpa using hc.2))).clockEvents _)
  · exact .next h

theorem execFrameSent_sound : SoundNext (execFrameSent s) := by
  unfold execFrameSent
  split
  · exact .next h
  · split
    · exact .next ((h.withLine (l := s.line.finish _ _ _) h.line).withUpload _)
    · exact .next h

theorem execTakenFrame_sound : SoundNext (execTakenFrame s) := by
  unfold execTakenFrame
  split
  · exact .next (h.resumeLine.stopReplyTimer.frameTaken _ _)
  · exact .next h

theorem execRefusedFrame_sound : SoundNext (execRefusedFrame s) := by
  unfold execRefusedFrame
  split
  · exact .next (h.resumeLine.stopReplyTimer.replyExpired _)
  · exact .next h

theorem execNoticeFrame_sound : SoundNext (execNoticeFrame s) := by
  unfold execNoticeFrame
  split
  · exact .next (h.resumeLine.takeNotice _)
  · exact .next h

theorem execFinishedFrame_sound : SoundNext (execFinishedFrame s) := by
  unfold execFinishedFrame
  split
  · split
    · exact .next (h.resumeLine.endUpload _)
    · exact .next (h.resumeLine.withUpload _)
  · exact .next h

theorem execStrayFrame_sound : SoundNext (execStrayFrame s) := by
  unfold execStrayFrame
  split
  · split
    · exact .next (h.countReport _).resumeLine
    · exact .next h
  · exact .next h

theorem execFrameDiscard_sound : SoundNext (execFrameDiscard s) := by
  unfold execFrameDiscard
  split
  · exact .next h.discardFrame
  · exact .next h

theorem execFrameGapTimeout_sound : SoundNext (execFrameGapTimeout s) := by
  unfold execFrameGapTimeout
  split
  · exact .next h.discardFrame
  · exact .next h

theorem execReceiveQueueOverrun_sound : SoundNext (execReceiveQueueOverrun s) := by
  unfold execReceiveQueueOverrun
  split
  · exact .next h
  · exact .next ((h.withChoices _).withLine (h.line.completes _).lose)

theorem execReplyTimeout_sound : SoundNext (execReplyTimeout s) := by
  unfold execReplyTimeout
  split
  · exact .next (h.stopReplyTimer.replyExpired _)
  · exact .next h

theorem execNoticeTimeout_sound : SoundNext (execNoticeTimeout s) := .ite (.next (h.endUpload _)) (.next h)

theorem execLineRdyChange_sound (high : Bool) : SoundNext (execLineRdyChange high s) :=
  .ite (.next h) (.next ((h.withLine (l := { s.line with ready := high }) h.line).withUpload _))

theorem execLineDownTimeout_sound : SoundNext (execLineDownTimeout s) := .ite (.next (h.endUpload _)) (.next h)

/-! ### The printer -/

theorem execDotLineRendered_sound : SoundNext (execDotLineRendered s) := by
  unfold execDotLineRendered
  split
  · exact .next h
  · exact .ite (.next (h.withPrinter h.printer)) (.next h)

theorem execDotLineStart_sound : SoundNext (execDotLineStart s) := by
  unfold execDotLineStart
  split
  · next hp =>
    split
    · exact .next (h.withPrinter h.printer)
    · exact .next ((h.withPrinter (h.printer.runOut (by simp [hp.1]))).raise _)
  · exact .next h

theorem execDotLineFed_sound : SoundNext (execDotLineFed s) := by
  unfold execDotLineFed
  split
  · next hp =>
    have h1 := h.withPrinter (p := { s.printer with
      strobe := none, step := some s.settings.stepPeriod, fed := s.printer.fed + 1 }) h.printer
    dsimp only
    split
    · exact .next h1
    · split
      · exact .next h1
      · exact .next (((h1.countPrinter _).withPrinter (h1.printer.finishSlip (by simp [hp.1]))).raise _)
  · exact .next h

theorem execPaperSensorChange_sound (high : Bool) : SoundNext (execPaperSensorChange high s) :=
  .ite (.next h) (.next (h.withPrinter h.printer))

theorem execPaperTimerExpire_sound : SoundNext (execPaperTimerExpire s) := by
  unfold execPaperTimerExpire
  split
  · next hp => exact .next (h.withPrinter (h.printer.start (h.printer.queue_ne_nil (by simp [hp.1]))))
  · exact .next h

/-! ### Registers and anchoring -/

theorem execAnchoringEnd_sound : SoundNext (execAnchoringEnd s) := by
  unfold execAnchoringEnd
  split
  · dsimp only
    split
    · exact .next (h.anchorFails _)
    · exact .next (((h.withGeometry _).writeAll _).enterHalted _).closeAbandoned
    · next hr => exact .next (((h.withGeometry _).writeAll _).openDesk _ _ (anchorRun_settings hr)).closeAbandoned
  · exact .next h

end Commands

end Sys2Proof.Machine
end

section
/-! PROOF. What a restart finds of the works in progress is sound; so is the machine after reset, and every step keeps it so. -/

namespace Sys2Proof.Machine

/-! ## The works a restart stops -/

/-- An effect hands over only clocks and settings in their ranges. -/
def Effect.bounded : Effect → Prop
  | .clock c => c.bounded
  | .settings t => t.bounded
  | _ => True

def Job.bounded (j : Job) : Prop := ∀ e ∈ j.effects, e.2.bounded

theorem State.sound.effect {s : State} (h : s.sound) {e : Effect} (he : e.bounded) : (s.effect e).sound := by
  cases e with
  | raise c => exact h.raise c
  | causes f => exact h.withNotices h.ceiling
  | clock c => exact h.setClockAt he
  | halted r => exact (h.withDesk _).raise _
  | reason r => exact h.withDesk _
  | rules r => exact h.withRules r
  | settings t => exact h.takeSettings he
  | outcomeTaken i => exact h.setStation i (h.station i).takeOutcome
  | listEnds l => exact h.withExecutor _

theorem State.sound.effects (es : List Effect) {s : State} (h : s.sound) (he : ∀ e ∈ es, e.bounded) :
    (es.foldl State.effect s).sound := by
  induction es generalizing s with
  | nil => exact h
  | cons e es ih =>
    exact ih (h.effect (he e (List.mem_cons_self ..))) fun x hx => he x (List.mem_cons_of_mem _ hx)

theorem State.sound.leave {s : State} (h : s.sound) {j : Job} (hj : j.bounded) (n : Nat) : (s.leave j n).sound := by
  have hes : ∀ e ∈ (j.effects.filter fun e => decide (e.1 ≤ n)).map Prod.snd, e.bounded := by
    intro e he
    obtain ⟨x, hx, rfl⟩ := List.mem_map.1 he
    exact hj x (List.mem_of_mem_filter hx)
  have := (h.writeAll (j.writes.take n)).effects _ hes
  rwa [List.foldl_map] at this

/-! ### What the jobs bring about -/

theorem Job.bounded_writes (ws : List WordWrite) : Job.bounded { writes := ws } := fun _ he => absurd he List.not_mem_nil

theorem Job.bounded_empty : Job.bounded {} := Job.bounded_writes []

theorem Job.bounded_whole (ws : List WordWrite) {es : List Effect} (h : ∀ e ∈ es, e.bounded) : (Job.whole ws es).bounded := by
  intro x hx
  obtain ⟨e, he, rfl⟩ := List.mem_map.1 hx
  exact h e he

theorem Job.bounded.thenClose {j : Job} (h : j.bounded) (s : State) : (j.thenClose s).bounded := by
  unfold Job.thenClose
  split
  · exact h
  · intro x hx
    rcases List.mem_append.1 hx with hx | hx
    · exact h x hx
    · rcases List.mem_pair.1 hx with rfl | rfl <;> trivial

theorem effectIf_bounded {b : Bool} {n : Nat} {e : Effect} (h : e.bounded) : ∀ x ∈ effectIf b n e, x.2.bounded := by
  intro x hx
  cases b
  · cases hx
  · obtain rfl := List.mem_singleton.1 hx
    exact h

theorem State.txnJob_bounded (s : State) (t : Txn) : (s.txnJob t).bounded := by
  unfold State.txnJob
  dsimp only
  split
  · exact Job.bounded_whole _ fun e he => by obtain rfl := List.mem_singleton.1 he; trivial
  · intro x hx
    rcases List.mem_append.1 hx with hx | hx
    · rcases List.mem_append.1 hx with hx | hx
      · exact effectIf_bounded (e := .raise .journalLow) trivial x hx
      · split at hx
        · next c _ hc =>
          obtain rfl := List.mem_singleton.1 hx
          exact planTxn_timed s t c hc
        · cases hx
    · exact effectIf_bounded (e := .raise .journalLow) trivial x hx

theorem State.anchoringJob_bounded (s : State) : s.anchoringJob.bounded := by
  unfold State.anchoringJob
  dsimp only
  split
  · exact Job.bounded_empty
  · refine (Job.bounded_whole _ fun e he => ?_).thenClose _
    rcases List.mem_pair.1 he with rfl | rfl <;> trivial
  · next hr =>
    refine Job.bounded.thenClose (fun x hx => ?_) _
    rcases List.mem_append.1 hx with hx | hx
    · exact effectIf_bounded (e := .raise .journalLow) trivial x hx
    · simp only [List.mem_cons, List.not_mem_nil, or_false] at hx
      rcases hx with rfl | rfl | rfl
      · trivial
      · exact anchorRun_settings hr
      · trivial

theorem State.addressJob_bounded (s : State) (r : StateReason) (a : Nat) : (s.addressJob r a).bounded :=
  Job.bounded_whole _ fun e he => by obtain rfl := List.mem_singleton.1 he; trivial

theorem State.countJob_bounded (s : State) (c : GroupCount) : (s.countJob c).bounded := by
  refine Job.bounded_whole _ fun e he => ?_
  obtain ⟨x, -, rfl⟩ := List.mem_map.1 he
  trivial

theorem State.slateJob_bounded (s : State) : s.slateJob.bounded := by
  unfold State.slateJob
  split
  · exact Job.bounded_empty
  · split
    · exact Job.bounded_empty
    · intro x hx
      rcases List.mem_pair.1 hx with rfl | rfl <;> trivial

theorem State.endJob_bounded (s : State) : s.endJob.bounded := by
  unfold State.endJob
  split
  · intro x hx
    simp only [List.mem_cons, List.not_mem_nil, or_false] at hx
    rcases hx with rfl | rfl | rfl <;> trivial
  · exact Job.bounded_empty

theorem State.tooLongJob_bounded (s : State) : s.tooLongJob.bounded := by
  unfold State.tooLongJob
  split
  · exact Job.bounded_empty
  · split
    · refine Job.bounded_whole _ fun e he => ?_
      rcases List.mem_pair.1 he with rfl | rfl <;> trivial
    · exact Job.bounded_empty

theorem Job.bounded.ite {c : Prop} [Decidable c] {j k : Job} (hj : j.bounded) (hk : k.bounded) :
    Job.bounded (if c then j else k) := by
  split
  · exact hj
  · exact hk

theorem State.pageJob_bounded (s : State) (p : Option Nat) (st : PageState) : (s.pageJob p st).bounded := by
  cases p <;> exact Job.bounded_writes _

theorem State.attachedJob_bounded (s : State) (w : Work) : (s.attachedJob w).bounded := by
  cases w with
  | engine =>
    simp only [State.attachedJob]
    split
    · exact s.txnJob_bounded _
    · exact Job.bounded_empty
  | slateOutcome => exact s.slateJob_bounded
  | counterMirror =>
    simp only [State.attachedJob, State.mirrorJob]
    split <;> exact Job.bounded_writes _
  | freedPages =>
    simp only [State.attachedJob, State.freesJob]
    split
    · exact Job.bounded_empty
    · exact .ite Job.bounded_empty (Job.bounded_writes _)
  | pageSending => exact s.pageJob_bounded _ _
  | pageTaken => exact s.pageJob_bounded _ _
  | pageKept => exact s.pageJob_bounded _ _
  | count c => exact s.countJob_bounded c
  | reportEnd code => exact Job.bounded_writes _
  | uploadReport =>
    simp only [State.attachedJob, State.reportJob]
    split <;> exact Job.bounded_writes _
  | orderFields reason count =>
    simp only [State.attachedJob, State.fieldsJob]
    split <;> exact Job.bounded_writes _
  | endList => exact s.endJob_bounded
  | tooLong => exact s.tooLongJob_bounded
  | postFault address => exact .ite (s.addressJob_bounded _ _) Job.bounded_empty
  | listFault =>
    simp only [State.attachedJob, State.listFaultJob]
    split
    · exact Job.bounded_empty
    · exact .ite (s.addressJob_bounded _ _) Job.bounded_empty
  | haltedReport =>
    simp only [State.attachedJob, State.reportHaltedJob]
    split
    · exact Job.bounded_empty
    · refine .ite ?_ Job.bounded_empty
      split <;> exact Job.bounded_writes _

theorem State.job_bounded (s : State) (w : Work) : (s.job w).bounded :=
  .ite (s.attachedJob_bounded w) (.ite s.anchoringJob_bounded Job.bounded_empty)

/-! ### The steps whose order ends -/

theorem mem_nextsOf {xs : List (Host.Outcome State Fault Refusal)} {u : State} (h : u ∈ nextsOf xs) : .next u ∈ xs := by
  obtain ⟨x, hx, hu⟩ := List.mem_filterMap.1 h
  cases x with
  | next v => obtain rfl : v = u := by simpa using hu
              exact hx
  | fault r => cases hu
  | refused r => cases hu

/-- The steps of some outcomes, each with sound next states, have sound states. -/
theorem nextsOf_sound {xs : List (Host.Outcome State Fault Refusal)} (h : ∀ x ∈ xs, SoundNext x) (ws : List Work) :
    ∀ x ∈ (nextsOf xs).map fun u => (ws, u), x.2.sound := by
  intro x hx
  obtain ⟨u, hu, rfl⟩ := List.mem_map.1 hx
  exact h _ (mem_nextsOf hu) u rfl

theorem State.sound.engineNow {s : State} (h : s.sound) : ∀ x ∈ s.engineNow, x.2.sound := by
  intro x hx
  unfold State.engineNow at hx
  split at hx
  · cases hx
  · next t _ =>
    obtain rfl := List.mem_singleton.1 hx
    exact h.carryOut t (planTxn_timed s t)

theorem State.sound.endsNow {s : State} (h : s.sound) : ∀ x ∈ s.endsNow, x.2.sound := by
  intro x hx
  rcases List.mem_append.1 hx with hx | hx
  · refine nextsOf_sound ?_ _ x hx
    simp only [List.forall_mem_cons, List.not_mem_nil, false_implies, implies_true, and_true]
    exact ⟨execFinishedFrame_sound h, execRefusedFrame_sound h, execReplyTimeout_sound h, execNoticeTimeout_sound h,
      execLineDownTimeout_sound h, execAbortUpload_sound h⟩
  · exact h.engineNow x hx

theorem State.sound.ordersNow {s : State} (h : s.sound) : ∀ x ∈ s.ordersNow, x.2.sound := by
  intro x hx
  rcases List.mem_append.1 hx with hx | hx
  · rcases List.mem_append.1 hx with hx | hx
    · rcases List.mem_append.1 hx with hx | hx
      · refine nextsOf_sound ?_ _ x hx
        simp only [List.forall_mem_cons, List.not_mem_nil, false_implies, implies_true, and_true]
        exact ⟨execReloadRules_sound h, execReloadSettings_sound h, execOrderTakeUp_sound h, execSetStationMode_sound h,
          execModeChangeFinish_sound h, execKeyedLabel_sound h, execKeyedLabelEnter_sound h,
          execOutcomeBufferEnter_sound h 0, execOutcomeBufferEnter_sound h 1, execOutcomeBufferEnter_sound h 2,
          execOutcomeBufferEnter_sound h 3, execReleasePages_sound h, execPrintText_sound h, execStartUpload_sound h⟩
      · refine nextsOf_sound (fun y hy => ?_) _ x hx
        obtain rfl := List.mem_singleton.1 hy
        exact execSlateOutcomeWrite_sound h
    · refine nextsOf_sound ?_ _ x hx
      simp only [List.forall_mem_cons, List.not_mem_nil, false_implies, implies_true, and_true]
      exact ⟨h.runReport _, h.runReport _, h.runReport _⟩
  · exact h.endsNow x hx

theorem State.sound.broughtBy {s : State} (h : s.sound) (made : List Work) (w : Work) : ∀ e ∈ s.broughtBy made w, e.bounded := by
  intro e he
  unfold State.broughtBy at he
  split at he
  · split at he
    · split at he
      · cases he
      · next x hx =>
        have hsound : x.2.sound := h.ordersNow x (List.mem_of_find?_eq_some hx)
        simp only [List.mem_cons, List.not_mem_nil, or_false] at he
        rcases he with rfl | rfl | rfl
        · trivial
        · exact hsound.settings
        · trivial
    · cases he
  · cases he

theorem State.sound.leaveEach {s : State} (h : s.sound) (made : List Work) {u : State} (hu : u.sound)
    (works : List (Work × Nat)) : (s.leaveEach made u works).sound := by
  induction works generalizing made u with
  | nil => exact hu
  | cons x rest ih =>
    simp only [State.leaveEach]
    split
    · exact ih _ ((hu.effects _ (h.broughtBy made x.1)).leave (u.job_bounded x.1) x.2)
    · exact ih made hu

/-- What a restart finds of the work in progress is sound. -/
theorem State.sound.interrupt {s : State} (h : s.sound) (stopped : List (Work × Nat)) : (s.interrupt stopped).sound :=
  h.leaveEach [] h _

theorem execAnchorWrite_sound {s : State} (h : s.sound) (v : RegWord) (stopped : List (Work × Nat)) :
    SoundNext (execAnchorWrite v stopped s) := .next ((h.interrupt stopped).restart _)

/-! ## The machine after reset, and POWER_ON -/

theorem Station.bounded_reset : Station.reset.bounded := ⟨Nat.zero_le _, List.nodup_nil, Nat.zero_le _, Nat.zero_le _⟩

theorem State.reset_station (i : Fin 4) : State.reset.station i = .reset := by
  simp [State.reset, State.station, Vector.get_eq_getElem]

theorem State.reset_channel (i : Fin 4) : State.reset.channel i = .reset := by
  simp [State.reset, State.channel, Vector.get_eq_getElem]

theorem Settings.bounded_reset : Settings.reset.bounded := by
  simp [Settings.bounded, Settings.reset]

theorem Printer.bounded_reset (paper : Bool) : Printer.bounded { Printer.reset with paper := paper } :=
  ⟨Nat.zero_le _, fun _ => rfl, fun _ => rfl⟩

theorem Line.bounded_reset (ready : Bool) : Line.bounded { Line.reset with ready := ready } := ⟨Nat.zero_le _, trivial⟩

theorem State.reset_sound : State.reset.sound :=
  State.reset.sound_iff.2
    ⟨State.reset_mem_wf, fun i => State.reset_channel i ▸ Channel.bounded_of_reset,
      fun i => State.reset_station i ▸ Station.bounded_reset, Settings.bounded_reset, Nat.le_refl _,
      ⟨Nat.zero_le _, Nat.zero_le _, Nat.zero_le _⟩, Engine.consistent_reset, Printer.bounded_reset _, Line.bounded_reset _⟩

theorem execPowerOn_sound {s : State} (h : s.sound) (stopped : List (Work × Nat)) : SoundNext (execPowerOn stopped s) := by
  refine .next ((State.sound_iff _).2
    ⟨(h.interrupt stopped).mem, fun i => ?_, State.reset_sound.station, Settings.bounded_reset, Nat.le_refl _,
      State.reset_sound.clock, Engine.consistent_reset, Printer.bounded_reset _, Line.bounded_reset _⟩)
  simpa [State.channel, Vector.get_eq_getElem, Channel.reset] using
    Channel.bounded_of_reset (l := (s.channel i).level) (p := false)

/-! ## Every command -/

theorem exec_sound (c : Instr) {s : State} (h : s.sound) : SoundNext (exec c s) := by
  cases c with
  | powerOn stopped => exact execPowerOn_sound h stopped
  | anchorWrite v stopped => exact execAnchorWrite_sound h v stopped
  | anchoringEnd => exact execAnchoringEnd_sound h
  | worklistWrite v => exact execWorklistWrite_sound h v
  | noticeWrite v => exact .ite (.next (h.withNotices h.ceiling)) (.next h)
  | ceilingWrite v => exact .next (h.withNotices (Nat.min_le_right _ _))
  | stateWrite v => exact .next h
  | elementEnd wand ticks => exact .next (h.setChannel wand ((((h.channel wand).advance ticks).testQuiet _).endElement _))
  | quietZoneBegin wand ticks => exact .next (h.setChannel wand (((h.channel wand).advance ticks).testQuiet _))
  | decodeComplete wand => exact execDecodeComplete_sound h wand
  | repeatTimerExpire i => exact .next (h.keepStation i)
  | counterMirrorWrite => exact execCounterMirrorWrite_sound h
  | slateOutcomeWrite => exact execSlateOutcomeWrite_sound h
  | outcomeBufferEnter i => exact execOutcomeBufferEnter_sound h i
  | idleDeadlineExpire i => exact execIdleDeadlineExpire_sound h i
  | toneStepEnd i => exact execToneStepEnd_sound h i
  | engineGrant => exact execEngineGrant_sound h
  | sessionOpen => exact h.runTxn _ (planSessionOpen_timed s)
  | sessionRefresh => exact h.runTxn _ (planSessionRefresh_timed s)
  | noBorrower => exact h.runTxn _ (planNoBorrower_timed s)
  | wrongLabel => exact h.runTxn _ (planWrongLabel_timed s)
  | checkout => exact h.runTxn _ (planCheckout_timed s)
  | renewal => exact h.runTxn _ (planRenewal_timed s)
  | returnItem => exact h.runTxn _ (planReturn_timed s)
  | borrowerInquiry => exact h.runTxn _ (planBorrowerInquiry_timed s)
  | itemInquiry => exact h.runTxn _ (planItemInquiry_timed s)
  | listStart => exact execListStart_sound h
  | orderTakeUp => exact execOrderTakeUp_sound h
  | endList => exact execEndList_sound h
  | setStationMode => exact execSetStationMode_sound h
  | modeChangeFinish => exact execModeChangeFinish_sound h
  | keyedLabel => exact execKeyedLabel_sound h
  | keyedLabelEnter => exact execKeyedLabelEnter_sound h
  | formatTables => exact h.runTxn _ (planFormatTables_timed s)
  | addBorrower => exact h.runTxn _ (planAddBorrower_timed s)
  | updateBorrower => exact h.runTxn _ (planUpdateBorrower_timed s)
  | removeBorrower => exact h.runTxn _ (planRemoveBorrower_timed s)
  | setBlock => exact h.runTxn _ (planSetBlock_timed s)
  | clearBlock => exact h.runTxn _ (planClearBlock_timed s)
  | payFine => exact h.runTxn _ (planPayFine_timed s)
  | adjustFine => exact h.runTxn _ (planAdjustFine_timed s)
  | declareLost => exact h.runTxn _ (planDeclareLost_timed s)
  | withdraw => exact h.runTxn _ (planWithdraw_timed s)
  | release => exact h.runTxn _ (planRelease_timed s)
  | setClock => exact h.runTxn _ (planSetClock_timed s)
  | placeHold => exact h.runTxn _ (planPlaceHold_timed s)
  | cancelHold => exact h.runTxn _ (planCancelHold_timed s)
  | reportOverdue => exact h.runReport _
  | reportBorrowerLoans => exact h.runReport _
  | reportHoldShelf => exact h.runReport _
  | reloadRules => exact execReloadRules_sound h
  | reloadSettings => exact execReloadSettings_sound h
  | releasePages => exact execReleasePages_sound h
  | pagesReleased => exact h.runTxn _ fun t => markPlan_timed _ _ _ _ _
  | printText => exact execPrintText_sound h
  | startUpload => exact execStartUpload_sound h
  | abortUpload => exact execAbortUpload_sound h
  | clockSecond => exact execClockSecond_sound h
  | daySweepStep => exact h.runTxn _ (planSweepStep_timed s)
  | centerNotice => exact h.runTxn _ (plan := fun s t => planNotice s t t.notice) fun t => planNotice_timed s t _
  | uploadStarted => exact execUploadStarted_sound h
  | uploadEnded => exact h.runTxn _ fun t => markPlan_timed _ _ _ _ _
  | frameSent => exact execFrameSent_sound h
  | takenFrame => exact execTakenFrame_sound h
  | refusedFrame => exact execRefusedFrame_sound h
  | noticeFrame => exact execNoticeFrame_sound h
  | finishedFrame => exact execFinishedFrame_sound h
  | strayFrame => exact execStrayFrame_sound h
  | frameDiscard => exact execFrameDiscard_sound h
  | frameGapTimeout => exact execFrameGapTimeout_sound h
  | receiveQueueOverrun => exact execReceiveQueueOverrun_sound h
  | replyTimeout => exact execReplyTimeout_sound h
  | noticeTimeout => exact execNoticeTimeout_sound h
  | lineRdyChange high => exact execLineRdyChange_sound h high
  | lineDownTimeout => exact execLineDownTimeout_sound h
  | dotLineRendered => exact execDotLineRendered_sound h
  | dotLineStart => exact execDotLineStart_sound h
  | dotLineFed => exact execDotLineFed_sound h
  | paperSensorChange high => exact execPaperSensorChange_sound h high
  | paperTimerExpire => exact execPaperTimerExpire_sound h
  | octetReceived octet taken => exact .next (h.withLine ((h.line.receive _ _).takeOctets _))
  | tonePeriodEnd i => exact execTonePeriodEnd_sound h i

/-- Settles O57: the parts of a sound state are kept by each operation of the model, and so by each command and by a tick. -/
theorem stepsKeepTheStateSound : Obligations.StepsKeepTheStateSound := by
  intro s t h hst
  unfold step at hst
  split at hst
  · exact SoundNext.next h.tick t hst
  · exact exec_sound _ (h.withPending _) t hst

end Sys2Proof.Machine
end

section
/-! PROOF. The machine after reset (R22, R23, R84, R147, R168, R178, R194): sound, and quiet. -/

namespace Sys2Proof.Machine

theorem Station.quiet_reset : Station.reset.quiet := ⟨rfl, rfl, rfl, rfl, rfl, rfl, rfl, rfl, rfl⟩

theorem State.reset_quiet : State.reset.quiet :=
  ⟨fun _ => ⟨rfl, rfl, rfl, rfl, rfl, rfl, rfl, rfl, fun i => State.reset_station i ▸ Station.quiet_reset⟩,
    fun _ => ⟨rfl, rfl⟩⟩

/-- Settles O56. -/
theorem resetIsSoundAndQuiet : Obligations.ResetIsSoundAndQuiet := ⟨State.reset_sound, State.reset_quiet⟩

end Sys2Proof.Machine
end

section
/-! PROOF. The wand channel (chapter 1): when a quiet zone is due and what it does to the channel in each capture state, and what the
end of an element does in each case of R3. -/

namespace Sys2Proof.Machine

/-! ## Quiet zones -/

/-- The space that runs has become a quiet zone that has not begun (R4, R5). -/
theorem Channel.quietDue_iff (c : Channel) (limit : Nat) :
    c.quietDue limit = true ↔
      c.level = .space ∧ c.capture ≠ .quiet ∧ (limit < c.effectiveWidth ∨ 65535 ≤ c.effectiveWidth) := by
  simp [Channel.quietDue, and_assoc]

theorem Channel.testQuiet_due {c : Channel} {limit : Nat} (hl : c.level = .space) (hc : c.capture ≠ .quiet)
    (hw : limit < c.effectiveWidth ∨ 65535 ≤ c.effectiveWidth) : c.testQuiet limit = c.beginQuiet :=
  if_pos ((c.quietDue_iff limit).2 ⟨hl, hc, hw⟩)

theorem Channel.testQuiet_not_due {c : Channel} {limit : Nat}
    (h : c.level = .bar ∨ c.capture = .quiet ∨ (c.effectiveWidth ≤ limit ∧ c.effectiveWidth < 65535)) :
    c.testQuiet limit = c := by
  refine if_neg fun hd => ?_
  obtain ⟨hl, hc, hw⟩ := (c.quietDue_iff limit).1 hd
  rcases h with h | h | ⟨h1, h2⟩
  · simp [h] at hl
  · exact hc h
  · omega

theorem Channel.beginQuiet_settling {c : Channel} (hc : c.capture = .settling) :
    c.beginQuiet = { c with capture := .quiet } := by simp [Channel.beginQuiet, hc]

/-- The sweep ends without the last element, which is still merging into the quiet zone (R7). -/
theorem Channel.beginQuiet_merging {c : Channel} (hc : c.capture = .capturing) (hm : c.mergePending = true) :
    c.beginQuiet = { c with
      capture := .quiet, last := none, mergePending := false, complete := c.complete ++ [c.inCapture], inCapture := [],
      decoder := .decoding } := by
  simp [Channel.beginQuiet, hc, Channel.endSweep, hm, Channel.completeSweep]

/-- The last element is pushed and the sweep is complete (R7). -/
theorem Channel.beginQuiet_complete {c : Channel} {l : Element} (hc : c.capture = .capturing) (hm : c.mergePending = false)
    (hl : c.last = some l) (hu : c.used < 128) :
    c.beginQuiet = { c with
      capture := .quiet, complete := c.complete ++ [c.inCapture ++ [l.width]], inCapture := [], decoder := .decoding } := by
  simp [Channel.beginQuiet, hc, Channel.endSweep, hm, hu, Channel.push, hl, Channel.completeSweep]

/-- The last element finds the queue full: the sweep is discarded and counted as NOISE (R8). -/
theorem Channel.beginQuiet_full {c : Channel} {l : Element} (hc : c.capture = .capturing) (hm : c.mergePending = false)
    (hl : c.last = some l) (hu : 128 ≤ c.used) : c.beginQuiet = c.discardSweep .quiet := by
  have hu' : ¬ c.used < 128 := by omega
  simp [Channel.beginQuiet, hc, Channel.endSweep, hm, hu', Channel.push, hl]

/-- The sweep discarded, with no element merging (R8, R19). -/
theorem Channel.discardSweep_eq (c : Channel) (hm : c.mergePending = false) (next : CaptureState) :
    c.discardSweep next = { c with
      capture := next, last := none, inCapture := [], mirrorPending := true
      counters := { c.counters with noise := min (c.counters.noise + 1) 65535 } } := by
  simp [Channel.discardSweep, Channel.countNoise, Channel.withCounters, sat16, hm]

/-- A quiet zone that begins leaves QUIET, unless there was nothing to push and no entry for it. -/
theorem Channel.beginQuiet_quiet_or_same (c : Channel) : c.beginQuiet.capture = .quiet ∨ c.beginQuiet = c := by
  rcases hc : c.capture with _ | _ | _
  · exact .inl (by rw [Channel.beginQuiet_settling hc])
  · exact .inr (by simp [Channel.beginQuiet, hc])
  · cases hm : c.mergePending with
    | true => exact .inl (by rw [Channel.beginQuiet_merging hc hm])
    | false =>
      by_cases hu : c.used < 128
      · exact .inl (by simp [Channel.beginQuiet, hc, Channel.endSweep, hm, hu, Channel.completeSweep])
      · cases hl : c.last with
        | none => exact .inr (by simp [Channel.beginQuiet, hc, Channel.endSweep, hm, hu, Channel.push, hl])
        | some l => exact .inl (by rw [Channel.beginQuiet_full hc hm hl (Nat.le_of_not_lt hu)]; rfl)

/-- A quiet zone that has begun is not due again. -/
theorem Channel.testQuiet_testQuiet (c : Channel) (limit : Nat) : (c.testQuiet limit).testQuiet limit = c.testQuiet limit := by
  by_cases hd : c.quietDue limit = true
  · have htest : c.testQuiet limit = c.beginQuiet := if_pos hd
    rcases c.beginQuiet_quiet_or_same with hq | hs
    · rw [htest, Channel.testQuiet_not_due (.inr (.inl hq))]
    · rw [htest, hs, htest, hs]
  · have htest : c.testQuiet limit = c := if_neg hd
    rw [htest, htest]

theorem Channel.beginQuiet_counter (c : Channel) : c.beginQuiet.counter = c.counter := by
  unfold Channel.beginQuiet Channel.endSweep Channel.push
  split
  · rfl
  · rfl
  · split
    · rfl
    · split <;> split <;> rfl

theorem Channel.testQuiet_counter (c : Channel) (limit : Nat) : (c.testQuiet limit).counter = c.counter := by
  unfold Channel.testQuiet
  split
  · exact c.beginQuiet_counter
  · rfl

/-- No time passes: the counter stays where it is. -/
theorem Channel.advance_zero {c : Channel} (h : c.counter ≤ 65535) : c.advance 0 = c := by
  simp [Channel.advance, sat16, h]

/-- Settles O3. -/
theorem quietZoneByState : Obligations.QuietZoneByState := by
  intro s wand ticks
  let d := (s.channel wand).advance ticks
  have hexec : exec (.quietZoneBegin wand ticks) s = .next (s.setChannel wand (d.testQuiet s.settings.quietLimit)) := rfl
  have hdue (hlevel : d.level = .space) (hwidth : s.settings.quietLimit < d.effectiveWidth ∨ 65535 ≤ d.effectiveWidth)
      (hc : (s.channel wand).capture ≠ .quiet) : exec (.quietZoneBegin wand ticks) s = .next (s.setChannel wand d.beginQuiet) := by
    rw [hexec, Channel.testQuiet_due hlevel hc hwidth]
  refine ⟨fun h => ?_, fun hlevel hwidth => ⟨fun hc => ?_, fun hc hm => ?_, fun l hc hm hl hu => ?_, fun l hc hm hl hu => ?_⟩⟩
  · rw [hexec, Channel.testQuiet_not_due h]; rfl
  · rw [hdue hlevel hwidth (by simp [hc]), Channel.beginQuiet_settling (c := d) hc]; rfl
  · rw [hdue hlevel hwidth (by simp [hc]), Channel.beginQuiet_merging (c := d) hc hm]; rfl
  · rw [hdue hlevel hwidth (by simp [hc]), Channel.beginQuiet_complete (c := d) hc hm hl hu]; rfl
  · rw [hdue hlevel hwidth (by simp [hc]), Channel.beginQuiet_full (c := d) hc hm hl hu, Channel.discardSweep_eq d hm]; rfl

/-! ## The end of an element -/

theorem ElementKind.other_eq (k : ElementKind) : k.other = if k = .bar then .space else .bar := by cases k <;> rfl

/-- The element that ends, the second of a merge or the first below the glitch limit, joins the last one (cases 1 and 2 of R3). -/
theorem Channel.endElement_merges {c : Channel} {glitch : Nat} {l : Element} (hl : c.last = some l)
    (h : c.mergePending = true ∨ c.counter < glitch) :
    c.endElement glitch = { c with
      counter := 0, level := c.level.other, last := some { l with width := sat16 (l.width + c.counter) },
      mergePending := !c.mergePending } := by
  cases hm : c.mergePending with
  | true => simp [Channel.endElement, hl, hm]
  | false =>
    have hg : c.counter < glitch := by simpa [hm] using h
    simp [Channel.endElement, hl, hm, hg]

/-- A true element ends (case 3 of R3). -/
theorem Channel.endElement_true {c : Channel} {glitch : Nat} (hm : c.mergePending = false)
    (hg : ∀ l, c.last = some l → glitch ≤ c.counter) :
    c.endElement glitch
      = Channel.trueElement { c with counter := 0, level := c.level.other } { kind := c.level, width := c.counter } := by
  cases hl : c.last with
  | none => simp [Channel.endElement, hl, hm]
  | some l =>
    have hg' : ¬ c.counter < glitch := Nat.not_lt.2 (hg l hl)
    simp [Channel.endElement, hl, hm, hg']

theorem Channel.trueElement_outside {c : Channel} {e : Element}
    (h : c.capture = .settling ∨ (c.capture = .quiet ∧ e.kind = .space)) : c.trueElement e = { c with last := some e } := by
  rcases h with h | ⟨h, hk⟩
  · simp [Channel.trueElement, h]
  · simp [Channel.trueElement, h, hk]

theorem Channel.trueElement_begins {c : Channel} {e : Element} (h : c.capture = .quiet) (hk : e.kind = .bar)
    (hlen : c.complete.length < 2) : c.trueElement e = { c with capture := .capturing, inCapture := [], last := some e } := by
  simp [Channel.trueElement, h, hk, Channel.beginSweep, hlen]

/-- Two sweeps wait: a third is dropped as NOISE (R6). -/
theorem Channel.trueElement_third {c : Channel} {e : Element} (h : c.capture = .quiet) (hk : e.kind = .bar)
    (hlen : 2 ≤ c.complete.length) :
    c.trueElement e = { c with
      last := some e, capture := .settling, mirrorPending := true
      counters := { c.counters with noise := min (c.counters.noise + 1) 65535 } } := by
  have hlen' : ¬ c.complete.length < 2 := by omega
  simp [Channel.trueElement, h, hk, Channel.beginSweep, hlen', Channel.countNoise, Channel.withCounters, sat16]

theorem Channel.trueElement_pushes {c : Channel} {e l : Element} (h : c.capture = .capturing) (hl : c.last = some l)
    (hu : c.used < 128) : c.trueElement e = { c with last := some e, inCapture := c.inCapture ++ [l.width] } := by
  simp [Channel.trueElement, h, Channel.push, hl, hu]

/-- The queue is full: the sweep is discarded, and the element that ended is the last one all the same (R3, R8). -/
theorem Channel.trueElement_full {c : Channel} {e l : Element} (h : c.capture = .capturing) (hm : c.mergePending = false)
    (hl : c.last = some l) (hu : 128 ≤ c.used) :
    c.trueElement e = { c with
      last := some e, capture := .settling, inCapture := [], mirrorPending := true
      counters := { c.counters with noise := min (c.counters.noise + 1) 65535 } } := by
  have hu' : ¬ c.used < 128 := by omega
  simp [Channel.trueElement, h, Channel.push, hl, hu', Channel.discardSweep_eq c hm]

/-- A quiet zone that has fallen due begins before the element ends (R4). -/
theorem exec_elementEnd_after_quiet (s : State) (wand : Fin 4) (ticks : Nat) :
    exec (.elementEnd wand ticks) s
      = exec (.elementEnd wand 0)
          (s.setChannel wand (((s.channel wand).advance ticks).testQuiet s.settings.quietLimit)) := by
  have hzero := Channel.advance_zero (c := ((s.channel wand).advance ticks).testQuiet s.settings.quietLimit)
    (by rw [Channel.testQuiet_counter]; exact sat16_le _)
  simp only [exec, execElementEnd, State.setChannel_channel_self, State.setChannel_settings, State.setChannel_setChannel, hzero,
    Channel.testQuiet_testQuiet]

/-- Settles O2. -/
theorem elementEndByCase : Obligations.ElementEndByCase := by
  refine ⟨fun s wand ticks => ?_, fun s wand ticks => ⟨_, rfl, exec_elementEnd_after_quiet s wand ticks⟩⟩
  intro c w after hquiet
  let d := c.advance ticks
  have hexec : exec (.elementEnd wand ticks) s = .next (s.setChannel wand (d.endElement s.settings.glitchLimit)) := by
    simp only [exec, execElementEnd]
    rw [Channel.testQuiet_not_due hquiet]
  have hafter (x : Channel) : after x = .next (s.setChannel wand { x with counter := 0, level := c.level.other }) := by
    simp only [after, ElementKind.other_eq]
  refine ⟨fun l hm hl => ?_, fun l hm hl hg => ?_, fun hm hg => ?_⟩
  · rw [hexec, Channel.endElement_merges (c := d) hl (.inl hm), hafter]
    simp only [d, Channel.advance, hm, Bool.not_true]
    rfl
  · rw [hexec, Channel.endElement_merges (c := d) hl (.inr hg), hafter]
    simp only [d, Channel.advance, hm, Bool.not_false]
    rfl
  · let b : Channel := { d with counter := 0, level := d.level.other }
    let e : Element := { kind := d.level, width := d.counter }
    have htrue : d.endElement s.settings.glitchLimit = b.trueElement e :=
      Channel.endElement_true hm hg
    rw [hexec, htrue]
    simp only [hafter]
    refine ⟨fun hc => ?_, fun hc hk hlen => ?_, fun hc hk hlen => ?_, fun l hc hl hu => ?_, fun l hc hl hu => ?_⟩
    · rw [Channel.trueElement_outside (c := b) (e := e) hc]; rfl
    · rw [Channel.trueElement_begins (c := b) (e := e) hc hk hlen]; rfl
    · rw [Channel.trueElement_third (c := b) (e := e) hc hk hlen]; rfl
    · rw [Channel.trueElement_pushes (c := b) (e := e) hc hl hu]; rfl
    · rw [Channel.trueElement_full (c := b) (e := e) hc hm hl hu]; rfl

end Sys2Proof.Machine
end

section
/-! PROOF. A decode completes (R9, R12, R19 to R24): the sweep leaves the queue, a misread is counted, and a label passes the repeat
check and arrives at its station. -/

namespace Sys2Proof.Machine

/-! ## A decode completes -/

theorem Channel.releaseSweep_eq {c : Channel} {ws : List Nat} {rest : List (List Nat)} (h : c.complete = ws :: rest) :
    c.releaseSweep = { c with complete := rest, decoder := if rest = [] then .idle else .decoding } := by
  simp [Channel.releaseSweep, h]

theorem exec_decodeComplete_misread {s : State} {wand : Fin 4} {ws : List Nat} {rest : List (List Nat)}
    (hd : (s.channel wand).decoder = .decoding) (hc : (s.channel wand).complete = ws :: rest) {m : Misread}
    (hm : decodeSweep ws = .error m) :
    exec (.decodeComplete wand) s = .next (s.setChannel wand ((s.channel wand).releaseSweep.countMisread m)) := by
  simp only [exec, execDecodeComplete, hd, hc, hm, State.setChannel_setChannel]

theorem exec_decodeComplete_label {s : State} {wand : Fin 4} {ws : List Nat} {rest : List (List Nat)}
    (hd : (s.channel wand).decoder = .decoding) (hc : (s.channel wand).complete = ws :: rest) {l : Label}
    (hl : decodeSweep ws = .ok l) :
    exec (.decodeComplete wand) s = .next ((s.setChannel wand (s.channel wand).releaseSweep).repeatCheck wand l) := by
  simp only [exec, execDecodeComplete, hd, hc, hl]

/-! ## The repeat check and the arrival of a label -/

theorem State.repeatCheck_repeats {s : State} {i : Fin 4} {l : Label}
    (h : (s.station i).repeatTimer.isSome = true ∧ (s.station i).lastLabel = some (l.kind, l.number)) :
    s.repeatCheck i l
      = (s.setStation i { s.station i with repeatTimer := repeatTimerFor s.settings.repeatWindow }).setChannel i
          (s.channel i).countRepeat := if_pos h

theorem State.repeatCheck_passes {s : State} {i : Fin 4} {l : Label}
    (h : ¬ ((s.station i).repeatTimer.isSome = true ∧ (s.station i).lastLabel = some (l.kind, l.number))) :
    s.repeatCheck i l
      = (s.setStation i { s.station i with
          repeatTimer := repeatTimerFor s.settings.repeatWindow, lastLabel := some (l.kind, l.number) }).wandArrival i l :=
  if_neg h

theorem State.wandArrival_closed {s : State} {i : Fin 4} (l : Label) (h : (s.station i).mode = .closed) :
    s.wandArrival i l
      = (s.setStation i { s.station i with closedScans := sat16 ((s.station i).closedScans + 1) }).setChannel i
          { s.channel i with mirrorPending := true } := if_pos h

theorem State.wandArrival_enters {s : State} {i : Fin 4} (l : Label) (h : (s.station i).mode ≠ .closed)
    (hs : (s.station i).slot = none) :
    s.wandArrival i l = s.setStation i ((s.station i).enterSlot l s.settings.sessionTimeout) := by
  simp only [State.wandArrival, if_neg h, hs, Option.isNone_none, if_true]

theorem State.wandArrival_discarded {s : State} {i : Fin 4} (l : Label) (h : (s.station i).mode ≠ .closed) {p : Label}
    (hs : (s.station i).slot = some p) : s.wandArrival i l = s.setStation i ((s.station i).discard l) := by
  simp [State.wandArrival, if_neg h, hs]

/-- The label discarded at a full slot: its outcome is offered, and REFUSE sounds (R24, R36). -/
theorem Station.discard_eq (t : Station) (l : Label) :
    t.discard l = { t with
      buffer := t.bufferAfterDiscarded (discardedOutcome l t.items.length), tone := t.tone.start .refuse } := by
  rw [Station.discard, Label.discarded_eq, Station.offerDiscarded_eq]

/-- Settles O4. -/
theorem decodeCompletes : Obligations.DecodeCompletes := by
  refine ⟨fun s wand ws rest hd hc => ?_, fun s i => rfl⟩
  have hrelease := Channel.releaseSweep_eq hc
  refine ⟨fun m hm => ?_, fun l hl => ⟨fun ht hlast => ?_, fun hnew => ⟨fun hmode => ?_, fun hmode hslot => ?_,
    fun p hmode hslot => ?_⟩⟩⟩
  · rw [exec_decodeComplete_misread hd hc hm, hrelease]
    cases m <;> rfl
  · rw [exec_decodeComplete_label hd hc hl, hrelease, State.repeatCheck_repeats (s := s.setChannel wand _) ⟨ht, hlast⟩]
    simp only [State.setChannel_setStation, State.setChannel_setChannel, State.setChannel_channel_self]
    rfl
  all_goals rw [exec_decodeComplete_label hd hc hl, hrelease, State.repeatCheck_passes (s := s.setChannel wand _) hnew]
  · rw [State.wandArrival_closed l (by simpa using hmode)]
    simp only [State.setChannel_setStation, State.setChannel_setChannel, State.setStation_setStation,
      State.setStation_station_self, State.setChannel_station, State.setChannel_channel_self]
    rfl
  · rw [State.wandArrival_enters l (by simpa using hmode) (by simpa using hslot)]
    simp only [State.setStation_setStation, State.setStation_station_self]
    rfl
  · rw [State.wandArrival_discarded l (by simpa using hmode) (p := p) (by simpa using hslot), Station.discard_eq]
    simp only [State.setStation_setStation, State.setStation_station_self]
    rfl

end Sys2Proof.Machine
end

section
/-! PROOF. The slate writer (R37): the station and the channel whose turn it is, and the words of an outcome as the slate's layout
gives them (R35, R206). -/

namespace Sys2Proof.Machine

theorem State.attached_iff (s : State) : s.attached = true ↔ s.desk.state = .opened ∨ s.desk.state = .halted := by
  simp [State.attached]

/-! ## Turns -/

/-- The first in turn that a test holds of. -/
theorem find?_turnFrom {p : Fin 4 → Bool} {i k : Fin 4} (hk : p (i + k) = true) (hbefore : ∀ j, j < k → p (i + j) = false) :
    (turnFrom i).find? p = some (i + k) := by
  have hfirst : i = i + 0 := (add_zero i).symm
  match k, hk, hbefore with
  | 0, hk, _ =>
    rw [turnFrom, List.find?_cons_of_pos (by rwa [add_zero] at hk), ← hfirst]
  | 1, hk, h =>
    have h0 : p i = false := hfirst ▸ h 0 (by decide)
    simp [turnFrom, h0, hk]
  | 2, hk, h =>
    have h0 : p i = false := hfirst ▸ h 0 (by decide)
    simp [turnFrom, h0, h 1 (by decide), hk]
  | 3, hk, h =>
    have h0 : p i = false := hfirst ▸ h 0 (by decide)
    simp [turnFrom, h0, h 1 (by decide), h 2 (by decide), hk]

theorem State.nextOutcome_eq {s : State} {k : Fin 4} {o : SlateOutcome}
    (ho : (s.station (s.writer.outcomeTurn + k)).buffer = some o)
    (hbefore : ∀ j : Fin 4, j < k → (s.station (s.writer.outcomeTurn + j)).buffer = none) :
    s.nextOutcome = some (s.writer.outcomeTurn + k) :=
  find?_turnFrom (by simp [ho]) fun j hj => by simp [hbefore j hj]

/-- With no outcome in a buffer, the mirrors have their turn (R37). -/
theorem State.nextMirror_eq {s : State} {k : Fin 4} (hbuffers : ∀ j, (s.station j).buffer = none)
    (hk : (s.channel (s.writer.mirrorTurn + k)).mirrorPending = true)
    (hbefore : ∀ j : Fin 4, j < k → (s.channel (s.writer.mirrorTurn + j)).mirrorPending = false) :
    s.nextMirror = some (s.writer.mirrorTurn + k) := by
  have hnone : s.nextOutcome = none := List.find?_eq_none.2 fun i _ => by simp [hbuffers i]
  rw [State.nextMirror, if_pos hnone]
  exact find?_turnFrom hk hbefore

/-! ## The words of a slate -/

theorem Reason.code_lt (r : Reason) : r.code < 256 := by cases r <;> decide

theorem itemStateCode_lt (x : Option ItemState) : itemStateCode x < 256 := by
  rcases x with _ | x
  · decide
  · cases x <;> decide

theorem bitOf_le (b : Bool) (n : Nat) : bitOf b n ≤ 2 ^ n := by cases b <;> simp [bitOf]

theorem Blocks.code_lt (b : Blocks) : b.code < 256 := by
  have h0 := bitOf_le b.manual 0
  have h1 := bitOf_le b.center 1
  have h2 := bitOf_le b.lost 2
  have h3 := bitOf_le b.fines 3
  have h4 := bitOf_le b.expired 4
  unfold Blocks.code
  omega

theorem bytePair_eq {lo hi : Nat} (hl : lo < 256) (hh : hi < 256) : bytePair lo hi = lo + 256 * hi := by
  rw [bytePair, Nat.mod_eq_of_lt hl, Nat.mod_eq_of_lt hh]

theorem words64_eq (n : Nat) :
    words64 n = [n % 65536, n / 65536 % 65536, n / 4294967296 % 65536, n / 281474976710656 % 65536] := by
  simp [words64, words32, Nat.div_div_eq_div_mul]

/-- The outcome fields in the slate's layout (R35, R206). -/
theorem SlateOutcome.words_eq (o : SlateOutcome) :
    o.words =
      [if o.refused then 3 + 256 * o.reason.code else o.reason.code, o.borrower % 65536, o.borrower / 65536 % 65536,
        o.item % 65536, o.item / 65536 % 65536, o.item / 4294967296 % 65536, o.item / 281474976710656 % 65536,
        o.due.day, o.due.minute, o.fine % 65536, o.fine / 65536 % 65536, o.blocks.code + 256 * itemStateCode o.itemState,
        o.sessionItems % 256 + (if o.slipLost then 256 else 0)] := by
  have hcode : bytePair (if o.refused then 3 else o.reason.code) (if o.refused then o.reason.code else 0)
      = if o.refused then 3 + 256 * o.reason.code else o.reason.code := by
    have hlt := o.reason.code_lt
    split
    · exact bytePair_eq (by decide) hlt
    · rw [bytePair_eq hlt (by decide), Nat.mul_zero, Nat.add_zero]
  have hcount : bytePair o.sessionItems (bitOf o.slipLost 0) = o.sessionItems % 256 + (if o.slipLost then 256 else 0) := by
    cases o.slipLost <;> simp [bytePair, bitOf]
  rw [SlateOutcome.words, hcode, hcount, bytePair_eq o.blocks.code_lt (itemStateCode_lt _), words64_eq]
  rfl

/-- A change count read from desk memory, made odd, stays a 16-bit word (R55). -/
theorem openingCount_read16 (m : Memory) (a : Nat) :
    openingCount (m.read16 a) = if m.read16 a % 2 = 0 then m.read16 a + 1 else m.read16 a := by
  have hlt := m.read16_lt a
  unfold openingCount
  split
  · exact Nat.mod_eq_of_lt (by omega)
  · rfl

/-- Settles O7. -/
theorem slatesAreWritten : Obligations.SlatesAreWritten := by
  refine ⟨fun s k o => ?_, fun s k => ?_⟩
  · intro i t a odd hdesk ho hbefore fields written after
    have hexec : exec .slateOutcomeWrite s = .next (s.writeOutcome i o) := by
      simp only [exec, execSlateOutcomeWrite, if_pos (s.attached_iff.2 hdesk), State.nextOutcome_eq ho hbefore]
      rw [show (s.station (s.writer.outcomeTurn + k)).buffer = some o from ho]
    have hwrites : slateWrites s.mem (slateAddress s.geometry i) o t.nextSequence
        = { addr := a, word := odd } :: putWords (a + 2) fields ++
            [{ addr := a, word := (odd + 1) % 65536 }, { addr := a + 28, word := (t.sequence + 1) % 65536 }] := by
      simp only [slateWrites, groupWrites, closingCount, openingCount_read16, SlateOutcome.words_eq, List.cons_append,
        List.append_assoc, List.nil_append]
      rfl
    rw [hexec]
    unfold State.writeOutcome
    dsimp only
    rw [hwrites]
    refine ⟨fun hkeyed => ?_, fun hkeyed hwait => ?_⟩
    · rw [if_neg hkeyed]; rfl
    · rw [if_pos ⟨hkeyed, hwait⟩]; rfl
  · intro i c hdesk hbuffers hk hbefore
    simp only [exec, execCounterMirrorWrite, if_pos (s.attached_iff.2 hdesk), State.nextMirror_eq hbuffers hk hbefore]
    rfl

end Sys2Proof.Machine
end

section
/-! PROOF. POWER_ON (00_scope.md, Resets; R194). -/

namespace Sys2Proof.Machine

/-- The rules at power-on lend nothing (R113). -/
theorem Rules.reset_lends_nothing : ∀ p ∈ Rules.reset.policy, p.kind = .none := fun p hp => by
  rw [List.eq_of_mem_replicate hp]
  rfl

theorem execPowerOn_channel (s : State) (stopped : List (Work × Nat)) {t : State} (ht : execPowerOn stopped s = .next t)
    (i : Fin 4) : t.channel i = { State.reset.channel i with level := (s.channel i).level } := by
  cases ht
  rw [State.reset_channel]
  simp [State.channel, Vector.get_eq_getElem]

/-- Settles O25. -/
theorem powerOnResets : Obligations.PowerOnResets := by
  refine ⟨⟨rfl, rfl, rfl, rfl, rfl, rfl, rfl, rfl, rfl, rfl, rfl, rfl, rfl, rfl, rfl, rfl, rfl, rfl, rfl, rfl, rfl, rfl, rfl,
    rfl, rfl, rfl, rfl, rfl, rfl, rfl, Rules.reset_lends_nothing, fun i => ?_, fun i => ?_⟩, fun s stopped => ?_⟩
  · rw [State.reset_station]
    exact ⟨rfl, rfl, rfl, rfl, rfl, rfl, rfl, rfl⟩
  · rw [State.reset_channel]
    exact ⟨rfl, rfl, rfl, rfl, rfl, rfl⟩
  · exact ⟨_, rfl, rfl, rfl, rfl, rfl, rfl, rfl, rfl, rfl, rfl, rfl, rfl, rfl, rfl, rfl, rfl, rfl, rfl, rfl, rfl, rfl, rfl, rfl,
      execPowerOn_channel s stopped rfl⟩

end Sys2Proof.Machine
end

section
/-! PROOF. A write of ANCHOR (R194, R195): what the stop of the works in progress leaves alone, the restart of every block, and how far
a commit, an outcome and the frees of RELEASE_PAGES can have come (R37, R61, R158). -/

namespace Sys2Proof.Machine

/-! ## What a stop leaves alone -/

/-- What neither desk memory nor an effect changes, the stopped works leave as it was. -/
theorem State.leaveEach_preserves {α : Type} (f : State → α) (hmem : ∀ (v : State) (m : Memory), f (v.withMem m) = f v)
    (heffect : ∀ (v : State) (e : Effect), f (v.effect e) = f v) (s : State) (made : List Work) (u : State)
    (works : List (Work × Nat)) : f (s.leaveEach made u works) = f u := by
  have hfold (es : List Effect) (v : State) : f (es.foldl State.effect v) = f v := by
    induction es generalizing v with
    | nil => rfl
    | cons e es ih => exact (ih _).trans (heffect v e)
  have hleave (v : State) (j : Job) (n : Nat) : f (v.leave j n) = f v := by
    unfold State.leave
    rw [← List.foldl_map (f := Prod.snd) (g := State.effect)]
    exact (hfold _ _).trans (hmem _ _)
  induction works generalizing made u with
  | nil => rfl
  | cons x rest ih =>
    simp only [State.leaveEach]
    split
    · exact (ih _ _).trans ((hleave _ _ _).trans (hfold _ _))
    · exact ih _ _

theorem State.interrupt_preserves {α : Type} (f : State → α) (hmem : ∀ (v : State) (m : Memory), f (v.withMem m) = f v)
    (heffect : ∀ (v : State) (e : Effect), f (v.effect e) = f v) (s : State) (stopped : List (Work × Nat)) :
    f (s.interrupt stopped) = f s := State.leaveEach_preserves f hmem heffect s [] s _

theorem State.effect_clock_cases (s : State) (c : Clock) :
    s.setClockAt c = ((s.withClock c).raise .dayChanged).withSweep s.sweep.start ∨ s.setClockAt c = s.withClock c := by
  unfold State.setClockAt
  split
  · exact .inl rfl
  · exact .inr rfl

/-- An effect leaves the free choices, the slot of posts, the octet on the line, LINE_RDY and the channels. -/
theorem State.effect_leaves (s : State) (e : Effect) :
    (s.effect e).choices = s.choices ∧ (s.effect e).executor.slot = s.executor.slot ∧
      (s.effect e).line.octet = s.line.octet ∧ (s.effect e).line.ready = s.line.ready ∧
      (s.effect e).channels = s.channels := by
  cases e with
  | clock c =>
    simp only [State.effect]
    rcases s.effect_clock_cases c with h | h <;> rw [h] <;> exact ⟨rfl, rfl, rfl, rfl, rfl⟩
  | settings t =>
    simp only [State.effect, State.takeSettings, Line.changeParity]
    split <;> exact ⟨rfl, rfl, rfl, rfl, rfl⟩
  | _ => exact ⟨rfl, rfl, rfl, rfl, rfl⟩

/-- An effect leaves the tone of every station. -/
theorem State.effect_tone (s : State) (e : Effect) (i : Fin 4) : ((s.effect e).station i).tone = (s.station i).tone := by
  cases e with
  | clock c =>
    simp only [State.effect]
    rcases s.effect_clock_cases c with h | h <;> rw [h] <;> rfl
  | outcomeTaken j =>
    by_cases h : j = i
    · subst h
      simp [State.effect]
    · simp [State.effect, State.setStation_station_other _ j i _ h]
  | _ => rfl

section Stop

variable (s : State) (stopped : List (Work × Nat))

theorem State.interrupt_choices : (s.interrupt stopped).choices = s.choices :=
  State.interrupt_preserves State.choices (fun _ _ => rfl) (fun v e => (v.effect_leaves e).1) s stopped

theorem State.interrupt_slot : (s.interrupt stopped).executor.slot = s.executor.slot :=
  State.interrupt_preserves (fun v => v.executor.slot) (fun _ _ => rfl) (fun v e => (v.effect_leaves e).2.1) s stopped

theorem State.interrupt_octet : (s.interrupt stopped).line.octet = s.line.octet :=
  State.interrupt_preserves (fun v => v.line.octet) (fun _ _ => rfl) (fun v e => (v.effect_leaves e).2.2.1) s stopped

theorem State.interrupt_ready : (s.interrupt stopped).line.ready = s.line.ready :=
  State.interrupt_preserves (fun v => v.line.ready) (fun _ _ => rfl) (fun v e => (v.effect_leaves e).2.2.2.1) s stopped

theorem State.interrupt_channel (i : Fin 4) : (s.interrupt stopped).channel i = s.channel i :=
  State.interrupt_preserves (fun v => v.channel i) (fun _ _ => rfl)
    (fun v e => congrArg (fun c : Vector Channel 4 => c.get i) (v.effect_leaves e).2.2.2.2) s stopped

theorem State.interrupt_tone (i : Fin 4) : ((s.interrupt stopped).station i).tone = (s.station i).tone :=
  State.interrupt_preserves (fun v => (v.station i).tone) (fun _ _ => rfl) (fun v e => v.effect_tone e i) s stopped

end Stop

/-! ## The restart -/

theorem State.restart_station (s : State) (a : Nat) (i : Fin 4) : (s.restart a).station i = (s.station i).restart := by
  rw [State.restart, State.station, State.raiseIf_stations]
  simp [State.withDesk, State.withExecutor, State.restartBlocks, State.station, Vector.get_eq_getElem]

theorem State.restart_channel (s : State) (a : Nat) (i : Fin 4) : (s.restart a).channel i = (s.channel i).restart := by
  rw [State.restart, State.channel, State.raiseIf_channels]
  simp [State.withDesk, State.withExecutor, State.restartBlocks, State.channel, Vector.get_eq_getElem]

/-- Everything the restart leaves but the notices: a cause raised changes nothing else. -/
theorem State.restart_eq (s : State) (a : Nat) :
    ∃ v, s.restart a = ((s.restartBlocks.withExecutor (s.executor.restart (a == 0))).withDesk (s.desk.anchorWritten a)).withNotices v := by
  unfold State.restart State.raiseIf
  split
  · exact ⟨_, rfl⟩
  · exact ⟨s.notices, rfl⟩

theorem ToneGen.stop_silent {g : ToneGen} (h : g.output = none) : g.stop = .silent := by simp [ToneGen.stop, h]

theorem ToneGen.stop_sounding {g : ToneGen} {x : ToneOutput} (h : g.output = some x) :
    g.stop = { output := some x, steps := [], next := none, stopping := true } := by
  simp [ToneGen.stop, h]

theorem State.restart_postLost {s : State} (a : Nat) (h : s.executor.slot ≠ none) :
    (s.restart a).notices = (s.raise .postLost).notices := by
  simp only [State.restart, State.raiseIf, Option.isSome_iff_ne_none.2 h, if_true]
  rfl

theorem State.restart_notices {s : State} (a : Nat) (h : s.executor.slot = none) : (s.restart a).notices = s.notices := by
  simp only [State.restart, State.raiseIf, h, Option.isSome_none, Bool.false_eq_true, if_false]
  rfl

/-! ## How far a work had come -/

theorem State.leave_none (s : State) (ws : List WordWrite) (n : Nat) : s.leave { writes := ws } n = s.writeAll (ws.take n) := rfl

/-- An effect that comes about once all is written. -/
theorem State.leave_effectIf (s : State) (ws : List WordWrite) (b : Bool) (e : Effect) (n : Nat) :
    s.leave { writes := ws, effects := effectIf b ws.length e } n
      = if ws.length ≤ n ∧ b = true then (s.writeAll (ws.take n)).effect e else s.writeAll (ws.take n) := by
  cases b with
  | false => simp [State.leave, effectIf]
  | true => by_cases h : ws.length ≤ n <;> simp [State.leave, effectIf, h]

theorem State.attachedJob_eq {s : State} (h : s.attached = true) (w : Work) : s.job w = s.attachedJob w := if_pos h

theorem fellLow_iff {before after : Nat} : fellLow before after = true ↔ 64 < before ∧ after ≤ 64 :=
  Bool.and_eq_true_iff.trans (and_congr decide_eq_true_iff decide_eq_true_iff)

/-- A commit without a cut and without SET_CLOCK: its writes, and JOURNAL_LOW at the release of the slot (R61, R152). -/
theorem State.txnJob_commit {s : State} {t : Txn} (hf : (planTxn s t).fault = none) (hv : (planTxn s t).view = none)
    (hc : (planTxn s t).clock = none) {e : EntryBody} (he : (planTxn s t).entry = some e) :
    s.txnJob t =
      { writes := (planTxn s t).writes s
        effects := effectIf (fellLow s.journal.room ((planTxn s t).append s).view.room) ((planTxn s t).writes s).length
          (.raise .journalLow) } := by
  have hj : (planTxn s t).journal s = s.journal := by simp [Plan.journal, hv]
  have hlow : fellLow s.journal.room s.journal.room = false := by
    simp only [fellLow, Bool.and_eq_false_iff, decide_eq_false_iff_not]
    omega
  simp [State.txnJob, hf, hc, he, hj, hlow, effectIf]

theorem State.slateJob_eq {s : State} {i : Fin 4} {o : SlateOutcome} (hn : s.nextOutcome = some i)
    (ho : (s.station i).buffer = some o) :
    s.slateJob =
      { writes := slateWrites s.mem (slateAddress s.geometry i) o (s.station i).nextSequence
        effects := [(0, .outcomeTaken i),
          ((slateWrites s.mem (slateAddress s.geometry i) o (s.station i).nextSequence).length, .raise .stationOutcome)] } := by
  simp only [State.slateJob, hn, ho]

/-- An outcome begun has left its buffer at once; STATION_OUTCOME stands when it is written whole (R37). -/
theorem State.leave_slate (s : State) (ws : List WordWrite) (i : Fin 4) (n : Nat) :
    s.leave { writes := ws, effects := [(0, .outcomeTaken i), (ws.length, .raise .stationOutcome)] } n
      = ((s.writeAll (ws.take n)).setStation i
          { s.station i with buffer := none, sequence := (s.station i).nextSequence }).raiseIf (decide (ws.length ≤ n))
            .stationOutcome := by
  by_cases h : ws.length ≤ n <;> simp [State.leave, h, State.effect, State.raiseIf] <;> rfl

theorem State.freesJob_eq {s : State} {o : Order} (ho : s.orderAt kindReleasePages .owner = some o) (h1 : 1 ≤ o.a)
    (h2 : o.a ≤ 128) (h3 : o.a ≤ s.journal.fullAtOldEnd) :
    s.freesJob = { writes := (s.journal.ring.take o.a).map fun p => stateWord s.geometry p .free } := by
  have h : ¬ (o.a < 1 ∨ 128 < o.a ∨ s.journal.fullAtOldEnd < o.a) := by omega
  simp only [State.freesJob, ho, if_neg h]

theorem State.interrupt_engine {s : State} {t : Txn} (h : s.engaged t) (n : Nat) :
    s.interrupt [(.engine, n)] = s.leave (s.txnJob t) n := by
  have hb : (s.busyWith fun _ => true) = some t := by
    simp [State.busyWith, h.1, h.2.1, State.engaged_attached h]
  have hj : s.job .engine = s.txnJob t := by
    rw [State.attachedJob_eq (State.engaged_attached h)]
    simp only [State.attachedJob, hb]
  simp [hj]

/-- Settles O27. -/
theorem anchorWriteRestarts : Obligations.AnchorWriteRestarts := by
  refine ⟨fun s v stopped => ?_, fun s n => ⟨rfl, ?_, ?_, ?_⟩⟩
  · intro a u
    obtain ⟨w, hw⟩ := u.restart_eq a
    refine ⟨u.restart a, rfl, ?_⟩
    have hstation := u.restart_station a
    have hchannel := u.restart_channel a
    have hslot : u.executor.slot = s.executor.slot := s.interrupt_slot stopped
    have hlost := fun h => State.restart_postLost (s := u) a (hslot ▸ h)
    have hkept := fun h => State.restart_notices (s := u) a (hslot.trans h)
    rw [hw] at hstation hchannel hlost hkept ⊢
    refine ⟨rfl, rfl, rfl, rfl, (s.interrupt_keeps stopped).1, s.interrupt_choices stopped, fun ha => if_neg ha,
      fun ha => ⟨if_pos ha, ?_⟩, rfl, rfl, rfl, rfl, fun l ha hl => ?_, fun ha hl => ?_, hlost, hkept,
      rfl, rfl, rfl, rfl, rfl, rfl, rfl, rfl, rfl, rfl, rfl, rfl, rfl, rfl, rfl, s.interrupt_octet stopped,
      s.interrupt_ready stopped, fun i => ?_, fun i => ?_⟩
    · simp [Executor.restart, ha]
    · have hb : (a == 0) = false := by simpa using ha
      simp [Executor.restart, hb, Executor.abandons, hl]
    · have hb : (a == 0) = false := by simpa using ha
      simp [Executor.restart, hb, Executor.abandons, hl]
    · rw [hstation i]
      have htone : (u.station i).tone = (s.station i).tone := s.interrupt_tone stopped i
      exact ⟨rfl, rfl, rfl, rfl, rfl, rfl, rfl, rfl, rfl, rfl, rfl, rfl, rfl,
        fun h => ToneGen.stop_silent (htone ▸ h), fun x h => ToneGen.stop_sounding (htone ▸ h)⟩
    · have hlevel : (u.channel i).restart.level = (s.channel i).level :=
        show (u.channel i).level = _ from congrArg Channel.level (s.interrupt_channel stopped i)
      rw [hchannel i, State.reset_channel]
      exact ⟨rfl, rfl, rfl, rfl, rfl, rfl, rfl, rfl, rfl, hlevel⟩
  · intro t p e hs hp hf hv hc he u
    subst hp
    have hu : u = s.leave (s.txnJob t) n := State.interrupt_engine hs n
    rw [hu, State.txnJob_commit hf hv hc he, State.leave_effectIf]
    simp only [fellLow_iff]
    split
    · next h => exact ⟨rfl, by rw [decide_eq_true h]; rfl⟩
    · next h => exact ⟨rfl, by rw [decide_eq_false h]; rfl⟩
  · intro k o hdesk i t a ws ho hbefore u
    have hnext : s.nextOutcome = some i := State.nextOutcome_eq ho hbefore
    have hj : s.job .slateOutcome = s.slateJob := State.attachedJob_eq (s.attached_iff.2 hdesk) _
    have hu : u = ((s.writeAll (ws.take n)).setStation i { t with buffer := none, sequence := t.nextSequence }).raiseIf
        (decide (ws.length ≤ n)) .stationOutcome := by
      simp only [u, State.interrupt_one, State.begun_slateOutcome, if_true, hj, State.slateJob_eq hnext ho]
      exact State.leave_slate s ws i n
    rw [hu]
    refine ⟨by simp, ?_, ?_, ?_⟩
    · rw [State.station, State.raiseIf_stations]
      exact congrArg Station.buffer (State.setStation_station_self _ i _)
    · rw [State.station, State.raiseIf_stations]
      exact congrArg Station.sequence (State.setStation_station_self _ i _)
    · unfold State.raiseIf
      split <;> rfl
  · intro o hdesk ho h1 h2 h3
    have hj : s.job .freedPages = s.freesJob := State.attachedJob_eq (s.attached_iff.2 hdesk) _
    have hb : s.broughtBy [] .freedPages = [] := rfl
    simp only [State.interrupt_one, State.begun_freedPages, if_true, hj, State.freesJob_eq ho h1 h2 h3, hb, List.foldl_nil,
      State.leave_none, ← List.map_take]
    rfl

end Sys2Proof.Machine
end

section
/-! PROOF. RELOAD_RULES and RELOAD_SETTINGS (R115, R203): the end each step brings, what a restart at that end finds, and every
copied value and clamp count (R113, R114, R203, R206). -/

namespace Sys2Proof.Machine

/-! ## The end of an order, word by word -/

theorem sat16_eq {n : Nat} (h : n ≤ 65535) : sat16 n = n := Nat.min_eq_left h

/-- The accesses of an end DONE with a small result count. -/
theorem OrderResult.done_writes {n : Nat} (a : Nat) (h : n ≤ 65535) :
    (OrderResult.done n).writes a
      = [{ addr := a + 2, word := 0 }, { addr := a + 8, word := n }, { addr := a + 10, word := 0 },
         { addr := a, word := 1 }] := by
  have hs : signed32 (n : Int) = n := by simp only [signed32]; omega
  have h1 : n % 65536 = n := by omega
  have h2 : n / 65536 % 65536 = 0 := by omega
  simp [OrderResult.writes, OrderResult.done, hs, words32, putWords, h1, h2, reasonCode, bytePair, OrderOutcome.code, bitOf]

theorem State.fieldsJob_zero {s : State} {l : RunningList} {n : Nat} (hl : s.executor.running = some l) (h : n ≤ 65535) :
    s.fieldsJob 0 n
      = { writes := [{ addr := l.address + 2, word := 0 }, { addr := l.address + 8, word := n },
            { addr := l.address + 10, word := 0 }] } := by
  have h1 : n % 65536 = n := by omega
  have h2 : n / 65536 % 65536 = 0 := by omega
  simp [State.fieldsJob, hl, words32, putWords, h1, h2]

/-- After the end of an order DONE its result fields read as written. -/
theorem Memory.read_done {m : Memory} {n : Nat} (a : Nat) (hm : m.wf = true) (h : n ≤ 65535) :
    (m.apply ((OrderResult.done n).writes a)).read16 (a + 2) = 0 ∧
      (m.apply ((OrderResult.done n).writes a)).read32 (a + 8) = n := by
  rw [OrderResult.done_writes a h, Memory.read32]
  simp only [Memory.apply]
  have hm1 := Memory.writeWord_wf m { addr := a + 2, word := 0 } hm
  have hm2 := Memory.writeWord_wf _ { addr := a + 8, word := n } hm1
  have hreason : (m.writeWord { addr := a + 2, word := 0 }).read16 (a + 2) = 0 := Memory.read16_writeWord_self m _ hm
  have hlow : ((m.writeWord { addr := a + 2, word := 0 }).writeWord { addr := a + 8, word := n }).read16 (a + 8) = n :=
    (Memory.read16_writeWord_self _ _ hm1).trans (Nat.mod_eq_of_lt (Nat.lt_succ_of_le h))
  have hhigh : (((m.writeWord { addr := a + 2, word := 0 }).writeWord { addr := a + 8, word := n }).writeWord
      { addr := a + 10, word := 0 }).read16 (a + 10) = 0 := Memory.read16_writeWord_self _ _ hm2
  rw [Memory.read16_writeWord_other _ _ _ (by simp only; omega), Memory.read16_writeWord_other _ _ _ (by simp only; omega),
    Memory.read16_writeWord_other _ _ _ (by simp only; omega), hreason,
    Memory.read16_writeWord_other _ _ (a + 8) (by simp only; omega),
    Memory.read16_writeWord_other _ _ (a + 8) (by simp only; omega), hlow,
    Memory.read16_writeWord_other _ _ (a + 8 + 2) (by simp only; omega), hhigh]
  exact ⟨rfl, by omega⟩

/-- A step that has changed neither desk memory nor the executor and then ends its order DONE ends the order. -/
theorem State.endsOrder_done {s v : State} {l : RunningList} {t : TakenOrder} {n : Nat} (hm : s.mem.wf = true)
    (hmem : v.mem = s.mem) (hexec : v.executor = s.executor) (hl : s.executor.running = some l) (ht : l.current = some t)
    (h : n ≤ 65535) : s.endsOrder (v.finishOrder (.done n)) 0 n = true := by
  obtain ⟨hreason, hcount⟩ := Memory.read_done l.address hm h
  rw [State.finishOrder_eq v _ l t (hexec ▸ hl) ht]
  simp only [State.endsOrder, hl, State.withExecutor_executor, State.withExecutor_mem]
  simp [hmem, hreason, hcount]

/-! ## A restart at the end of an order -/

/-- What a stop leaves of the end of an order that the step to `u` brings: the settings handed over, the rules copied, the causes
raised, and the first words of the end. -/
theorem State.interrupt_orderEnd {s u : State} {l : RunningList} {count : Nat} (n : Nat)
    (hdesk : s.desk.state = .opened ∨ s.desk.state = .halted) (hl : s.executor.running = some l) (h : count ≤ 65535)
    (hend : s.orderEnd [] 0 count = some ([], u)) (hflags : u.notices.flags = s.notices.flags) :
    s.interrupt [(.orderFields 0#16 (BitVec.ofNat 32 count), n)]
      = ((s.withRules u.rules).takeSettings u.settings).writeAll
          ([{ addr := l.address + 2, word := 0 }, { addr := l.address + 8, word := count },
            { addr := l.address + 10, word := 0 }].take n) := by
  have ha : s.attached = true := s.attached_iff.2 hdesk
  have hcount : (BitVec.ofNat 32 count).toNat = count := by rw [BitVec.toNat_ofNat]; omega
  have hbrought := State.broughtBy_orderFields s [] 0#16 (BitVec.ofNat 32 count) ([], u) ha (hcount.symm ▸ hend)
  have hmem : ([], u) ∈ s.ordersNow := List.mem_of_find?_eq_some hend
  have hholds : s.endsOrder u 0 count = true := by
    have := List.find?_some hend
    simpa using this
  have hbegun : s.begun [] (.orderFields 0#16 (BitVec.ofNat 32 count)) = true := by
    rw [State.begun_orderFields, List.any_eq_true]
    exact ⟨[], List.mem_map.2 ⟨([], u), List.mem_filter.2 ⟨hmem, by rw [hcount]; exact hholds⟩, rfl⟩, rfl⟩
  have hjob : s.job (.orderFields 0#16 (BitVec.ofNat 32 count)) = s.fieldsJob 0 count := by
    rw [State.attachedJob_eq ha]
    show s.fieldsJob 0 (BitVec.ofNat 32 count).toNat = _
    rw [hcount]
  have hcauses (v : State) (hv : v.notices = s.notices) : v.effect (.causes u.notices.flags) = v := by
    simp only [State.effect, hflags, hv, BitVec.or_self]
    exact hv ▸ rfl
  rw [State.interrupt_one, if_pos hbegun, hbrought, hjob, State.fieldsJob_zero hl h, State.leave_none]
  exact congrArg (State.writeAll · _) (hcauses _ rfl)

/-- The settings in force, handed over again, change nothing. -/
theorem State.takeSettings_self (s : State) : s.takeSettings s.settings = s := by
  simp only [State.takeSettings, Line.changeParity, if_true]
  rfl

theorem State.finishOrder_rules (s : State) (r : OrderResult) : (s.finishOrder r).rules = s.rules := by
  obtain ⟨ws, e, h⟩ := s.finishOrder_blocks r
  rw [h]; rfl

theorem State.finishOrder_settings (s : State) (r : OrderResult) : (s.finishOrder r).settings = s.settings := by
  obtain ⟨ws, e, h⟩ := s.finishOrder_blocks r
  rw [h]; rfl

theorem State.finishOrder_notices (s : State) (r : OrderResult) : (s.finishOrder r).notices = s.notices := by
  obtain ⟨ws, e, h⟩ := s.finishOrder_blocks r
  rw [h]; rfl

/-! ## The steps -/

/-- An order waits for one thing at a time, and is of one kind. -/
theorem State.orderAt_none {s : State} {k k' : Nat} {w w' : OrderWait} {o : Order} (h : s.orderAt k w = some o)
    (hne : k ≠ k' ∨ w ≠ w') : s.orderAt k' w' = none := by
  obtain ⟨t, ht, rfl, hk, hw⟩ := s.orderAt_some k w o h
  have : ¬ (t.order.kind = k' ∧ t.wait = w') := fun ⟨h1, h2⟩ => hne.elim (· (hk.symm.trans h1)) (· (hw.symm.trans h2))
  simp only [State.orderAt, ht, if_neg this]

theorem State.orderAt_current {s : State} {k : Nat} {w : OrderWait} {o : Order} {l : RunningList}
    (h : s.orderAt k w = some o) (hl : s.executor.running = some l) : ∃ t, l.current = some t := by
  obtain ⟨t, ht, -⟩ := s.orderAt_some k w o h
  exact ⟨t, by simpa [State.currentOrder, Executor.current, hl] using ht⟩

theorem execReloadRules_held {s : State} {o : Order}
    (h : s.orderAt kindReloadRules .owner = some o ∨ s.orderAt kindReloadRules .hold = some o) (hb : s.engine.state ≠ .busy) :
    execReloadRules s = .next s.reloadRules := by
  rcases h with h | h
  · simp only [execReloadRules, h, if_neg hb]
  · have hn := State.orderAt_none (k' := kindReloadRules) (w' := .owner) h (.inr (by simp))
    simp only [execReloadRules, hn, h, if_neg hb]

theorem execReloadRules_other {s : State} {o : Order} (h : s.orderAt kindReloadSettings .owner = some o) :
    execReloadRules s = .next s := by
  have hne : kindReloadSettings ≠ kindReloadRules := by decide
  simp only [execReloadRules, State.orderAt_none h (.inl hne)]

theorem execReloadSettings_owner {s : State} {o : Order} (h : s.orderAt kindReloadSettings .owner = some o) :
    execReloadSettings s = .next ((s.takeSettings (copySettings s.mem s.geometry.settingsBlock).1).finishOrder
      (.done (copySettings s.mem s.geometry.settingsBlock).2)) := by
  simp only [execReloadSettings, h]

/-- The end of RELOAD_RULES is looked for first. -/
theorem State.orderEnd_reloadRules {s u : State} {count : Nat} (h : execReloadRules s = .next u)
    (hend : s.endsOrder u 0 count = true) : s.orderEnd [] 0 count = some ([], u) := by
  simp [State.orderEnd, State.ordersNow, nextsOf, h, hend]

/-- The end of RELOAD_SETTINGS is looked for next. -/
theorem State.orderEnd_reloadSettings {s u : State} {count : Nat} (hother : execReloadRules s = .next s)
    (h : execReloadSettings s = .next u) (hend : s.endsOrder u 0 count = true) : s.orderEnd [] 0 count = some ([], u) := by
  simp [State.orderEnd, State.ordersNow, nextsOf, hother, h, hend]

theorem copyRules_count_le (m : Memory) (a : Nat) : (copyRules m a).2 ≤ 65535 := sat16_le _

theorem copySettings_count_le (m : Memory) (a : Nat) : (copySettings m a).2 ≤ 65535 := sat16_le _

/-- A restart that stops RELOAD_RULES at its end finds the rules copied (R115). -/
theorem State.interrupt_reloadRules {s : State} {o : Order} {l : RunningList} (n : Nat) (hm : s.mem.wf = true)
    (hdesk : s.desk.state = .opened ∨ s.desk.state = .halted) (hl : s.executor.running = some l)
    (h : s.orderAt kindReloadRules .owner = some o ∨ s.orderAt kindReloadRules .hold = some o) (hb : s.engine.state ≠ .busy) :
    let c := copyRules s.mem s.geometry.rulesArea
    s.interrupt [(.orderFields 0#16 (BitVec.ofNat 32 c.2), n)]
      = (s.withRules c.1).writeAll ([{ addr := l.address + 2, word := 0 }, { addr := l.address + 8, word := c.2 },
          { addr := l.address + 10, word := 0 }].take n) := by
  intro c
  obtain ⟨t, ht⟩ : ∃ t, l.current = some t := h.elim (State.orderAt_current · hl) (State.orderAt_current · hl)
  have hcount : c.2 ≤ 65535 := copyRules_count_le _ _
  have hend := State.orderEnd_reloadRules (execReloadRules_held h hb)
    (State.endsOrder_done hm rfl rfl hl ht hcount : s.endsOrder s.reloadRules 0 c.2 = true)
  rw [State.interrupt_orderEnd n hdesk hl hcount hend (by rw [State.reloadRules, State.finishOrder_notices]; rfl)]
  rw [State.reloadRules, State.finishOrder_rules, State.finishOrder_settings]
  exact congrArg (State.writeAll · _) (State.takeSettings_self (s.withRules c.1))

/-- A restart that stops RELOAD_SETTINGS at its end finds every setting handed over (R203). -/
theorem State.interrupt_reloadSettings {s : State} {o : Order} {l : RunningList} (n : Nat) (hm : s.mem.wf = true)
    (hdesk : s.desk.state = .opened ∨ s.desk.state = .halted) (hl : s.executor.running = some l)
    (h : s.orderAt kindReloadSettings .owner = some o) :
    let c := copySettings s.mem s.geometry.settingsBlock
    s.interrupt [(.orderFields 0#16 (BitVec.ofNat 32 c.2), n)]
      = (s.takeSettings c.1).writeAll ([{ addr := l.address + 2, word := 0 }, { addr := l.address + 8, word := c.2 },
          { addr := l.address + 10, word := 0 }].take n) := by
  intro c
  obtain ⟨t, ht⟩ := State.orderAt_current h hl
  have hcount : c.2 ≤ 65535 := copySettings_count_le _ _
  have hend := State.orderEnd_reloadSettings (execReloadRules_other h) (execReloadSettings_owner h)
    (State.endsOrder_done hm rfl rfl hl ht hcount :
      s.endsOrder ((s.takeSettings c.1).finishOrder (.done c.2)) 0 c.2 = true)
  rw [State.interrupt_orderEnd n hdesk hl hcount hend (by rw [State.finishOrder_notices]; rfl)]
  rw [State.finishOrder_rules, State.finishOrder_settings]
  rfl

end Sys2Proof.Machine
end

section
/-! PROOF. Every value copied by RELOAD_RULES and RELOAD_SETTINGS, and their clamp counts (R113, R114, R203, R206). -/

namespace Sys2Proof.Machine

/-! ## One value -/

theorem clampTo_fst {lo hi v : Nat} (h : lo ≤ hi) :
    (clampTo lo hi v).1 = if v < lo then lo else if hi < v then hi else v := by
  simp only [clampTo]
  split
  · omega
  · split <;> omega

theorem clampTo_snd {lo hi v : Nat} : (clampTo lo hi v).2 = if lo ≤ v ∧ v ≤ hi then 0 else 1 := by
  simp only [clampTo]
  split <;> split <;> omega

theorem clampTo_snd_le {lo hi v : Nat} : (clampTo lo hi v).2 ≤ 1 := by
  simp only [clampTo]
  split <;> omega

theorem hasBit_eq_testBit (v n : Nat) : hasBit v n = v.testBit n := by
  rw [hasBit, Nat.testBit_eq_decide_div_mod_eq]
  exact beq_eq_decide _ _

theorem copyText_eq (m : Memory) (a : Nat) : copyText m a = (List.range 24).map fun i => m.readByte (a + i) := by
  rw [copyText, Memory.bytes_eq_map, List.map_map]
  rfl

theorem copyDateOrder_eq (v : Nat) :
    copyDateOrder v
      = (if v = 1 then .mdy else if v = 2 then .ymd else .dmy, if 0 ≤ v ∧ v ≤ 2 then 0 else 1) := by
  match v with
  | 0 | 1 | 2 => rfl
  | n + 3 => simp [copyDateOrder]

theorem copyParity_eq (v : Nat) :
    copyParity v
      = (if v = 1 then .even else if v = 2 then .odd else .none, if 0 ≤ v ∧ v ≤ 2 then 0 else 1) := by
  match v with
  | 0 | 1 | 2 => rfl
  | n + 3 => simp [copyParity]

/-! ## Runs of entries -/

/-- Consecutive entries, each at its place, and the sum of their counts. -/
theorem copyMany_eq {α : Type} (f : Nat → Clamped α) (a size n : Nat) :
    copyMany f a size n
      = ((List.range n).map fun i => (f (a + size * i)).1, ((List.range n).map fun i => (f (a + size * i)).2).sum) := by
  induction n generalizing a with
  | zero => rfl
  | succ n ih =>
    have hplace (i : Nat) : a + size + size * i = a + size * (i + 1) := by rw [Nat.mul_succ]; omega
    simp [copyMany, ih, List.range_succ_eq_map, Function.comp_def, hplace]

theorem copyMany_length {α : Type} (f : Nat → Clamped α) (a size n : Nat) : (copyMany f a size n).1.length = n := by
  simp [copyMany_eq]

theorem copyMany_getD {α : Type} (f : Nat → Clamped α) (a size : Nat) (d : α) {n i : Nat} (h : i < n) :
    (copyMany f a size n).1.getD i d = (f (a + size * i)).1 := by
  simp [copyMany_eq, h]

theorem copyMany_count {α : Type} (f : Nat → Clamped α) (a size n : Nat) :
    (copyMany f a size n).2 = ((List.range n).map fun i => (f (a + size * i)).2).sum := by rw [copyMany_eq]

theorem copyMany_count_le {α : Type} (f : Nat → Clamped α) (a size n k : Nat) (h : ∀ b, (f b).2 ≤ k) :
    (copyMany f a size n).2 ≤ n * k := by
  induction n generalizing a with
  | zero => exact Nat.zero_le _
  | succ n ih =>
    have h1 := h a
    have h2 := ih (a + size)
    rw [copyMany, Nat.succ_mul]
    omega

/-- The bytes of a bit set, byte by byte. -/
theorem testBit_foldr_bytes (bs : List Byte) (d : Nat) :
    (bs.foldr (fun (b : Byte) n => b.toNat + 256 * n) 0).testBit d = (bs.getD (d / 8) 0).toNat.testBit (d % 8) := by
  induction bs generalizing d with
  | nil => simp
  | cons b bs ih =>
    rw [List.foldr_cons, Nat.add_comm]
    refine (Nat.testBit_two_pow_mul_add _ b.isLt d).trans ?_
    split
    · next h => rw [Nat.div_eq_of_lt h, Nat.mod_eq_of_lt h, List.getD_cons_zero]
    · next h =>
      have h1 : d / 8 = (d - 8) / 8 + 1 := by omega
      have h2 : d % 8 = (d - 8) % 8 := by omega
      rw [ih, h1, h2, List.getD_cons_succ]

theorem copyClosedSet_getLsbD (m : Memory) (a : Nat) {d : Nat} (h : d < 512) :
    (copyClosedSet m a).getLsbD d = hasBit (m.readByte (a + d / 8)) (d % 8) := by
  have hd : d / 8 < 64 := by omega
  rw [copyClosedSet, BitVec.getLsbD_ofNat, testBit_foldr_bytes, Memory.bytes_eq_map, hasBit_eq_testBit]
  simp [h, hd, Memory.readByte]

/-! ## The entries of the rules area -/

/-- A policy entry that lends, field by field (R114). -/
theorem copyLending_fst (m : Memory) (a : Nat) (kind : PolicyKind) {longest : Nat} (h : 1 ≤ longest) :
    let clamp : Nat → Nat → Nat → Nat := fun lo hi raw => if raw < lo then lo else if hi < raw then hi else raw
    (copyLending m a kind longest).1
      = { kind := kind, period := clamp 1 longest (m.read16 (a + 2)), renewLimit := clamp 0 15 (m.readByte (a + 1)),
          fineRate := clamp 0 10000 (m.read16 (a + 4)), fineCap := clamp 0 100000 (m.read32 (a + 8)),
          grace := clamp 0 15 (m.readByte (a + 6)) } := by
  simp only [copyLending, clampTo_fst h, clampTo_fst (Nat.zero_le _)]

theorem copyLending_snd_le (m : Memory) (a : Nat) (kind : PolicyKind) (longest : Nat) :
    (copyLending m a kind longest).2 ≤ 5 := by
  have h (lo hi v : Nat) : (clampTo lo hi v).2 ≤ 1 := clampTo_snd_le
  have h1 := h 1 longest (m.read16 (a + 2))
  have h2 := h 0 15 (m.readByte (a + 1))
  have h3 := h 0 10000 (m.read16 (a + 4))
  have h4 := h 0 100000 (m.read32 (a + 8))
  have h5 := h 0 15 (m.readByte (a + 6))
  simp only [copyLending]
  omega

/-- A policy entry lends when its kind is DAYS or HOURS and its period is not 0 (R114). -/
theorem copyPolicy_lends {m : Memory} {a : Nat} (hk : m.readByte a = 1 ∨ m.readByte a = 2) (hp : m.read16 (a + 2) ≠ 0) :
    copyPolicy m a = copyLending m a (if m.readByte a = 1 then .days else .hours) (if m.readByte a = 1 then 365 else 72) := by
  rcases hk with hk | hk <;> simp [copyPolicy, hk, hp]

/-- Any other entry lends nothing, and counts once unless its kind is NONE. -/
theorem copyPolicy_nothing {m : Memory} {a : Nat} (h : ¬ ((m.readByte a = 1 ∨ m.readByte a = 2) ∧ m.read16 (a + 2) ≠ 0)) :
    copyPolicy m a = (.nothing, if m.readByte a = 0 then 0 else 1) := by
  unfold copyPolicy
  split
  · next h0 => simp [h0]
  · next h1 =>
    have hp : m.read16 (a + 2) = 0 := by simpa [h1] using h
    simp [h1, hp]
  · next h2 =>
    have hp : m.read16 (a + 2) = 0 := by simpa [h2] using h
    simp [h2, hp]
  · next h0 _ _ => rw [if_neg h0]

/-- The values changed in a policy entry (R114). -/
theorem copyPolicy_snd (m : Memory) (a : Nat) :
    (copyPolicy m a).2
      = if m.readByte a = 0 then 0
        else if m.readByte a ≤ 2 ∧ m.read16 (a + 2) ≠ 0 then
          (clampTo 1 (if m.readByte a = 1 then 365 else 72) (m.read16 (a + 2))).2 + (clampTo 0 15 (m.readByte (a + 1))).2
            + (clampTo 0 10000 (m.read16 (a + 4))).2 + (clampTo 0 15 (m.readByte (a + 6))).2
            + (clampTo 0 100000 (m.read32 (a + 8))).2
        else 1 := by
  by_cases h : (m.readByte a = 1 ∨ m.readByte a = 2) ∧ m.read16 (a + 2) ≠ 0
  · have h0 : m.readByte a ≠ 0 := by omega
    have h2 : m.readByte a ≤ 2 ∧ m.read16 (a + 2) ≠ 0 := ⟨by omega, h.2⟩
    rw [copyPolicy_lends h.1 h.2, if_neg h0, if_pos h2]
    simp only [copyLending]
    omega
  · rw [copyPolicy_nothing h]
    dsimp only
    split
    · rfl
    · next h0 => rw [if_neg fun hc => h ⟨by omega, hc.2⟩]

theorem copyPolicy_snd_le (m : Memory) (a : Nat) : (copyPolicy m a).2 ≤ 5 := by
  by_cases h : (m.readByte a = 1 ∨ m.readByte a = 2) ∧ m.read16 (a + 2) ≠ 0
  · rw [copyPolicy_lends h.1 h.2]
    exact copyLending_snd_le _ _ _ _
  · rw [copyPolicy_nothing h]
    show (if _ then 0 else 1) ≤ 5
    split <;> omega

theorem copyBorrowerClass_snd_le (m : Memory) (a : Nat) : (copyBorrowerClass m a).2 ≤ 3 := by
  have h (lo hi v : Nat) : (clampTo lo hi v).2 ≤ 1 := clampTo_snd_le
  have h1 := h 0 99 (m.readByte a)
  have h2 := h 0 31 (m.readByte (a + 1))
  have h3 := h 0 Config.maxFines (m.read32 (a + 4))
  simp only [copyBorrowerClass]
  omega

theorem copyHoldsAllowed_snd (m : Memory) (a : Nat) :
    (copyHoldsAllowed m a).2 = if 0 ≤ m.readByte a ∧ m.readByte a ≤ 1 then 0 else 1 := by
  simp only [copyHoldsAllowed]
  split <;> split <;> omega

theorem copyHoldsAllowed_snd_le (m : Memory) (a : Nat) : (copyHoldsAllowed m a).2 ≤ 1 := by
  simp only [copyHoldsAllowed]
  split <;> omega

theorem copyHours_snd_le (m : Memory) (a : Nat) : (copyHours m a).2 ≤ 2 := by
  have h (lo hi v : Nat) : (clampTo lo hi v).2 ≤ 1 := clampTo_snd_le
  have h1 := h 0 1439 (m.read16 a)
  have h2 := h 0 1439 (m.read16 (a + 2))
  simp only [copyHours]
  omega

/-- The clamp count of the rules: the sum over its parts. It stays far below 65535. -/
theorem copyRules_snd (m : Memory) (a : Nat) :
    (copyRules m a).2
      = ((List.range 128).map fun i => (copyPolicy m (a + 12 * i)).2).sum
        + ((List.range 8).map fun i => (copyBorrowerClass m (a + 1536 + 8 * i)).2).sum
        + ((List.range 16).map fun i => (copyHoldsAllowed m (a + 1600 + 1 * i)).2).sum
        + ((List.range 100).map fun i => (clampTo 0 15 (m.readByte (a + 1616 + 1 * i))).2).sum
        + (clampTo 0 65024 (m.read16 (a + 1716))).2
        + ((List.range 7).map fun i => (copyHours m (a + 1718 + 4 * i)).2).sum := by
  have h1 := copyMany_count_le (copyPolicy m) a 12 128 5 (copyPolicy_snd_le m)
  have h2 := copyMany_count_le (copyBorrowerClass m) (a + 1536) 8 8 3 (copyBorrowerClass_snd_le m)
  have h3 := copyMany_count_le (copyHoldsAllowed m) (a + 1600) 1 16 1 (copyHoldsAllowed_snd_le m)
  have h4 := copyMany_count_le (fun p => clampTo 0 15 (m.readByte p)) (a + 1616) 1 100 1 fun _ => clampTo_snd_le
  have h5 : (clampTo 0 65024 (m.read16 (a + 1716))).2 ≤ 1 := clampTo_snd_le
  have h6 := copyMany_count_le (copyHours m) (a + 1718) 4 7 2 (copyHours_snd_le m)
  rw [← copyMany_count, ← copyMany_count, ← copyMany_count, ← copyMany_count fun p => clampTo 0 15 (m.readByte p),
    ← copyMany_count, copyRules]
  exact sat16_eq (by omega)

/-- The clamp count of the settings: the sum over the values that have a range. -/
theorem copySettings_snd (m : Memory) (a : Nat) :
    (copySettings m a).2
      = (clampTo 1000 65535 (m.read16 (a + 2))).2 + (clampTo 0 5000 (m.read16 (a + 4))).2
        + (clampTo 10 600 (m.read16 (a + 6))).2 + (copyDateOrder (m.readByte (a + 9))).2
        + (clampTo 1 30 (m.readByte (a + 11))).2 + (clampTo 1 4095 (m.read16 (a + 14))).2
        + (copyParity (m.readByte (a + 16))).2 + (clampTo 1 60 (m.readByte (a + 17))).2
        + (clampTo 1 5 (m.readByte (a + 18))).2 + (clampTo 50 2000 (m.read16 (a + 22))).2
        + (clampTo 500 20000 (m.read16 (a + 24))).2 := by
  have h (lo hi v : Nat) : (clampTo lo hi v).2 ≤ 1 := clampTo_snd_le
  have h1 := h 1000 65535 (m.read16 (a + 2))
  have h2 := h 0 5000 (m.read16 (a + 4))
  have h3 := h 10 600 (m.read16 (a + 6))
  have h4 : (copyDateOrder (m.readByte (a + 9))).2 ≤ 1 := by rw [copyDateOrder_eq]; dsimp only; split <;> omega
  have h5 := h 1 30 (m.readByte (a + 11))
  have h6 := h 1 4095 (m.read16 (a + 14))
  have h7 : (copyParity (m.readByte (a + 16))).2 ≤ 1 := by rw [copyParity_eq]; dsimp only; split <;> omega
  have h8 := h 1 60 (m.readByte (a + 17))
  have h9 := h 1 5 (m.readByte (a + 18))
  have h10 := h 50 2000 (m.read16 (a + 22))
  have h11 := h 500 20000 (m.read16 (a + 24))
  exact sat16_eq (by omega)

/-- Settles O32. -/
theorem reloadsTakeEffect : Obligations.ReloadsTakeEffect := by
  refine ⟨fun s o => ?_, fun m a => ?_, fun m a => ?_⟩
  · intro rules settings reloaded
    refine ⟨fun h hb => ?_, fun h hb => execReloadRules_held (.inl h) hb, fun h hb => execReloadRules_held (.inr h) hb,
      fun h => execReloadSettings_owner h, ?_⟩
    · show execReloadRules s = _
      simp only [execReloadRules, h, if_pos hb]
    intro l n hm hdesk hl stopped written
    refine ⟨fun h => ?_, fun h hb => ?_⟩
    · exact State.interrupt_reloadSettings n hm hdesk hl h
    · exact h.elim (fun h => State.interrupt_reloadRules n hm hdesk hl (.inl h) hb)
        fun h => State.interrupt_reloadRules n hm hdesk hl (.inr h) hb
  · refine ⟨rfl, rfl, clampTo_fst (by decide), clampTo_fst (by decide), clampTo_fst (by decide), fun i hi => ?_, ?_, rfl,
      clampTo_fst (by decide), rfl, clampTo_fst (by decide), ?_, clampTo_fst (by decide), clampTo_fst (by decide), rfl,
      clampTo_fst (by decide), clampTo_fst (by decide), copyText_eq _ _, copyText_eq _ _, copyText_eq _ _, ?_⟩
    · simp only [copySettings, BitVec.getLsbD_ofNat, hi, hasBit_eq_testBit, decide_true, Bool.true_and]
    · exact congrArg Prod.fst (copyDateOrder_eq _)
    · exact congrArg Prod.fst (copyParity_eq _)
    · rw [copySettings_snd]
      simp only [clampTo_snd, copyDateOrder_eq, copyParity_eq]
  · refine ⟨copyMany_length _ _ _ _, copyMany_length _ _ _ _, copyMany_length _ _ _ _, copyMany_length _ _ _ _,
      copyMany_length _ _ _ _, fun i hi => ⟨fun h => ?_, fun h => ?_⟩, fun i hi => ?_, fun i hi => ?_, fun i hi => ?_,
      clampTo_fst (by decide), fun i hi => ?_, fun d hd => copyClosedSet_getLsbD m _ hd, ?_⟩
    · refine (copyMany_getD _ a 12 _ hi).trans ?_
      rw [copyPolicy_lends h.1 h.2]
      exact copyLending_fst m _ _ (by split <;> omega)
    · refine (copyMany_getD _ a 12 _ hi).trans ?_
      rw [copyPolicy_nothing h]
      rfl
    · refine (copyMany_getD _ _ 8 _ hi).trans ?_
      simp only [copyBorrowerClass, clampTo_fst (Nat.zero_le _), Config.maxFines]
    · rw [show (copyRules m a).1.holdsAllowed.getD i false = _ from copyMany_getD _ _ 1 _ hi]
      simp [copyHoldsAllowed]
    · refine (copyMany_getD (fun p => clampTo 0 15 (m.readByte p)) (a + 1616) 1 0 hi).trans ?_
      rw [clampTo_fst (Nat.zero_le _), Nat.one_mul]
    · refine (copyMany_getD _ _ 4 _ hi).trans ?_
      simp only [copyHours, clampTo_fst (Nat.zero_le _)]
    · rw [copyRules_snd]
      simp only [copyPolicy_snd, copyHoldsAllowed_snd, clampTo_snd, Nat.one_mul, copyBorrowerClass, copyHours, Config.maxFines]

end Sys2Proof.Machine
end

section
/-! PROOF. The label symbology (R10 to R18): what a sweep's characters read as, the layout of a label, the decode of every sweep
by its widths, and the decode of a printed label in either direction. -/

namespace Sys2Proof.Machine

/-! ## The characters of a sweep -/

/-- The fourteen pairs of wide positions, in the order of `labelChar` (R10). -/
def labelPairs : List (Nat × Nat) :=
  [(1, 4), (1, 5), (1, 6), (1, 7), (2, 4), (2, 5), (2, 6), (2, 7), (3, 4), (3, 5), (3, 6), (1, 2), (1, 3), (2, 3)]

/-- The character with place `x` among the pairs. -/
def labelChar (x : Nat) : LabelChar :=
  if x ≤ 9 then .digit x else if x = 10 then .ten else if x = 11 then .startItem else if x = 12 then .startBorrower else .stop

/-- Element `q`, from 1, of character `c`, from 0 (R11). -/
def sweepWidth (vs : List Nat) (c q : Nat) : Nat := vs.getD (8 * c + q - 1) 0

/-- The seven elements of character `c`. -/
def sweepChar (vs : List Nat) (c : Nat) : List Nat := (List.range 7).map fun q => sweepWidth vs c (q + 1)

/-- Exactly the positions of pair `x` are wide among seven elements (R14). -/
def widePair (f : Nat → Nat) (x : Nat) : Prop :=
  x < 14 ∧ ∀ q, 1 ≤ q → q ≤ 7 →
    (((List.range 7).map fun q => f (q + 1)).sum < 6 * f q ↔
      q = (labelPairs.getD x (0, 0)).1 ∨ q = (labelPairs.getD x (0, 0)).2)

theorem widePositions_eq (t p n : Nat) (f : Nat → Nat) :
    widePositions t p ((List.range n).map f)
      = ((List.range n).filter fun q => decide (t < 6 * f q)).map (p + ·) := by
  induction n generalizing p f with
  | zero => rfl
  | succ n ih =>
    have hstep : (fun i => p + 1 + i) = (p + ·) ∘ Nat.succ := by funext i; simp only [Function.comp]; omega
    rw [List.range_succ_eq_map, List.map_cons, List.map_map, widePositions, ih (p + 1) (f ∘ Nat.succ), List.filter_cons,
      List.filter_map, hstep]
    by_cases h : t < 6 * f 0
    · rw [if_pos h, if_pos (decide_eq_true h), List.map_cons, List.map_map]
      rfl
    · rw [if_neg h, if_neg (by simpa using h), List.map_map]
      rfl

/-- The character of the wide positions of a character: those of a pair, or none (R14). -/
def charOfWide : List Nat → Option LabelChar
  | [a, b] => charOfPair a b
  | _ => none

theorem classify_eq (ws : List Nat) : classify ws = charOfWide (widePositions ws.sum 1 ws) := rfl

/-- Seven elements, by the positions from 1 that are wide. -/
theorem classify_filter (f : Nat → Nat) :
    classify ((List.range 7).map fun q => f (q + 1))
      = charOfWide ([1, 2, 3, 4, 5, 6, 7].filter fun q =>
          decide (((List.range 7).map fun q => f (q + 1)).sum < 6 * f q)) := by
  have hseven : [1, 2, 3, 4, 5, 6, 7] = (List.range 7).map (1 + ·) := rfl
  rw [classify_eq, widePositions_eq, hseven, List.filter_map]
  simp only [Function.comp_def, Nat.add_comm 1]

theorem charOfPair_labelPairs {x : Nat} (h : x < 14) :
    charOfPair (labelPairs.getD x (0, 0)).1 (labelPairs.getD x (0, 0)).2 = some (labelChar x) := by
  interval_cases x <;> rfl

/-- Every assigned pair is one of the fourteen. -/
theorem exists_of_charOfPair {a b : Nat} {ch : LabelChar} (h : charOfPair a b = some ch) :
    ∃ x, x < 14 ∧ labelPairs.getD x (0, 0) = (a, b) := by
  have hmem : (a, b) ∈ labelPairs := by
    unfold charOfPair at h
    split at h
    case h_15 => contradiction
    all_goals decide
  obtain ⟨x, hx, hget⟩ := List.mem_iff_getElem.1 hmem
  exact ⟨x, hx, by rw [List.getD_eq_getElem _ _ hx, hget]⟩

theorem filter_labelPairs {x : Nat} (h : x < 14) :
    ([1, 2, 3, 4, 5, 6, 7].filter fun q => decide (q = (labelPairs.getD x (0, 0)).1 ∨ q = (labelPairs.getD x (0, 0)).2))
      = [(labelPairs.getD x (0, 0)).1, (labelPairs.getD x (0, 0)).2] := by
  interval_cases x <;> rfl

theorem mem_seven {q : Nat} : q ∈ [1, 2, 3, 4, 5, 6, 7] ↔ 1 ≤ q ∧ q ≤ 7 := by
  simp only [List.mem_cons, List.not_mem_nil, or_false]
  exact ⟨fun h => by omega, fun h => by omega⟩

/-- Seven elements with the wide positions of pair `x` are the character `x`. -/
theorem classify_of_widePair {f : Nat → Nat} {x : Nat} (h : widePair f x) :
    classify ((List.range 7).map fun q => f (q + 1)) = some (labelChar x) := by
  obtain ⟨hx, hwide⟩ := h
  have hfilter : ([1, 2, 3, 4, 5, 6, 7].filter fun q => decide (((List.range 7).map fun q => f (q + 1)).sum < 6 * f q))
      = [(labelPairs.getD x (0, 0)).1, (labelPairs.getD x (0, 0)).2] := by
    rw [← filter_labelPairs hx]
    refine List.filter_congr fun q hq => decide_eq_decide.2 ?_
    exact hwide q (mem_seven.1 hq).1 (mem_seven.1 hq).2
  rw [classify_filter, hfilter]
  exact charOfPair_labelPairs hx

/-- A character read has the wide positions of its pair. -/
theorem widePair_of_classify {f : Nat → Nat} {ch : LabelChar}
    (h : classify ((List.range 7).map fun q => f (q + 1)) = some ch) : ∃ x, widePair f x := by
  rw [classify_filter] at h
  unfold charOfWide at h
  split at h
  · next a b hfilter =>
    obtain ⟨x, hx, hget⟩ := exists_of_charOfPair h
    refine ⟨x, hx, fun q h1 h7 => ?_⟩
    have hq : q ∈ [a, b] ↔ ((List.range 7).map fun q => f (q + 1)).sum < 6 * f q := by
      rw [← hfilter, List.mem_filter, decide_eq_true_iff]
      exact and_iff_right (mem_seven.2 ⟨h1, h7⟩)
    rw [hget, ← hq, List.mem_cons, List.mem_singleton]
  · contradiction

theorem labelChar_injective {x y : Nat} (hx : x < 14) (hy : y < 14) (h : labelChar x = labelChar y) : x = y := by
  revert h
  interval_cases x <;> interval_cases y <;> decide

theorem classify_eq_labelChar {f : Nat → Nat} {x : Nat} (hx : x < 14) :
    classify ((List.range 7).map fun q => f (q + 1)) = some (labelChar x) ↔ widePair f x := by
  refine ⟨fun h => ?_, classify_of_widePair⟩
  obtain ⟨y, hy⟩ := widePair_of_classify h
  have hxy : labelChar y = labelChar x := Option.some.inj ((classify_of_widePair hy).symm.trans h)
  exact labelChar_injective hy.1 hx hxy ▸ hy

theorem widePair_unique {f : Nat → Nat} {x y : Nat} (hx : widePair f x) (hy : widePair f y) : x = y :=
  labelChar_injective hx.1 hy.1 (Option.some.inj ((classify_of_widePair hx).symm.trans (classify_of_widePair hy)))

/-! ## Cutting a sweep into characters -/

theorem sweepChar_succ (vs : List Nat) (c : Nat) : sweepChar vs (c + 1) = sweepChar (vs.drop 8) c := by
  refine List.map_congr_left fun q _ => ?_
  simp only [sweepWidth, List.getD_eq_getElem?_getD, List.getElem?_drop]
  congr 2
  omega

theorem take_seven {vs : List Nat} (h : 7 ≤ vs.length) : vs.take 7 = sweepChar vs 0 := by
  refine List.ext_getElem (by simp [sweepChar, h]) fun i h1 h2 => ?_
  have hi : i < vs.length := by simp at h1; omega
  simp [sweepChar, sweepWidth, hi]

theorem charWidths_eq {k : Nat} {vs : List Nat} (h : k ≠ 0 → vs.length + 1 = 8 * k) :
    charWidths k vs = (List.range k).map (sweepChar vs) := by
  induction k generalizing vs with
  | zero => rfl
  | succ k ih =>
    have hlen := h k.succ_ne_zero
    have hrest : k ≠ 0 → (vs.drop 8).length + 1 = 8 * k := fun _ => by rw [List.length_drop]; omega
    rw [charWidths, ih hrest, take_seven (by omega), List.range_succ_eq_map, List.map_cons, List.map_map]
    exact congrArg _ (List.map_congr_left fun c _ => (sweepChar_succ vs c).symm)

/-! ## Stages 2 and 3 -/

theorem mapM_id_some {α : Type} (l : List α) : (l.map some).mapM id = some l := by
  induction l with
  | nil => rfl
  | cons a l ih => simp [List.mapM_cons, ih]

theorem mapM_id_none {α : Type} {l : List (Option α)} (h : none ∈ l) : l.mapM id = none := by
  induction l with
  | nil => cases h
  | cons a l ih =>
    cases a with
    | none => rfl
    | some a => simp [List.mapM_cons, ih (by simpa using h)]

theorem speedOk_iff (k : Nat) (f : Nat → Nat) :
    speedOk ((List.range k).map f) = true ↔ ∀ c, c + 1 < k → f c ≤ 2 * f (c + 1) ∧ f (c + 1) ≤ 2 * f c := by
  induction k generalizing f with
  | zero => exact ⟨fun _ c hc => absurd hc (Nat.not_lt_zero _), fun _ => rfl⟩
  | succ k ih =>
    cases k with
    | zero => exact ⟨fun _ c hc => absurd hc (by omega), fun _ => rfl⟩
    | succ k =>
      have hlist : (List.range (k + 2)).map f = f 0 :: (List.range (k + 1)).map (f ∘ Nat.succ) := by
        rw [List.range_succ_eq_map, List.map_cons, List.map_map]
      have htail : (List.range (k + 1)).map (f ∘ Nat.succ) = f 1 :: (List.range k).map ((f ∘ Nat.succ) ∘ Nat.succ) := by
        rw [List.range_succ_eq_map, List.map_cons, List.map_map]
        rfl
      have hspeed : speedOk ((List.range (k + 2)).map f)
          = (decide (2 * f 1 ≥ f 0) && decide (f 1 ≤ 2 * f 0) && speedOk ((List.range (k + 1)).map (f ∘ Nat.succ))) := by
        rw [hlist, htail]
        rfl
      rw [hspeed, Bool.and_eq_true, Bool.and_eq_true, decide_eq_true_iff, decide_eq_true_iff, ih]
      refine ⟨fun ⟨h0, hrest⟩ c hc => ?_, fun h => ⟨h 0 (by omega), fun c hc => h (c + 1) (by omega)⟩⟩
      cases c with
      | zero => exact h0
      | succ c => exact hrest c (by omega)

theorem classifyAll_character {k : Nat} {vs : List Nat} (hlen : k ≠ 0 → vs.length + 1 = 8 * k) {c : Nat} (hc : c < k)
    (h : ¬ ∃ x, widePair (sweepWidth vs c) x) : classifyAll k vs = .error .character := by
  have hnone : classify (sweepChar vs c) = none := by
    cases hcl : classify (sweepChar vs c) with
    | none => rfl
    | some ch => exact absurd (widePair_of_classify hcl) h
  rw [classifyAll, charWidths_eq hlen, List.map_map, mapM_id_none]
  exact List.mem_map.2 ⟨c, List.mem_range.2 hc, hnone⟩

/-- With every character read, stage 3 decides (R15). -/
theorem classifyAll_read {k : Nat} {vs : List Nat} (hlen : k ≠ 0 → vs.length + 1 = 8 * k) {place : Nat → Nat}
    (h : ∀ c, c < k → widePair (sweepWidth vs c) (place c)) :
    classifyAll k vs
      = if speedOk ((List.range k).map fun c => (sweepChar vs c).sum) = true then
          .ok ((List.range k).map fun c => labelChar (place c))
        else .error .speed := by
  have hread : (List.range k).map (classify ∘ sweepChar vs) = ((List.range k).map fun c => labelChar (place c)).map some := by
    rw [List.map_map]
    exact List.map_congr_left fun c hc => classify_of_widePair (h c (List.mem_range.1 hc))
  rw [classifyAll, charWidths_eq hlen, List.map_map, hread, mapM_id_some, List.map_map]
  rfl

end Sys2Proof.Machine
end

section
/-! PROOF. The layout of a label (R16 to R18), the decode of every sweep by its widths, and of a printed label. -/

namespace Sys2Proof.Machine

/-! ## Stages 5 and 6 -/

/-- The kind a start character gives in a sweep of `k` characters (R16). -/
def layoutKind (k : Nat) (c : LabelChar) : Option LabelKind :=
  if c = .startItem ∧ k = 13 then some .item else if c = .startBorrower ∧ k = 11 then some .borrower else none

theorem layoutKind_some {k : Nat} {c : LabelChar} {kind : LabelKind} (h : layoutKind k c = some kind) :
    (k = 13 ∧ c = .startItem) ∨ (k = 11 ∧ c = .startBorrower) := by
  unfold layoutKind at h
  split at h
  · next hc => exact .inl ⟨hc.2, hc.1⟩
  · split at h
    · next hc => exact .inr ⟨hc.2, hc.1⟩
    · contradiction

theorem layoutKind_eq {k : Nat} {c : LabelChar} (h : (k = 13 ∧ c = .startItem) ∨ (k = 11 ∧ c = .startBorrower)) :
    layoutKind k c = some (if k = 13 then .item else .borrower) := by
  rcases h with ⟨rfl, rfl⟩ | ⟨rfl, rfl⟩ <;> rfl

/-- The label of its fields, where each could be read (R17, R18). -/
def readFields (dir : Direction) : Option LabelKind → Option (List Nat) → Option Nat → Except Misread Label
  | some kind, some ds, some v =>
    if v ≠ checkValue ds ∨ decimal ds = 0 then .error .check
    else .ok { kind := kind, number := decimal ds, direction := dir, tag := .wand }
  | _, _, _ => .error .format

theorem readFields_format {dir : Direction} {kind : Option LabelKind} {ds : Option (List Nat)} {v : Option Nat}
    (h : ¬ (kind.isSome ∧ ds.isSome ∧ v.isSome)) : readFields dir kind ds v = .error .format := by
  match kind, ds, v with
  | some _, some _, some _ => exact absurd ⟨rfl, rfl, rfl⟩ h
  | none, _, _ | some _, none, _ | some _, some _, none => rfl

/-- The layout of a list of characters: first, data, check position, last. -/
theorem readLayout_parts (dir : Direction) (first : LabelChar) (data : List LabelChar) (check last : LabelChar) :
    readLayout (data.length + 3) dir (first :: (data ++ [check, last]))
      = if last = .stop then
          readFields dir (layoutKind (data.length + 3) first) (data.mapM dataDigit) (checkDigit check)
        else .error .format := by
  have hlast : (first :: (data ++ [check, last])).getLast? = some last := by
    rw [show first :: (data ++ [check, last]) = (first :: (data ++ [check])) ++ [last] by simp]
    exact List.getLast?_concat ..
  have hdata : ((first :: (data ++ [check, last])).drop 1).take (data.length + 3 - 3) = data := by simp
  have hcheck : (first :: (data ++ [check, last]))[data.length + 3 - 2]? = some check := by
    rw [show data.length + 3 - 2 = data.length + 1 by omega, List.getElem?_cons_succ]
    simp
  by_cases h : last = .stop
  · subst h
    simp only [readLayout, List.head?_cons, hlast, hdata, hcheck, Option.bind_some, if_true, layoutKind]
    rfl
  · simp only [readLayout, List.head?_cons, hlast, if_neg h]
    split
    · next _ _ h1 => exact absurd (Option.some.inj h1) (by simpa using h)
    · rfl

/-- A label laid out as R16 and R17 say is a CHECK misread or a label (R18). -/
theorem readLayout_laid {dir : Direction} {first check : LabelChar} {ds : List Nat} {k v : Nat} (hk : k = ds.length + 3)
    (hfirst : (k = 13 ∧ first = .startItem) ∨ (k = 11 ∧ first = .startBorrower)) (hcheck : checkDigit check = some v) :
    readLayout k dir (first :: (ds.map .digit ++ [check, .stop]))
      = if v ≠ checkValue ds ∨ decimal ds = 0 then .error .check
        else .ok { kind := if k = 13 then .item else .borrower, number := decimal ds, direction := dir, tag := .wand } := by
  have hdigits : (ds.map LabelChar.digit).mapM dataDigit = some ds := by
    rw [← mapM_id_some ds, List.mapM_map, List.mapM_map]
    rfl
  have hparts := readLayout_parts dir first (ds.map .digit) check .stop
  rw [List.length_map, ← hk, if_pos rfl, layoutKind_eq hfirst, hdigits, hcheck] at hparts
  exact hparts

/-- Anything else is a FORMAT misread: no start of this length, a data character that is no digit, no check digit, or no stop. -/
theorem readLayout_format {dir : Direction} {first check last : LabelChar} {data : List LabelChar}
    (h : ¬ (last = .stop ∧ (layoutKind (data.length + 3) first).isSome ∧ (data.mapM dataDigit).isSome ∧
      (checkDigit check).isSome)) :
    readLayout (data.length + 3) dir (first :: (data ++ [check, last])) = .error .format := by
  rw [readLayout_parts]
  split
  · next hlast => exact readFields_format fun hsome => h ⟨hlast, hsome⟩
  · rfl

theorem mapM_dataDigit_some {data : List LabelChar} (h : (data.mapM dataDigit).isSome = true) :
    ∀ m ∈ data, ∃ d, m = .digit d := by
  induction data with
  | nil => simp
  | cons m data ih =>
    cases m with
    | digit d =>
      have hrest : (data.mapM dataDigit).isSome = true := by
        cases hd : data.mapM dataDigit with
        | none => simp [List.mapM_cons, dataDigit, hd] at h
        | some ds => rfl
      intro m hm
      rcases List.mem_cons.1 hm with rfl | hm
      · exact ⟨d, rfl⟩
      · exact ih hrest m hm
    | _ => simp [List.mapM_cons, dataDigit] at h

/-- The characters of a sweep, in their parts. -/
theorem range_map_parts {α : Type} (n : Nat) (f : Nat → α) :
    (List.range (n + 3)).map f = f 0 :: ((List.range n).map (fun c => f (c + 1)) ++ [f (n + 1), f (n + 2)]) := by
  rw [List.range_succ_eq_map, List.map_cons, List.map_map, List.range_succ, List.range_succ]
  simp

theorem labelChar_digit {x : Nat} (h : x ≤ 9) : labelChar x = .digit x := if_pos h

theorem le_of_labelChar_digit {x d : Nat} (h : labelChar x = .digit d) : x ≤ 9 := by
  by_contra hx
  simp only [labelChar, if_neg hx] at h
  repeat' split at h
  all_goals contradiction

theorem checkDigit_labelChar {x : Nat} (h : x ≤ 10) : checkDigit (labelChar x) = some x := by
  rcases Nat.lt_or_eq_of_le h with h | rfl
  · rw [labelChar_digit (by omega)]
    rfl
  · rfl

theorem le_of_checkDigit {x : Nat} (h : (checkDigit (labelChar x)).isSome = true) : x ≤ 10 := by
  by_contra hx
  have h9 : ¬ x ≤ 9 := by omega
  have h10 : x ≠ 10 := by omega
  simp only [labelChar, if_neg h9, if_neg h10] at h
  repeat' split at h
  all_goals simp [checkDigit] at h

theorem weightedSum_eq (w : Nat) (ds : List Nat) :
    weightedSum w ds = ((List.range ds.length).map fun i => (i + w) * ds.getD i 0).sum := by
  induction ds generalizing w with
  | nil => rfl
  | cons d ds ih =>
    rw [weightedSum, ih, List.length_cons, List.range_succ_eq_map, List.map_cons, List.map_map, List.sum_cons]
    simp [Function.comp_def, Nat.add_assoc, Nat.add_comm 1]

/-! ## The decode of a sweep, by its widths -/

/-- The sweep begins with a start character (R16). -/
def sweepStarts (vs : List Nat) : Prop := widePair (sweepWidth vs 0) 11 ∨ widePair (sweepWidth vs 0) 12

theorem isStart_classify (f : Nat → Nat) :
    isStart (classify ((List.range 7).map fun q => f (q + 1))) = true ↔ widePair f 11 ∨ widePair f 12 := by
  rw [← classify_eq_labelChar (by decide), ← classify_eq_labelChar (by decide)]
  generalize classify ((List.range 7).map fun q => f (q + 1)) = o
  match o with
  | none => simp [isStart]
  | some c => cases c <;> simp [isStart, labelChar]

theorem isStart_first {k : Nat} {ws : List Nat} (hk : k ≠ 0) (hlen : ws.length + 1 = 8 * k) :
    isStart ((charWidths k ws).head?.bind classify) = true ↔ sweepStarts ws := by
  obtain ⟨k, rfl⟩ := Nat.exists_eq_succ_of_ne_zero hk
  rw [charWidths_eq fun _ => hlen, List.range_succ_eq_map, List.map_cons, List.head?_cons, Option.bind_some]
  exact isStart_classify _

theorem decodeSweep_length {ws : List Nat} {k : Nat} (hk : k = 13 ∨ k = 11) (hlen : ws.length + 1 = 8 * k) :
    decodeSweep ws = decodeCharacters k ws := by
  rcases hk with rfl | rfl
  · have h : ws.length = 103 := by omega
    simp [decodeSweep, h, charCount]
  · have h : ws.length = 87 := by omega
    simp [decodeSweep, h, charCount]

/-- The order of the widths that R16 chooses. -/
theorem decodeSweep_chosen {ws vs : List Nat} {k : Nat} {dir : Direction} (hk : k = 13 ∨ k = 11)
    (hlen : ws.length + 1 = 8 * k)
    (h : (sweepStarts ws ∧ vs = ws ∧ dir = .forward) ∨ (¬ sweepStarts ws ∧ vs = ws.reverse ∧ dir = .reversed)) :
    decodeSweep ws = (classifyAll k vs).bind (readLayout k dir) := by
  have hstart := isStart_first (by omega) hlen
  rw [decodeSweep_length hk hlen]
  rcases h with ⟨hs, rfl, rfl⟩ | ⟨hs, rfl, rfl⟩
  · rw [← hstart] at hs
    simp only [decodeCharacters, hs, if_true]
    cases classifyAll k vs <;> rfl
  · rw [← hstart, Bool.not_eq_true] at hs
    simp only [decodeCharacters, hs, Bool.false_eq_true, if_false]
    cases classifyAll k ws.reverse <;> rfl

/-- Every character reads (R14). -/
def sweepAssigned (vs : List Nat) (k : Nat) : Prop := ∀ c, c < k → ∃ x, widePair (sweepWidth vs c) x

/-- No character is more than twice as wide as its neighbour (R15). -/
def sweepEven (vs : List Nat) (k : Nat) : Prop :=
  ∀ c, c + 1 < k → (sweepChar vs c).sum ≤ 2 * (sweepChar vs (c + 1)).sum ∧ (sweepChar vs (c + 1)).sum ≤ 2 * (sweepChar vs c).sum

/-- The layout of a label (R16, R17). -/
def sweepLaid (vs : List Nat) (k : Nat) : Prop :=
  ((k = 13 ∧ widePair (sweepWidth vs 0) 11) ∨ (k = 11 ∧ widePair (sweepWidth vs 0) 12)) ∧
    widePair (sweepWidth vs (k - 1)) 13 ∧
    (∀ c, 1 ≤ c → c ≤ k - 3 → ∃ x, x ≤ 9 ∧ widePair (sweepWidth vs c) x) ∧ ∃ x, x ≤ 10 ∧ widePair (sweepWidth vs (k - 2)) x

theorem sweepAssigned.places {vs : List Nat} {k : Nat} (h : sweepAssigned vs k) :
    ∃ place : Nat → Nat, ∀ c, c < k → widePair (sweepWidth vs c) (place c) := by
  choose! place hplace using h
  exact ⟨place, hplace⟩

/-- The characters of a sweep whose place among the pairs is known, as the decode goes on with them. -/
theorem classifyAll_parts {k : Nat} {vs : List Nat} (h3 : 3 ≤ k) (hlen : vs.length + 1 = 8 * k) {place : Nat → Nat}
    (h : ∀ c, c < k → widePair (sweepWidth vs c) (place c)) (heven : sweepEven vs k) :
    classifyAll k vs
      = .ok (labelChar (place 0) :: ((List.range (k - 3)).map (fun c => labelChar (place (c + 1)))
          ++ [labelChar (place (k - 2)), labelChar (place (k - 1))])) := by
  have hparts := range_map_parts (k - 3) fun c => labelChar (place c)
  rw [show k - 3 + 3 = k by omega, show k - 3 + 2 = k - 1 by omega, show k - 3 + 1 = k - 2 by omega] at hparts
  rw [classifyAll_read (fun _ => hlen) h, if_pos ((speedOk_iff _ _).2 heven), hparts]

theorem classifyAll_speed {k : Nat} {vs : List Nat} (hlen : vs.length + 1 = 8 * k) (h : sweepAssigned vs k)
    (heven : ¬ sweepEven vs k) : classifyAll k vs = .error .speed := by
  obtain ⟨place, hplace⟩ := h.places
  rw [classifyAll_read (fun _ => hlen) hplace, if_neg fun hs => heven ((speedOk_iff _ _).1 hs)]

/-- Characters that are not laid out as a label (R16, R17). -/
theorem readLayout_not_laid {k : Nat} {vs : List Nat} (dir : Direction) (h3 : 3 ≤ k) {place : Nat → Nat}
    (h : ∀ c, c < k → widePair (sweepWidth vs c) (place c)) (hlaid : ¬ sweepLaid vs k) :
    readLayout k dir (labelChar (place 0) :: ((List.range (k - 3)).map (fun c => labelChar (place (c + 1)))
      ++ [labelChar (place (k - 2)), labelChar (place (k - 1))])) = .error .format := by
  have hlen : ((List.range (k - 3)).map fun c => labelChar (place (c + 1))).length + 3 = k := by
    rw [List.length_map, List.length_range]; omega
  have hread (c x : Nat) (hc : c < k) (hx : x < 14) (heq : labelChar (place c) = labelChar x) :
      widePair (sweepWidth vs c) x := labelChar_injective (h c hc).1 hx heq ▸ h c hc
  have hformat := readLayout_format (dir := dir) (first := labelChar (place 0)) (check := labelChar (place (k - 2)))
    (last := labelChar (place (k - 1))) (data := (List.range (k - 3)).map fun c => labelChar (place (c + 1)))
  rw [hlen] at hformat
  refine hformat fun ⟨hstop, hkind, hdigits, hvalue⟩ => hlaid ⟨?_, hread _ 13 (by omega) (by decide) hstop,
    fun c h1 h2 => ?_, place (k - 2), le_of_checkDigit hvalue, h _ (by omega)⟩
  · obtain ⟨kind, hkind⟩ := Option.isSome_iff_exists.1 hkind
    exact (layoutKind_some hkind).imp (fun ⟨hk, hc⟩ => ⟨hk, hread 0 11 (by omega) (by decide) hc⟩)
      fun ⟨hk, hc⟩ => ⟨hk, hread 0 12 (by omega) (by decide) hc⟩
  · obtain ⟨d, hd⟩ := mapM_dataDigit_some hdigits (labelChar (place c))
      (List.mem_map.2 ⟨c - 1, List.mem_range.2 (by omega), by rw [Nat.sub_add_cancel h1]⟩)
    exact ⟨place c, le_of_labelChar_digit hd, h c (by omega)⟩

/-- Characters laid out as a label, with the data digits `ds` and the check value `v` (R18). -/
theorem readLayout_of_laid {k v : Nat} {vs ds : List Nat} (dir : Direction) (h3 : 3 ≤ k) {place : Nat → Nat}
    (h : ∀ c, c < k → widePair (sweepWidth vs c) (place c)) (hlaid : sweepLaid vs k) (hds : ds.length = k - 3)
    (hdata : ∀ c, c < k - 3 → widePair (sweepWidth vs (c + 1)) (ds.getD c 0))
    (hcheck : widePair (sweepWidth vs (k - 2)) v) :
    readLayout k dir (labelChar (place 0) :: ((List.range (k - 3)).map (fun c => labelChar (place (c + 1)))
        ++ [labelChar (place (k - 2)), labelChar (place (k - 1))]))
      = if v ≠ checkValue ds ∨ decimal ds = 0 then .error .check
        else .ok { kind := if k = 13 then .item else .borrower, number := decimal ds, direction := dir, tag := .wand } := by
  obtain ⟨hstart, hstop, hdigits, x, hx, hreadx⟩ := hlaid
  have hsame (c x : Nat) (hc : c < k) (hr : widePair (sweepWidth vs c) x) : place c = x := widePair_unique (h c hc) hr
  have hv : v ≤ 10 := widePair_unique hreadx hcheck ▸ hx
  have hmap : (List.range (k - 3)).map (fun c => labelChar (place (c + 1))) = ds.map .digit := by
    refine List.ext_getElem (by simp [hds]) fun i h1 h2 => ?_
    have hi : i < k - 3 := by simpa using h1
    obtain ⟨y, hy, hready⟩ := hdigits (i + 1) (by omega) (by omega)
    have hget : ds[i]'(by omega) = y := by
      rw [← List.getD_eq_getElem ds 0]
      exact widePair_unique (hdata i hi) hready
    rw [List.getElem_map, List.getElem_map, List.getElem_range, hsame _ y (by omega) hready, hget, labelChar_digit hy]
  have hfirst : (k = 13 ∧ labelChar (place 0) = .startItem) ∨ (k = 11 ∧ labelChar (place 0) = .startBorrower) :=
    hstart.imp (fun ⟨hk, hc⟩ => ⟨hk, by rw [hsame 0 11 (by omega) hc]; rfl⟩)
      fun ⟨hk, hc⟩ => ⟨hk, by rw [hsame 0 12 (by omega) hc]; rfl⟩
  rw [hmap, hsame (k - 1) 13 (by omega) hstop, hsame (k - 2) v (by omega) hcheck]
  exact readLayout_laid (by omega) hfirst (checkDigit_labelChar hv)

/-! ## Printed labels -/

/-- A character the symbology has. -/
def LabelChar.assigned (c : LabelChar) : Prop := ∃ x, x < 14 ∧ labelChar x = c

theorem labelChar_wide {x : Nat} (h : x < 14) : (labelChar x).wide = labelPairs.getD x (0, 0) := by
  interval_cases x <;> rfl

/-- The width of element `q` of a printed character. -/
def LabelChar.printed (u : Nat) (c : LabelChar) (q : Nat) : Nat := if q = c.wide.1 ∨ q = c.wide.2 then 2 * u else u

theorem LabelChar.elements_eq (u : Nat) (c : LabelChar) :
    c.elements u = (List.range 7).map fun q => c.printed u (q + 1) := rfl

theorem LabelChar.elements_length (u : Nat) (c : LabelChar) : (c.elements u).length = 7 := rfl

/-- Two wide elements and five narrow ones. -/
theorem LabelChar.elements_sum {c : LabelChar} (u : Nat) (h : c.assigned) : (c.elements u).sum = 9 * u := by
  obtain ⟨x, hx, rfl⟩ := h
  interval_cases x <;> simp [LabelChar.elements, labelChar, LabelChar.wide] <;> omega

theorem LabelChar.classify_elements {c : LabelChar} {u : Nat} (h : c.assigned) (hu : 1 ≤ u) :
    classify (c.elements u) = some c := by
  have hsum := c.elements_sum u h
  obtain ⟨x, hx, rfl⟩ := h
  rw [LabelChar.elements_eq] at hsum ⊢
  refine classify_of_widePair ⟨hx, fun q _ _ => ?_⟩
  rw [hsum, ← labelChar_wide hx, LabelChar.printed]
  split
  · next h => exact ⟨fun _ => h, fun _ => by omega⟩
  · next h => exact ⟨fun hlt => absurd hlt (by omega), fun hq => absurd hq h⟩

/-- A printed label, cut into its characters (R11). -/
theorem charWidths_print (u : Nat) (cs : List LabelChar) (gaps : List Nat) :
    charWidths cs.length (printCharacters u cs gaps) = cs.map fun c => c.elements u := by
  induction cs generalizing gaps with
  | nil => rfl
  | cons c cs ih =>
    cases cs with
    | nil => rfl
    | cons d cs =>
      have hcons : printCharacters u (c :: d :: cs) gaps
          = c.elements u ++ ([gaps.headD 0] ++ printCharacters u (d :: cs) gaps.tail) := rfl
      have hdrop : (printCharacters u (c :: d :: cs) gaps).drop 8 = printCharacters u (d :: cs) gaps.tail := by
        rw [hcons, ← List.append_assoc]
        exact List.drop_left' rfl
      have htake : (printCharacters u (c :: d :: cs) gaps).take 7 = c.elements u := by
        rw [hcons]
        exact List.take_left' rfl
      rw [List.length_cons, charWidths, htake, hdrop]
      exact congrArg _ (ih gaps.tail)

theorem printCharacters_length (u : Nat) {cs : List LabelChar} (gaps : List Nat) (h : cs ≠ []) :
    (printCharacters u cs gaps).length + 1 = 8 * cs.length := by
  induction cs generalizing gaps with
  | nil => exact absurd rfl h
  | cons c cs ih =>
    cases cs with
    | nil => rfl
    | cons d cs =>
      have := ih gaps.tail (List.cons_ne_nil _ _)
      simp only [printCharacters, List.length_append, List.length_cons, LabelChar.elements_length] at this ⊢
      omega

/-- A printed label ends with its last character. -/
theorem printCharacters_last (u : Nat) (cs : List LabelChar) (c : LabelChar) (gaps : List Nat) :
    ∃ ws, printCharacters u (cs ++ [c]) gaps = ws ++ c.elements u := by
  induction cs generalizing gaps with
  | nil => exact ⟨[], rfl⟩
  | cons d cs ih =>
    obtain ⟨ws, hws⟩ := ih gaps.tail
    refine ⟨d.elements u ++ gaps.headD 0 :: ws, ?_⟩
    have hcons : printCharacters u (d :: cs ++ [c]) gaps
        = d.elements u ++ gaps.headD 0 :: printCharacters u (cs ++ [c]) gaps.tail := by
      cases cs <;> rfl
    rw [hcons, hws, List.append_assoc, List.cons_append]

theorem speedOk_const (n t : Nat) : speedOk (List.replicate n t) = true := by
  have h := (speedOk_iff n fun _ => t).2 fun _ _ => ⟨by omega, by omega⟩
  rwa [List.map_const', List.length_range] at h

/-- Stages 2 and 3 on a printed label. -/
theorem classifyAll_print {u : Nat} {cs : List LabelChar} (gaps : List Nat) (h : ∀ c ∈ cs, c.assigned) (hu : 1 ≤ u) :
    classifyAll cs.length (printCharacters u cs gaps) = .ok cs := by
  have hread : cs.map (classify ∘ fun c => c.elements u) = cs.map some :=
    List.map_congr_left fun c hc => LabelChar.classify_elements (h c hc) hu
  have hsums : cs.map (List.sum ∘ fun c => c.elements u) = List.replicate cs.length (9 * u) := by
    rw [← List.map_const']
    exact List.map_congr_left fun c hc => LabelChar.elements_sum u (h c hc)
  rw [classifyAll, charWidths_print, List.map_map, List.map_map, hread, hsums, mapM_id_some, speedOk_const]
  rfl

/-- The last character of a label, read from its end, starts nothing. -/
theorem not_isStart_reversed_stop {u : Nat} (hu : 1 ≤ u) : isStart (classify (LabelChar.stop.elements u).reverse) = false := by
  have hwide : classify (LabelChar.stop.elements u).reverse = none := by
    have h1 : 9 * u < 6 * (2 * u) := by omega
    have h2 : ¬ 9 * u < 6 * u := by omega
    have hsum : (LabelChar.stop.elements u).reverse.sum = 9 * u := by
      rw [List.sum_reverse]
      exact LabelChar.elements_sum u ⟨13, by decide, rfl⟩
    have hlist : (LabelChar.stop.elements u).reverse = [u, u, u, u, 2 * u, 2 * u, u] := by
      simp [LabelChar.elements, LabelChar.wide]
    rw [classify_eq, hsum, hlist]
    simp [widePositions, h1, h2, charOfWide, charOfPair]
  rw [hwide]
  rfl

/-- A sweep of printed characters decodes in either direction to their layout (R16). -/
theorem decodeSweep_print {u : Nat} {c : LabelChar} {cs : List LabelChar} (gaps : List Nat)
    (hk : cs.length + 2 = 13 ∨ cs.length + 2 = 11) (hc : c = .startItem ∨ c = .startBorrower)
    (h : ∀ d ∈ cs, d.assigned) (hu : 1 ≤ u) :
    let all := c :: (cs ++ [.stop])
    decodeSweep (printCharacters u all gaps) = readLayout (cs.length + 2) .forward all ∧
      decodeSweep (printCharacters u all gaps).reverse = readLayout (cs.length + 2) .reversed all := by
  intro all
  have hlen : all.length = cs.length + 2 := by simp [all]
  have hwidths := printCharacters_length u gaps (List.cons_ne_nil c (cs ++ [.stop]))
  have hassigned : ∀ d ∈ all, d.assigned := by
    intro d hd
    rcases List.mem_cons.1 hd with rfl | hd
    · rcases hc with rfl | rfl
      · exact ⟨11, by decide, rfl⟩
      · exact ⟨12, by decide, rfl⟩
    · rcases List.mem_append.1 hd with hd | hd
      · exact h d hd
      · exact ⟨13, by decide, (List.mem_singleton.1 hd).symm⟩
  have hclassify := classifyAll_print gaps hassigned hu
  rw [hlen] at hclassify hwidths
  have hstart : sweepStarts (printCharacters u all gaps) := by
    rw [← isStart_first (by omega) hwidths, ← hlen, charWidths_print, List.map_cons, List.head?_cons, Option.bind_some,
      LabelChar.classify_elements (hassigned c (List.mem_cons_self ..)) hu]
    rcases hc with rfl | rfl <;> rfl
  have hback : ¬ sweepStarts (printCharacters u all gaps).reverse := by
    obtain ⟨ws, hws⟩ := printCharacters_last u (c :: cs) .stop gaps
    rw [← isStart_first (k := cs.length + 2) (by omega) (by rw [List.length_reverse]; exact hwidths), Bool.not_eq_true]
    show isStart (classify ((printCharacters u ((c :: cs) ++ [.stop]) gaps).reverse.take 7)) = false
    rw [hws, List.reverse_append, List.take_left' (by rw [List.length_reverse]; rfl)]
    exact not_isStart_reversed_stop hu
  constructor
  · rw [decodeSweep_chosen hk hwidths (.inl ⟨hstart, rfl, rfl⟩), hclassify]
    rfl
  · rw [decodeSweep_chosen hk (by rw [List.length_reverse]; exact hwidths) (.inr ⟨hback, rfl, rfl⟩), List.reverse_reverse,
      hclassify]
    rfl

theorem decimal_append (ds : List Nat) (d : Nat) : decimal (ds ++ [d]) = 10 * decimal ds + d := by
  simp [decimal]

/-- The decimal digits read back as the number (R11). -/
theorem decimal_decimalDigits (number n : Nat) : decimal (decimalDigits number n) = number % 10 ^ n := by
  induction n generalizing number with
  | zero => simp [decimalDigits, decimal, Nat.mod_one]
  | succ n ih =>
    rw [decimalDigits, decimal_append, ih, Nat.pow_succ', Nat.mod_mul]
    omega

theorem decimalDigits_length (number n : Nat) : (decimalDigits number n).length = n := by
  induction n generalizing number with
  | zero => rfl
  | succ n ih => simp [decimalDigits, ih]

theorem decimalDigits_le {number n d : Nat} (h : d ∈ decimalDigits number n) : d ≤ 9 := by
  induction n generalizing number with
  | zero => cases h
  | succ n ih =>
    rcases List.mem_append.1 h with h | h
    · exact ih h
    · have := List.mem_singleton.1 h
      omega

theorem checkValue_le (ds : List Nat) : checkValue ds ≤ 10 := Nat.le_of_lt_succ (Nat.mod_lt _ (by decide))

theorem checkChar_eq {v : Nat} (h : v ≤ 10) : checkChar v = labelChar v := by
  interval_cases v <;> rfl

/-- The layout of a printed label of `n` digits (R11, R17, R18). -/
theorem decodeSweep_printed_digits {first : LabelChar} {number n u : Nat} (gaps : List Nat)
    (hfirst : (n + 3 = 13 ∧ first = .startItem) ∨ (n + 3 = 11 ∧ first = .startBorrower)) (h1 : 1 ≤ number)
    (hn : number < 10 ^ n) (hu : 1 ≤ u) :
    let ds := decimalDigits number n
    let ws := printCharacters u (first :: ds.map .digit ++ [checkChar (checkValue ds), .stop]) gaps
    let kind : LabelKind := if n + 3 = 13 then .item else .borrower
    decodeSweep ws = .ok { kind := kind, number := number, direction := .forward, tag := .wand } ∧
      decodeSweep ws.reverse = .ok { kind := kind, number := number, direction := .reversed, tag := .wand } := by
  intro ds ws kind
  have hlen : ds.length = n := decimalDigits_length number n
  have hdecimal : decimal ds = number := (decimal_decimalDigits number n).trans (Nat.mod_eq_of_lt hn)
  have hcheck : checkChar (checkValue ds) = labelChar (checkValue ds) := checkChar_eq (checkValue_le ds)
  have hassigned : ∀ d ∈ ds.map LabelChar.digit ++ [checkChar (checkValue ds)], d.assigned := by
    intro d hd
    rcases List.mem_append.1 hd with hd | hd
    · obtain ⟨x, hx, rfl⟩ := List.mem_map.1 hd
      have hx9 := decimalDigits_le hx
      exact ⟨x, by omega, labelChar_digit hx9⟩
    · exact ⟨checkValue ds, Nat.lt_of_le_of_lt (checkValue_le ds) (by decide),
        hcheck.symm.trans (List.mem_singleton.1 hd).symm⟩
  have hlayout (dir : Direction) := readLayout_laid (dir := dir) (ds := ds) (v := checkValue ds) (by rw [hlen]) hfirst
    (check := checkChar (checkValue ds)) (by rw [hcheck]; exact checkDigit_labelChar (checkValue_le ds))
  have hok : ¬ (checkValue ds ≠ checkValue ds ∨ decimal ds = 0) := by
    rw [hdecimal]
    omega
  have hparts : (ds.map LabelChar.digit ++ [checkChar (checkValue ds)]).length + 2 = n + 3 := by
    simp [hlen]
  have hprint := decodeSweep_print (u := u) gaps (by rw [hparts]; exact hfirst.imp And.left And.left)
    (hfirst.imp And.right And.right) hassigned hu
  rw [hparts, List.append_assoc] at hprint
  have hlabel (dir : Direction) := (hlayout dir).trans (if_neg hok)
  rw [hdecimal] at hlabel
  exact ⟨hprint.1.trans (hlabel _), hprint.2.trans (hlabel _)⟩

/-- Settles O1. -/
theorem printedLabelDecodes : Obligations.PrintedLabelDecodes := by
  refine ⟨fun kind number u gaps hrange hu => ?_, fun ws => ?_⟩
  · cases kind with
    | item =>
      obtain ⟨h1, hn⟩ := Bool.and_eq_true_iff.1 hrange
      exact decodeSweep_printed_digits gaps (.inl ⟨rfl, rfl⟩) (of_decide_eq_true h1)
        (Nat.lt_succ_of_le (of_decide_eq_true hn)) hu
    | borrower =>
      obtain ⟨h1, hn⟩ := Bool.and_eq_true_iff.1 hrange
      exact decodeSweep_printed_digits gaps (.inr ⟨rfl, rfl⟩) (of_decide_eq_true h1)
        (Nat.lt_succ_of_le (of_decide_eq_true hn)) hu
  · intro pairs width sum reads starts
    refine ⟨fun h103 h87 => by simp [decodeSweep, charCount, h103, h87], fun k vs dir hk hlen h => ?_⟩
    intro assigned even laid
    have hvs : vs.length + 1 = 8 * k := by
      rcases h with ⟨-, rfl, -⟩ | ⟨-, rfl, -⟩
      · exact hlen
      · rw [List.length_reverse]; exact hlen
    have h3 : 3 ≤ k := by omega
    have hchosen : decodeSweep ws = (classifyAll k vs).bind (readLayout k dir) := decodeSweep_chosen hk hlen h
    refine ⟨fun ha => ?_, fun ha he => ?_, fun ha he hl => ?_, fun ds v ha he hl hds hdata hcheck => ?_⟩
    · obtain ⟨c, hc, hx⟩ : ∃ c, c < k ∧ ¬ ∃ x, widePair (sweepWidth vs c) x := by
        by_contra hall
        exact ha fun c hc => by_contra fun hx => hall ⟨c, hc, hx⟩
      rw [hchosen, classifyAll_character (fun _ => hvs) hc hx]
      rfl
    · rw [hchosen, classifyAll_speed hvs ha he]
      rfl
    · obtain ⟨place, hplace⟩ := sweepAssigned.places ha
      rw [hchosen, classifyAll_parts h3 hvs hplace he]
      exact readLayout_not_laid dir h3 hplace hl
    · intro weighted number
      obtain ⟨place, hplace⟩ := sweepAssigned.places ha
      have hvalue : checkValue ds = (11 - weighted % 11) % 11 := by
        rw [checkValue, weightedSum_eq, hds]
      have hdecode := hchosen.trans (congrArg (Except.bind · (readLayout k dir)) (classifyAll_parts h3 hvs hplace he))
      have hlabel := hdecode.trans (readLayout_of_laid dir h3 hplace hl hds hdata hcheck)
      rw [hvalue] at hlabel
      exact ⟨fun hbad => hlabel.trans (if_pos hbad), fun hv hnumber => hlabel.trans (if_neg (by tauto))⟩

end Sys2Proof.Machine
end

section
/-! PROOF. The tone generator (R39, R40): what it latches at a boundary and at the start of a pattern. -/

namespace Sys2Proof.Machine

theorem ToneGen.boundary_stops {g : ToneGen} (h : g.stopping = true) (steps : List ToneStep) : g.boundary steps = .silent :=
  if_pos h

theorem ToneGen.boundary_next {g : ToneGen} (h : g.stopping = false) {p : List ToneStep} (hp : g.next = some p)
    (steps : List ToneStep) : g.boundary steps = g.latch p := by
  simp [ToneGen.boundary, h, hp]

theorem ToneGen.boundary_goes_on {g : ToneGen} (h : g.stopping = false) (hn : g.next = none) (steps : List ToneStep) :
    g.boundary steps = g.latch steps := by
  simp [ToneGen.boundary, h, hn]

/-- What a sounding generator latches: a gap keeps the period, a tone has its own (R40). -/
theorem ToneGen.latch_sounding {g : ToneGen} {x : ToneOutput} (h : g.output = some x) (st : ToneStep) (rest : List ToneStep) :
    g.latch (st :: rest)
      = { output := some (if st.hz = 0 then { period := x.period, duty := 0 }
            else { period := tonePeriod st.hz, duty := tonePeriod st.hz / 2 })
          steps := st :: rest, next := none, stopping := false } := by
  rw [ToneGen.latch, h]
  rfl

/-- A tone that begins a pattern (R40). -/
theorem ToneGen.latch_tone (g : ToneGen) {hz : Nat} (h : hz ≠ 0) (ms : Nat) (rest : List ToneStep) :
    g.latch ({ hz := hz, ms := ms } :: rest)
      = { output := some
            { period := (2 * Config.sysclkHz + hz) / (2 * hz), duty := (2 * Config.sysclkHz + hz) / (2 * hz) / 2 }
          steps := { hz := hz, ms := ms } :: rest, next := none, stopping := false } := by
  rw [ToneGen.latch, ToneStep.output, if_neg h]
  rfl

theorem exec_toneStepEnd {s : State} {i : Fin 4} {x : ToneOutput} (h : (s.station i).tone.output = some x) :
    exec (.toneStepEnd i) s = .next (s.setStation i
      { s.station i with tone := (s.station i).tone.boundary (s.station i).tone.steps.tail }) := by
  simp only [exec, execToneStepEnd, h]

/-- A boundary inside a step matters only to a stop or a pattern that waits (R40). -/
theorem exec_tonePeriodEnd {s : State} {i : Fin 4} {x : ToneOutput} (h : (s.station i).tone.output = some x)
    (hw : (s.station i).tone.stopping = true ∨ (s.station i).tone.next.isSome = true) :
    exec (.tonePeriodEnd i) s = .next (s.setStation i { s.station i with tone := (s.station i).tone.boundary [] }) :=
  if_pos ⟨h ▸ rfl, hw⟩

theorem ToneGen.start_silent {g : ToneGen} (h : g.output = none) (p : TonePattern) : g.start p = g.latch p.steps := by
  simp only [ToneGen.start, h]

theorem ToneGen.start_sounding {g : ToneGen} (h : g.output ≠ none) (p : TonePattern) :
    g.start p = { g with next := some p.steps, stopping := false } := by
  obtain ⟨x, hx⟩ := Option.ne_none_iff_exists'.1 h
  simp only [ToneGen.start, hx]

/-- Settles O8. -/
theorem tonesRunByPeriods : Obligations.TonesRunByPeriods := by
  refine ⟨fun s i x => ?_, fun g => ?_⟩
  · intro t silent sounding hx
    refine ⟨fun hstop => ?_, fun st rest hstop hnext => ?_, fun a st rest hstop hnext hsteps => ?_,
      fun a hstop hnext hsteps => ?_⟩
    · rw [exec_toneStepEnd hx, exec_tonePeriodEnd hx (.inl hstop), ToneGen.boundary_stops hstop, ToneGen.boundary_stops hstop]
      exact ⟨rfl, rfl⟩
    · rw [exec_toneStepEnd hx, exec_tonePeriodEnd hx (.inr (hnext ▸ rfl)), ToneGen.boundary_next hstop hnext,
        ToneGen.boundary_next hstop hnext, ToneGen.latch_sounding hx]
      exact ⟨rfl, rfl⟩
    · rw [exec_toneStepEnd hx, ToneGen.boundary_goes_on hstop hnext, hsteps, List.tail_cons, ToneGen.latch_sounding hx]
      rfl
    · rw [exec_toneStepEnd hx, ToneGen.boundary_goes_on hstop hnext, hsteps]
      rfl
  · intro wave tone attention refuse
    refine ⟨fun h => ?_, fun h => ?_⟩
    · simp only [ToneGen.start_silent h]
      exact ⟨g.latch_tone (by decide) 120 _, g.latch_tone (by decide) 300 _, g.latch_tone (by decide) 100 _⟩
    · simp only [ToneGen.start_sounding h]
      exact ⟨rfl, rfl, rfl⟩

end Sys2Proof.Machine
end

section
/-! PROOF. Sessions close (R31, R32): the close that produces SESSION_CLOSED, and the idle deadline. -/

namespace Sys2Proof.Machine

/-! ## The close seen from another context of the station -/

theorem State.setStation_closePrints {s : State} {i : Fin 4} {u : Station} (hi : u.items = (s.station i).items) :
    (s.setStation i u).closePrints i ↔ s.closePrints i := by
  simp only [State.closePrints, State.setStation_station_self, State.setStation_settings, hi]

theorem State.setStation_closeSlip {s : State} {i : Fin 4} {u : Station} (hi : u.items = (s.station i).items) (n : Nat) :
    (s.setStation i u).closeSlip i n = s.closeSlip i n := by
  simp only [State.closeSlip, State.setStation_station_self, State.setStation_clock, hi]
  rfl

theorem sessionClosedOutcome_eq (borrower count : Nat) (lost : Bool) :
    sessionClosedOutcome borrower count lost = closedOutcome borrower count lost := rfl

/-- A close whose DUE_DATE slip is requested, with the outcome it produces (R31). -/
theorem State.closeWithOutcome_prints {s : State} {i : Fin 4} {u : Station} {se : Session} (hs : u.session = some se)
    (hi : u.items = (s.station i).items) (hp : s.closePrints i) (p : Producer) :
    (s.setStation i u).closeWithOutcome i p
      = (s.requestSlip (s.closeSlip i se.number)).setStation i
          (Station.offer { u with session := none, items := [] }
            (closedOutcome se.number u.items.length (decide (16 ≤ s.printer.queue.length))) p) := by
  have hclose := State.closeSession_prints (s.setStation i u) i se (by simpa using hs) ((State.setStation_closePrints hi).2 hp)
  simp only [State.closeWithOutcome, hclose, State.setStation_closeSlip hi, State.setStation_requestSlip,
    State.setStation_setStation, State.setStation_station_self, State.setStation_printer, hs, sessionClosedOutcome_eq]
  rfl

/-- A close without a slip, with the outcome it produces (R31). -/
theorem State.closeWithOutcome_silent {s : State} {i : Fin 4} {u : Station} {se : Session} (hs : u.session = some se)
    (hi : u.items = (s.station i).items) (hp : ¬ s.closePrints i) (p : Producer) :
    (s.setStation i u).closeWithOutcome i p
      = s.setStation i (Station.offer { u with session := none, items := [] } (closedOutcome se.number u.items.length false) p) := by
  have hclose := State.closeSession_silent (s.setStation i u) i se (by simpa using hs)
    fun h => hp ((State.setStation_closePrints hi).1 h)
  simp only [State.closeWithOutcome, hclose, State.setStation_setStation, State.setStation_station_self, hs,
    sessionClosedOutcome_eq]
  rfl

/-! ## The idle deadline (R32) -/

theorem exec_idleDeadlineExpire_keeps {s : State} {i : Fin 4} {d : Nat} (hd : (s.station i).deadline = some d)
    (h : (s.station i).slot ≠ none ∨ (s.station i).inFlight ≠ none ∨ (s.station i).session = none) :
    exec (.idleDeadlineExpire i) s = .next (s.setStation i { s.station i with deadline := none }) := by
  have hkeep : (s.station i).slot.isSome = true ∨ (s.station i).inFlight.isSome = true ∨ (s.station i).session.isNone = true := by
    simpa [Option.isSome_iff_ne_none] using h
  simp only [exec, execIdleDeadlineExpire, hd, Option.isNone_some, Bool.false_eq_true, if_false, if_pos hkeep]

theorem exec_idleDeadlineExpire_closes {s : State} {i : Fin 4} {d : Nat} {se : Session} (hd : (s.station i).deadline = some d)
    (hslot : (s.station i).slot = none) (hflight : (s.station i).inFlight = none) (hs : (s.station i).session = some se) :
    exec (.idleDeadlineExpire i) s
      = .next ((s.setStation i { s.station i with deadline := none }).closeWithOutcome i .idleClose) := by
  simp [exec, execIdleDeadlineExpire, hd, hslot, hflight, hs]

/-- Settles O5. -/
theorem idleDeadlineCloses : Obligations.IdleDeadlineCloses := by
  intro s i d t hd
  refine ⟨exec_idleDeadlineExpire_keeps hd, fun se hslot hflight hs => ?_⟩
  intro closed
  refine ⟨fun hp => ?_, fun hp => ?_⟩
  · intro o
    have hexec : exec (.idleDeadlineExpire i) s = .next (s.setStation i (closed.offer o .idleClose)) := by
      rw [exec_idleDeadlineExpire_closes hd hslot hflight hs,
        State.closeWithOutcome_silent (u := { t with deadline := none }) hs rfl hp]
    exact ⟨fun he => by rw [hexec, Station.offer_enters closed o _ he],
      fun he => by rw [hexec, Station.offer_waits closed o _ he]⟩
  · intro o s1
    have hexec : exec (.idleDeadlineExpire i) s = .next (s1.setStation i (closed.offer o .idleClose)) := by
      rw [exec_idleDeadlineExpire_closes hd hslot hflight hs,
        State.closeWithOutcome_prints (u := { t with deadline := none }) hs rfl hp]
    exact ⟨fun he => by rw [hexec, Station.offer_enters closed o _ he],
      fun he => by rw [hexec, Station.offer_waits closed o _ he]⟩

end Sys2Proof.Machine
end

section
/-! PROOF. The mode of a station changes (R33), and a waiting outcome enters the buffer (R36). -/

namespace Sys2Proof.Machine

/-! ## The pending label is discarded (step 1 of R33) -/

theorem Station.discardPending_eq (t : Station) :
    t.discardPending = { t with slot := none, buffer := t.bufferWithoutPending } := by
  rcases hslot : t.slot with _ | l
  · simp only [Station.discardPending, Station.bufferWithoutPending, hslot]
    rw [← hslot]
  · simp only [Station.discardPending, Station.bufferWithoutPending, hslot, Station.offerDiscarded_eq, Label.discarded_eq]
    rfl

/-- The mode is set, and the order ends (step 3 of R33). -/
theorem State.setStation_setMode (s : State) (i : Fin 4) (t : Station) (m : Mode) (count : Nat) :
    (s.setStation i t).setMode i m count
      = (s.setStation i
          { t with slot := none, buffer := t.bufferWithoutPending, mode := m, modeWait := false, deadline := none }).finishOrder
            { outcome := .done, count := count } := by
  simp only [State.setMode, State.setStation_station_self, State.setStation_setStation, Station.discardPending_eq]
  rfl

/-- With no label pending, none is discarded. -/
theorem State.setStation_setMode_empty (s : State) (i : Fin 4) {t : Station} (h : t.slot = none) (m : Mode) (count : Nat) :
    (s.setStation i t).setMode i m count
      = (s.setStation i { t with mode := m, modeWait := false, deadline := none }).finishOrder
          { outcome := .done, count := count } := by
  rw [State.setStation_setMode, Station.bufferWithoutPending, h]

/-! ## The mode change (R33) -/

theorem stationOf_val {n : Nat} {i : Fin 4} (h : n = i.val) : stationOf n = some i := by
  rw [stationOf, dif_pos (h ▸ i.isLt)]
  exact congrArg some (Fin.ext h)

theorem stationOf_none {n : Nat} (h : 3 < n) : stationOf n = none := dif_neg (by omega)

theorem Mode.ofCode_some {n : Nat} (h : n ≤ 4) : ∃ m, Mode.ofCode n = some m := by
  interval_cases n
  · exact ⟨.closed, rfl⟩
  · exact ⟨.checkout, rfl⟩
  · exact ⟨.returning, rfl⟩
  · exact ⟨.renew, rfl⟩
  · exact ⟨.inquiry, rfl⟩

theorem Mode.ofCode_none {n : Nat} (h : 4 < n) : Mode.ofCode n = none := by
  unfold Mode.ofCode
  split
  · omega
  · omega
  · omega
  · omega
  · omega
  · rfl

theorem exec_setStationMode_limit {s : State} {o : Order} (ho : s.orderAt kindSetStationMode .owner = some o)
    (h : 3 < o.a ∨ 4 < o.b) : exec .setStationMode s = .next (s.finishOrder { outcome := .limit }) := by
  simp only [exec, execSetStationMode, ho]
  rcases h with h | h
  · rw [stationOf_none h]
    rfl
  · rw [Mode.ofCode_none h]
    cases stationOf o.a <;> rfl

theorem exec_setStationMode_waits {s : State} {o : Order} {i : Fin 4}
    (ho : s.orderAt kindSetStationMode .owner = some o) (hi : o.a = i.val) (hb : o.b ≤ 4) :
    exec .setStationMode s = .next ((s.setStation i { s.station i with modeWait := true }).orderWaits .flight) := by
  obtain ⟨m, hm⟩ := Mode.ofCode_some hb
  simp only [exec, execSetStationMode, ho, stationOf_val hi, hm]

section Finish

variable {s : State} {o : Order} {i : Fin 4} {m : Mode} (ho : s.orderAt kindSetStationMode .flight = some o)
  (hi : o.a = i.val) (hm : Mode.ofCode o.b = some m) (hf : (s.station i).inFlight = none)
include ho hi hm hf

theorem exec_modeChangeFinish_halted (hd : s.desk.state = .halted) :
    exec .modeChangeFinish s
      = .next ((s.setStation i { s.station i with modeWait := false }).finishOrder { outcome := .halted }) := by
  simp only [exec, execModeChangeFinish, ho, stationOf_val hi, hm, hf, Option.isSome_none, Bool.false_eq_true, if_false,
    if_pos hd]

theorem exec_modeChangeFinish_changes (hd : s.desk.state ≠ .halted) :
    exec .modeChangeFinish s = .next (s.changeMode i m) := by
  simp only [exec, execModeChangeFinish, ho, stationOf_val hi, hm, hf, Option.isSome_none, Bool.false_eq_true, if_false,
    if_neg hd]

end Finish

/-- A mode change without a session (R33). -/
theorem State.changeMode_alone {s : State} {i : Fin 4} (m : Mode) (h : (s.station i).session = none) :
    s.changeMode i m = (s.setStation i (s.station i).discardPending).setMode i m 0 := by
  simp [State.changeMode, Station.discardPending_eq, h]

/-- A mode change that closes the session (R31, R33), once SESSION_CLOSED has been offered: it goes on when the outcome is in the
buffer (R36). -/
theorem State.changeMode_closes {s u : State} {i : Fin 4} {m : Mode} {se : Session} {o : SlateOutcome}
    (h : (s.station i).session = some se) :
    let t := s.station i
    let pending : Station := { t with slot := none, buffer := t.bufferWithoutPending }
    let closed : Station := { pending with session := none, items := [] }
    (s.setStation i pending).closeWithOutcome i (.modeChange t.items.length m)
        = u.setStation i (closed.offer o (.modeChange t.items.length m)) →
    (closed.entersAtOnce → s.changeMode i m
      = (u.setStation i { closed with buffer := some o, mode := m, modeWait := false, deadline := none }).finishOrder
          { outcome := .done, count := t.items.length }) ∧
    (¬ closed.entersAtOnce → s.changeMode i m
      = (u.setStation i { closed with waiting := t.waiting ++ [(o, .modeChange t.items.length m)] }).orderWaits .buffer) := by
  intro t pending closed hclose
  have hgoes : s.changeMode i m = if pending.canEnter
      then (u.setStation i (closed.offer o (.modeChange t.items.length m))).setMode i m t.items.length
      else (u.setStation i (closed.offer o (.modeChange t.items.length m))).orderWaits .buffer := by
    rw [← hclose]
    simp [State.changeMode, Station.discardPending_eq, h, pending, t]
  have henters : pending.canEnter = true ↔ closed.entersAtOnce := Station.canEnter_iff pending
  refine ⟨fun he => ?_, fun he => ?_⟩
  · rw [hgoes, if_pos (henters.2 he), Station.offer_enters closed _ _ he, State.setStation_setMode_empty _ _ (by rfl)]
  · rw [hgoes, if_neg (mt henters.1 he), Station.offer_waits closed _ _ he]

/-- Settles O9. -/
theorem modesAreSet : Obligations.ModesAreSet := by
  refine ⟨fun s o ho => ⟨exec_setStationMode_limit ho, fun i => exec_setStationMode_waits ho⟩, fun s o i m ho hi hm hf => ?_⟩
  intro t closed set
  have hdiscard : t.discardPending = { t with slot := none, buffer := t.bufferWithoutPending } := t.discardPending_eq
  refine ⟨exec_modeChangeFinish_halted ho hi hm hf, fun hd hs => ?_, fun se hd hs => ?_⟩
  · rw [exec_modeChangeFinish_changes ho hi hm hf hd, State.changeMode_alone m hs, hdiscard,
      State.setStation_setMode_empty _ _ (by rfl)]
    simp only [set, closed]
    rw [← hs]
    rfl
  · intro lost
    rw [exec_modeChangeFinish_changes ho hi hm hf hd]
    have hprints (hp : s.closePrints i) := State.changeMode_closes (m := m) hs
      (State.closeWithOutcome_prints (u := { t with slot := none, buffer := t.bufferWithoutPending }) hs rfl hp _)
    have hsilent (hp : ¬ s.closePrints i) := State.changeMode_closes (m := m) hs
      (State.closeWithOutcome_silent (u := { t with slot := none, buffer := t.bufferWithoutPending }) hs rfl hp _)
    exact ⟨fun hp he => congrArg _ ((hsilent hp).1 he), fun hp he => congrArg _ ((hprints hp).1 he),
      fun hp he => congrArg _ ((hprints hp).2 he), fun hp he => congrArg _ ((hsilent hp).2 he)⟩

/-! ## A waiting outcome enters (R36) -/

theorem exec_outcomeBufferEnter {s : State} {i : Fin 4} {o : SlateOutcome} {p : Producer}
    {rest : List (SlateOutcome × Producer)} (hw : (s.station i).waiting = (o, p) :: rest) (hb : (s.station i).bufferTakes) :
    exec (.outcomeBufferEnter i) s
      = .next ((s.setStation i { s.station i with buffer := some o, waiting := rest }).produceOn i p) := by
  simp only [exec, execOutcomeBufferEnter, hw, if_pos ((Station.bufferOpen_iff _).2 hb)]

/-- Settles O6. -/
theorem waitingOutcomeEnters : Obligations.WaitingOutcomeEnters := by
  intro s i o p rest t hw hb t1
  rw [exec_outcomeBufferEnter hw hb]
  refine ⟨?_, ?_, ?_, ?_⟩
  · rintro rfl
    simp only [State.produceOn, State.setStation_station_self, State.setStation_setStation]
    rfl
  · rintro rfl
    rfl
  · rintro n m rfl
    refine ⟨fun hd => ?_, fun hd => ?_⟩
    · rw [State.produceOn, if_neg (by exact hd), State.setStation_setMode]
    · rw [State.produceOn, if_pos (by exact hd), State.setStation_station_self, State.setStation_setStation]
  · rintro rfl
    rfl

end Sys2Proof.Machine
end

section
/-! PROOF. Keyed labels (R24, R34). -/

namespace Sys2Proof.Machine

theorem itemInRange_iff (n : Nat) : itemInRange n = true ↔ 1 ≤ n ∧ n ≤ 9999999999 := by
  rw [itemInRange, Bool.and_eq_true, decide_eq_true_iff, decide_eq_true_iff]
  rfl

theorem borrowerInRange_iff (n : Nat) : borrowerInRange n = true ↔ 1 ≤ n ∧ n ≤ 99999999 := by
  rw [borrowerInRange, Bool.and_eq_true, decide_eq_true_iff, decide_eq_true_iff]
  rfl

theorem Order.keyedLabel_item {o : Order} (hb : o.b = 1) (hn : 1 ≤ o.item ∧ o.item ≤ 9999999999) :
    o.keyedLabel = some { kind := .item, number := o.item, direction := .forward, tag := .keyed } :=
  if_pos ⟨hb, (itemInRange_iff _).2 hn⟩

theorem Order.keyedLabel_borrower {o : Order} (hb : o.b = 2) (hn : 1 ≤ o.borrower ∧ o.borrower ≤ 99999999) :
    o.keyedLabel = some { kind := .borrower, number := o.borrower, direction := .forward, tag := .keyed } := by
  rw [Order.keyedLabel, if_neg fun h => by omega, if_pos ⟨hb, (borrowerInRange_iff _).2 hn⟩]

theorem Order.keyedLabel_none {o : Order} (hi : ¬ (o.b = 1 ∧ 1 ≤ o.item ∧ o.item ≤ 9999999999))
    (hb : ¬ (o.b = 2 ∧ 1 ≤ o.borrower ∧ o.borrower ≤ 99999999)) : o.keyedLabel = none := by
  simp only [Order.keyedLabel, itemInRange_iff, borrowerInRange_iff, if_neg hi, if_neg hb]

theorem keyedClosedOutcome_eq (l : Label) (n : Nat) :
    { keyedClosedOutcome l with sessionItems := n }
      = { discardedOutcome l n with refused := true, reason := .stationClosed } := by
  obtain ⟨kind, number, direction, tag⟩ := l
  cases kind <;> rfl

/-! ## Arrival (R24, R34) -/

section Arrival

variable {s : State} {i : Fin 4} (l : Label)

theorem State.keyedArrival_closed (hm : (s.station i).mode = .closed) :
    let t := s.station i
    let refusal : SlateOutcome := { discardedOutcome l t.items.length with refused := true, reason := .stationClosed }
    (t.entersAtOnce → s.keyedArrival i l = (s.setStation i { t with buffer := some refusal }).finishOrder
      { outcome := .refused, reason := some .stationClosed }) ∧
    (¬ t.entersAtOnce → s.keyedArrival i l = (s.setStation i
      { t with waiting := t.waiting ++ [(refusal, .keyedClosed)] }).orderWaits .buffer) := by
  intro t refusal
  have harrival : s.keyedArrival i l = if t.canEnter
      then (s.setStation i (t.offer refusal .keyedClosed)).finishOrder (.refused .stationClosed)
      else (s.setStation i (t.offer refusal .keyedClosed)).orderWaits .buffer := by
    rw [State.keyedArrival, if_pos hm, keyedClosedOutcome_eq]
  rw [harrival]
  refine ⟨fun he => ?_, fun he => ?_⟩
  · rw [if_pos (t.canEnter_iff.2 he), Station.offer_enters _ _ _ he]
    rfl
  · rw [if_neg (mt t.canEnter_iff.1 he), Station.offer_waits _ _ _ he]

theorem State.keyedArrival_enters (hm : (s.station i).mode ≠ .closed) (hslot : (s.station i).slot = none) :
    s.keyedArrival i l
      = (s.setStation i { s.station i with slot := some l, deadline := some s.settings.sessionTimeout }).orderWaits .slate := by
  rw [State.keyedArrival, if_neg hm, if_pos (hslot ▸ rfl)]
  rfl

theorem State.keyedArrival_waits (hm : (s.station i).mode ≠ .closed) (hslot : (s.station i).slot ≠ none) :
    s.keyedArrival i l = s.orderWaits .slot := by
  rw [State.keyedArrival, if_neg hm, if_neg (by simpa using hslot)]

end Arrival

/-! ## The commands -/

theorem exec_keyedLabel_limit {s : State} {o : Order} (ho : s.orderAt kindKeyedLabel .owner = some o)
    (h : stationOf o.a = none ∨ o.keyedLabel = none) : exec .keyedLabel s = .next (s.finishOrder { outcome := .limit }) := by
  simp only [exec, execKeyedLabel, ho]
  rcases h with h | h
  · rw [h]
    rfl
  · rw [h]
    cases stationOf o.a <;> rfl

theorem exec_keyedLabel_arrives {s : State} {o : Order} {i : Fin 4} {l : Label}
    (ho : s.orderAt kindKeyedLabel .owner = some o) (hi : o.a = i.val) (hl : o.keyedLabel = some l) :
    exec .keyedLabel s = .next (s.keyedArrival i l) := by
  simp only [exec, execKeyedLabel, ho, stationOf_val hi, hl]

theorem exec_keyedLabelEnter_arrives {s : State} {o : Order} {i : Fin 4} {l : Label}
    (ho : s.orderAt kindKeyedLabel .slot = some o) (hi : o.a = i.val) (hl : o.keyedLabel = some l)
    (hslot : (s.station i).slot = none) : exec .keyedLabelEnter s = .next (s.keyedArrival i l) := by
  simp only [exec, execKeyedLabelEnter, ho, stationOf_val hi, hl, hslot, Option.isSome_none, Bool.false_eq_true, if_false]

/-- Settles O10. -/
theorem keyedLabelArrives : Obligations.KeyedLabelArrives := by
  intro s o label inRange
  have hlabel (h : inRange) : o.keyedLabel = some label := by
    rcases h with ⟨hb, hn⟩ | ⟨hb, hn⟩
    · simp only [Order.keyedLabel_item hb hn, label, hb, if_true]
    · simp [Order.keyedLabel_borrower hb hn, label, hb]
  refine ⟨fun ho => ⟨fun h => ?_, fun i hi hr => ?_⟩, fun i ho hi hr hm hslot => ?_⟩
  · refine exec_keyedLabel_limit ho (h.imp stationOf_none fun hr => ?_)
    obtain ⟨hitem, hborrower⟩ := not_or.1 hr
    exact Order.keyedLabel_none hitem hborrower
  · intro t refusal
    rw [exec_keyedLabel_arrives ho hi (hlabel hr)]
    exact ⟨fun hm he => congrArg _ ((State.keyedArrival_closed label hm).1 he),
      fun hm he => congrArg _ ((State.keyedArrival_closed label hm).2 he),
      fun hm hslot => congrArg _ (State.keyedArrival_enters label hm hslot),
      fun hm hslot => congrArg _ (State.keyedArrival_waits label hm hslot)⟩
  · rw [exec_keyedLabelEnter_arrives ho hi (hlabel hr) hslot, State.keyedArrival_enters label hm hslot]

end Sys2Proof.Machine
end

section
/-! PROOF. A station completes its label in flight (R26 to R31, R35, R39): what steps 1 and 2 of R26 leave of the session, then the
tone and the outcome. -/

namespace Sys2Proof.Machine

@[simp] theorem State.setStation_same (s : State) (i : Fin 4) : s.setStation i (s.station i) = s := by
  simp [State.setStation, State.withStations, State.station, Vector.get_eq_getElem]

theorem State.requestSlip_settings (s : State) (x : Slip) : (s.requestSlip x).settings = s.settings := by
  obtain ⟨m, p, h⟩ := s.requestSlip_eq x
  rw [h, State.withPrinter_settings, State.withMem_settings]

/-! ## The DUE_DATE slip of a list (R31) -/

/-- The request of the DUE_DATE slip of station `i` leaves `u`, and was lost when `full`. -/
structure State.RequestsList (s : State) (i : Fin 4) (u : State) (full : Bool) : Prop where
  request : s.requestDueDate i = (u, full)
  settings : u.settings = s.settings
  station : u.station i = s.station i

theorem State.requestsList_silent {s : State} {i : Fin 4} (hp : ¬ s.closePrints i) : s.RequestsList i s false :=
  ⟨if_neg hp, rfl, rfl⟩

theorem State.requestsList_prints {s : State} {i : Fin 4} {se : Session} (hs : (s.station i).session = some se)
    (hp : s.closePrints i) :
    s.RequestsList i (s.requestSlip (s.closeSlip i se.number)) (decide (16 ≤ s.printer.queue.length)) := by
  refine ⟨?_, s.requestSlip_settings _, s.requestSlip_station _ i⟩
  have hrequest : s.requestDueDate i
      = (s.requestSlip (dueDateSlip i s.reading (((s.station i).session.map Session.number).getD 0) (s.station i).items),
        s.slipLost) := if_pos hp
  rw [hrequest, hs]
  rfl

theorem State.RequestsList.closeSession {s u : State} {i : Fin 4} {full : Bool} (h : s.RequestsList i u full)
    (hs : (s.station i).session ≠ none) :
    s.closeSession i = (u.setStation i { s.station i with session := none, items := [] }, full) := by
  rw [State.closeSession, if_neg (by simpa using hs), h.request]
  dsimp only
  rw [h.station]

theorem State.closeSession_none {s : State} {i : Fin 4} (h : (s.station i).session = none) : s.closeSession i = (s, false) :=
  if_pos (h ▸ rfl)

/-! ## The list takes a loan (R30) -/

theorem replaceItem_eq_map (e : SessionItem) {xs : List SessionItem} (h : (xs.map SessionItem.item).Nodup) :
    replaceItem e xs = xs.map fun y => if y.item = e.item then e else y := by
  induction xs with
  | nil => rfl
  | cons x xs ih =>
    obtain ⟨hx, hxs⟩ := List.nodup_cons.1 h
    rw [replaceItem, List.map_cons]
    split
    · next heq =>
      have hrest : xs.map (fun y => if y.item = e.item then e else y) = xs :=
        (List.map_congr_left fun y hy => if_neg fun hye =>
          hx (List.mem_map.2 ⟨y, hy, hye.trans heq.symm⟩)).trans (List.map_id xs)
      rw [hrest]
    · rw [ih hxs]

theorem any_item_iff (e : SessionItem) (xs : List SessionItem) :
    (xs.any fun x => x.item == e.item) = true ↔ e.item ∈ xs.map SessionItem.item := by
  simp

theorem State.recordItem_replaces {s : State} {i : Fin 4} {e : SessionItem}
    (h : e.item ∈ (s.station i).items.map SessionItem.item) :
    s.recordItem i e = (s.setStation i { s.station i with items := replaceItem e (s.station i).items }, false) :=
  if_pos ((any_item_iff _ _).2 h)

theorem State.recordItem_appends {s : State} {i : Fin 4} {e : SessionItem}
    (h : e.item ∉ (s.station i).items.map SessionItem.item) (hl : (s.station i).items.length < 12) :
    s.recordItem i e = (s.setStation i { s.station i with items := (s.station i).items ++ [e] }, false) := by
  rw [State.recordItem, if_neg (mt (any_item_iff _ _).1 h), if_pos hl]

/-- A thirteenth entry prints the list and begins it again (R30). -/
theorem State.RequestsList.recordItem {s u : State} {i : Fin 4} {e : SessionItem} {full : Bool} (hr : s.RequestsList i u full)
    (h : e.item ∉ (s.station i).items.map SessionItem.item) (hl : 12 ≤ (s.station i).items.length) :
    s.recordItem i e = (u.setStation i { s.station i with items := [e] }, full) := by
  rw [State.recordItem, if_neg (mt (any_item_iff _ _).1 h), if_neg (Nat.not_lt.2 hl), hr.request]
  dsimp only
  rw [hr.station]

/-! ## Steps 1 and 2 of R26 -/

/-- Steps 1 and 2 of R26 leave `u`, with this session and this list in station `i`; a slip was lost when `full`. -/
structure State.LabelLeaves (s : State) (i : Fin 4) (k : TxnKind) (x : StationResult) (u : State) (session : Option Session)
    (items : List SessionItem) (full : Bool) : Prop where
  state : ((s.closeBefore i k).1.applyResult i x).1 = u.setStation i { s.station i with session := session, items := items }
  lost : ((s.closeBefore i k).2 || ((s.closeBefore i k).1.applyResult i x).2) = full
  settings : u.settings = s.settings

theorem State.closeBefore_keeps {s : State} {i : Fin 4} {k : TxnKind} (h : k ≠ .sessionOpen true) :
    s.closeBefore i k = (s, false) := by
  unfold State.closeBefore
  split
  · exact absurd rfl h
  · rfl

theorem StationResult.closes_iff (x : StationResult) :
    x.closes = true ↔ x.refused = true ∧ (x.reason = .borrowerBlocked ∨ x.reason = .unknownBorrower) := by
  simp [StationResult.closes]

section Label

variable {s u : State} {i : Fin 4} {k : TxnKind} {x : StationResult} {full : Bool}

/-- Without a close before it, a label leaves what its result does. -/
theorem State.labelLeaves_of_apply {session : Option Session} {items : List SessionItem} (hk : k ≠ .sessionOpen true)
    (hx : s.applyResult i x = (u.setStation i { s.station i with session := session, items := items }, full))
    (hu : u.settings = s.settings) : s.LabelLeaves i k x u session items full := by
  refine ⟨?_, ?_, hu⟩
  · rw [State.closeBefore_keeps hk, hx]
  · rw [State.closeBefore_keeps hk, hx]
    rfl

theorem State.applyResult_none (ho : x.opens = none) (he : x.entry = none) :
    s.applyResult i x = if x.closes then s.closeSession i else (s, false) := by
  simp only [State.applyResult, ho, he]

theorem State.applyResult_opens {se : Session} (ho : x.opens = some se) :
    s.applyResult i x = (s.setStation i { s.station i with session := some se, items := [] }, false) := by
  simp only [State.applyResult, ho]

theorem State.applyResult_entry {e : SessionItem} (ho : x.opens = none) (he : x.entry = some e) :
    s.applyResult i x = s.recordItem i e := by
  simp only [State.applyResult, ho, he]

/-- A result that names no session and no entry changes nothing, unless it closes a session that is open. -/
theorem State.applyResult_keeps (ho : x.opens = none) (he : x.entry = none)
    (h : ¬ (x.closes = true ∧ (s.station i).session ≠ none)) : s.applyResult i x = (s, false) := by
  rw [State.applyResult_none ho he]
  split
  · next hc => exact State.closeSession_none (by_contra fun hs => h ⟨hc, hs⟩)
  · rfl

/-- A label for another borrower closes the session, then its result comes to a station without one (R27). -/
theorem State.RequestsList.labelLeaves {session : Option Session} (h : s.RequestsList i u full)
    (hs : (s.station i).session ≠ none)
    (hx : (u.setStation i { s.station i with session := none, items := [] }).applyResult i x
      = (u.setStation i { s.station i with session := session, items := [] }, false)) :
    s.LabelLeaves i (.sessionOpen true) x u session [] full := by
  have hbefore : s.closeBefore i (.sessionOpen true)
      = (u.setStation i { s.station i with session := none, items := [] }, full) := h.closeSession hs
  refine ⟨?_, ?_, h.settings⟩
  · rw [hbefore, hx]
  · rw [hbefore, hx, Bool.or_false]

theorem State.RequestsList.labelLeaves_opens {se : Session} (h : s.RequestsList i u full)
    (hs : (s.station i).session ≠ none) (ho : x.opens = some se) :
    s.LabelLeaves i (.sessionOpen true) x u (some se) [] full :=
  h.labelLeaves hs (by
    rw [State.applyResult_opens ho, State.setStation_setStation, State.setStation_station_self])

theorem State.RequestsList.labelLeaves_refused (h : s.RequestsList i u full) (hs : (s.station i).session ≠ none)
    (ho : x.opens = none) (he : x.entry = none) : s.LabelLeaves i (.sessionOpen true) x u none [] full :=
  h.labelLeaves hs (State.applyResult_keeps ho he (by simp))

/-- A block or an unknown borrower closes the session (R28). -/
theorem State.RequestsList.labelLeaves_closing (h : s.RequestsList i u full) (hk : k ≠ .sessionOpen true)
    (hs : (s.station i).session ≠ none) (ho : x.opens = none) (he : x.entry = none) (hc : x.closes = true) :
    s.LabelLeaves i k x u none [] full := by
  refine State.labelLeaves_of_apply hk ?_ h.settings
  rw [State.applyResult_none ho he, if_pos hc, h.closeSession hs]

/-- A loan begins the list again (R30). -/
theorem State.RequestsList.labelLeaves_entry {e : SessionItem} (h : s.RequestsList i u full) (hk : k ≠ .sessionOpen true)
    (ho : x.opens = none) (he : x.entry = some e) (hnew : e.item ∉ (s.station i).items.map SessionItem.item)
    (hl : 12 ≤ (s.station i).items.length) : s.LabelLeaves i k x u (s.station i).session [e] full :=
  State.labelLeaves_of_apply hk ((State.applyResult_entry ho he).trans (h.recordItem hnew hl)) h.settings

end Label

/-! ## Tone and outcome (R35, R36, R39) -/

/-- The session item count of an outcome: none for those of a return (R35). -/
theorem StationResult.counts_ite (x : StationResult) (m : Mode) (n : Nat) :
    (if x.counts m then n else 0)
      = if x.refused = false ∧
          (x.reason = .returned ∨ x.reason = .alreadyOnHoldShelf ∨ (x.reason = .notOnLoan ∧ m ≠ .renew)) then 0 else n := by
  have hcounts : x.counts m = true ↔ ¬ (x.refused = false ∧
      (x.reason = .returned ∨ x.reason = .alreadyOnHoldShelf ∨ (x.reason = .notOnLoan ∧ m ≠ .renew))) := by
    cases hr : x.refused
    · simp [StationResult.counts, hr]
      tauto
    · simp [StationResult.counts, hr]
  simp only [hcounts, ite_not]

/-- Steps 3 to 6 of R26: the tone, then the outcome in the buffer or behind those that wait. -/
theorem State.LabelLeaves.completeLabel {s u : State} {i : Fin 4} {k : TxnKind} {x : StationResult} {session : Option Session}
    {items : List SessionItem} {full : Bool} (h : s.LabelLeaves i k x u session items full) (lost : Bool) :
    let t := s.station i
    let o := x.outcome t.mode items.length (lost || full) (decide ((t.inFlight.map Label.tag) = some .keyed))
    let v : Station := { t with session := session, items := items, tone := t.tone.start (x.tone t.mode) }
    (t.entersAtOnce → s.completeLabel i k x lost
      = u.setStation i { v with buffer := some o, inFlight := none, deadline := some s.settings.sessionTimeout }) ∧
    (¬ t.entersAtOnce → s.completeLabel i k x lost
      = u.setStation i { v with waiting := t.waiting ++ [(o, .completion)] }) := by
  intro t o v
  have hlabel : s.completeLabel i k x lost
      = u.setStation i (if v.canEnter then (v.offer o .completion).settle s.settings.sessionTimeout
          else v.offer o .completion) := by
    have hkeyed : (t.inFlight.map Label.tag == some .keyed) = decide (t.inFlight.map Label.tag = some .keyed) := by
      cases hb : decide (t.inFlight.map Label.tag = some .keyed) <;> simpa using hb
    simp only [State.completeLabel, h.state, Bool.or_assoc, h.lost, State.setStation_station_self, State.setStation_setStation,
      State.setStation_settings, h.settings]
    rw [hkeyed]
    rfl
  refine ⟨fun he => ?_, fun he => ?_⟩
  · rw [hlabel, if_pos (v.canEnter_iff.2 he), Station.offer_enters v _ _ he]
    rfl
  · rw [hlabel, if_neg (mt v.canEnter_iff.1 he), Station.offer_waits v _ _ he]

/-- Settles O49. Where the session's own slip is lost, the statement speaks of a result handed over with a lost slip already;
`State.LabelLeaves.completeLabel` says it of every result. -/
theorem labelsComplete : Obligations.LabelsComplete := by
  intro s i k x lost t ends full closing
  have hends {u : State} {session : Option Session} {items : List SessionItem} {b : Bool}
      (h : s.LabelLeaves i k x u session items b) : ends u session items (lost || b) := by
    have hcomplete := h.completeLabel (lost || b)
    simp only [StationResult.outcome, StationResult.counts_ite, Bool.or_assoc, Bool.or_self] at hcomplete
    exact hcomplete
  have hkeep {session : Option Session} {items : List SessionItem} (h : s.LabelLeaves i k x s session items false) :
      ends s session items lost := by
    have := hends h
    rwa [Bool.or_false] at this
  refine ⟨fun hk ho he hc => ?_, fun se hk ho he hc hs => ?_, fun se hk ho => ?_, fun se old hk ho hs => ?_,
    fun old hk ho he hs => ?_, fun e se hk ho he hs hnodup => ⟨fun hmem => ?_, fun hnew hl => ?_, fun hnew hl => ?_⟩⟩
  · refine hkeep (State.labelLeaves_of_apply hk ?_ rfl)
    rw [State.applyResult_keeps ho he (by rwa [StationResult.closes_iff])]
    exact congrArg (·, false) (s.setStation_same i).symm
  · have hopen : (s.station i).session ≠ none := ne_of_eq_of_ne hs (Option.some_ne_none _)
    exact ⟨fun hp => hkeep ((State.requestsList_silent hp).labelLeaves_closing hk hopen ho he (x.closes_iff.2 hc)),
      fun hp => hends ((State.requestsList_prints hs hp).labelLeaves_closing hk hopen ho he (x.closes_iff.2 hc))⟩
  · exact hkeep (State.labelLeaves_of_apply hk (State.applyResult_opens ho) rfl)
  · have hopen : (s.station i).session ≠ none := ne_of_eq_of_ne hs (Option.some_ne_none _)
    subst hk
    exact ⟨fun hp => hkeep ((State.requestsList_silent hp).labelLeaves_opens hopen ho),
      fun hp => hends ((State.requestsList_prints hs hp).labelLeaves_opens hopen ho)⟩
  · have hopen : (s.station i).session ≠ none := ne_of_eq_of_ne hs (Option.some_ne_none _)
    subst hk
    exact ⟨fun hp => hkeep ((State.requestsList_silent hp).labelLeaves_refused hopen ho he),
      fun hp => hends ((State.requestsList_prints hs hp).labelLeaves_refused hopen ho he)⟩
  · refine hkeep (State.labelLeaves_of_apply hk ?_ rfl)
    rw [State.applyResult_entry ho he, State.recordItem_replaces hmem, replaceItem_eq_map e hnodup]
  · exact hkeep (State.labelLeaves_of_apply hk
      ((State.applyResult_entry ho he).trans (State.recordItem_appends hnew hl)) rfl)
  · exact ⟨fun hp => hkeep ((State.requestsList_silent hp).labelLeaves_entry hk ho he hnew hl),
      fun hp => hends ((State.requestsList_prints hs hp).labelLeaves_entry hk ho he hnew hl)⟩

end Sys2Proof.Machine
end

section
/-! PROOF. The gates (R90): what each transaction of a label or an order is gated with, and what a refusal hands over. -/

namespace Sys2Proof.Machine

/-! ## The gates in their order -/

theorem Txn.gate_halted {t : Txn} (h : t.halted = true) (c : RoomClass) (clock : Bool) :
    t.gate c clock = some .deskHalted := if_pos h

theorem Txn.gate_clockUnset {t : Txn} (h : t.halted = false) (hs : t.stamp = none) (c : RoomClass) :
    t.gate c true = some .clockUnset := by
  simp [Txn.gate, h, hs]

/-- A HALTED desk or an unset clock refuses before the room is looked at. -/
theorem Txn.gate_refuses_early {t : Txn} (h : t.halted = true ∨ t.stamp = none) (c : RoomClass) :
    ∃ r, t.gate c true = some r ∧ r ≠ .journalFull := by
  by_cases hh : t.halted = true
  · exact ⟨_, Txn.gate_halted hh c true, by decide⟩
  · exact ⟨_, Txn.gate_clockUnset (Bool.eq_false_of_not_eq_true hh) (h.resolve_left hh) c, by decide⟩

theorem Txn.gate_journalFull {t : Txn} (h : t.halted = false) {c : RoomClass} {clock : Bool}
    (hc : clock = false ∨ t.stamp ≠ none) (hr : c.allows t.room = false) : t.gate c clock = some .journalFull := by
  have hpasses : (clock && t.stamp.isNone) = false := by
    rcases hc with rfl | hs
    · rfl
    · simp [Option.isNone_eq_false_iff, Option.isSome_iff_ne_none, hs]
  simp [Txn.gate, h, hpasses, hr]

theorem RoomClass.aboveReserve_allows {room : Nat} (h : room ≤ 64) : RoomClass.aboveReserve.allows room = false :=
  decide_eq_false (Nat.not_lt.2 h)

theorem RoomClass.one_allows {room : Nat} (h : room = 0) : RoomClass.one.allows room = false :=
  decide_eq_false (h ▸ Nat.not_succ_le_zero 0)

/-! ## What a transaction is gated with -/

/-- The order kinds of the first and the second room class (R90). -/
def reserveOrders : List Nat := [3, 4, 5, 7, 11, 12, 13, 14, 16]

def oneOrders : List Nat := [6, 8, 9, 10, 17]

/-- The room class of a transaction (R90). -/
def TxnKind.room : TxnKind → RoomClass
  | .checkout | .renewal => .aboveReserve
  | .returnItem => .one
  | .order o => if o.kind ∈ reserveOrders then .aboveReserve else .one
  | _ => .none

/-- The transaction meets the clock gate: all but the inquiries and SET_CLOCK (R90). -/
def TxnKind.clocked : TxnKind → Bool
  | .borrowerInquiry | .itemInquiry => false
  | .order o => o.kind != 14
  | _ => true

/-- A transaction of a station's label. -/
def TxnKind.ofLabel : TxnKind → Prop
  | .sessionOpen _ | .sessionRefresh | .noBorrower | .wrongLabel | .checkout | .renewal | .returnItem | .borrowerInquiry
  | .itemInquiry => True
  | _ => False

theorem TxnKind.clocked_iff (k : TxnKind) :
    k.clocked = false ↔ k = .borrowerInquiry ∨ k = .itemInquiry ∨ ∃ o, k = .order o ∧ o.kind ∈ [14] := by
  cases k <;> simp [TxnKind.clocked]

theorem TxnKind.room_aboveReserve {k : TxnKind}
    (h : k = .checkout ∨ k = .renewal ∨ ∃ o, k = .order o ∧ o.kind ∈ reserveOrders) : k.room = .aboveReserve := by
  rcases h with rfl | rfl | ⟨o, rfl, ho⟩
  · rfl
  · rfl
  · exact if_pos ho

theorem TxnKind.room_one {k : TxnKind} (h : k = .returnItem ∨ ∃ o, k = .order o ∧ o.kind ∈ oneOrders) : k.room = .one := by
  have hapart : ∀ n ∈ oneOrders, n ∉ reserveOrders := by decide
  rcases h with rfl | ⟨o, rfl, ho⟩
  · rfl
  · exact if_neg (hapart _ ho)

theorem Txn.gated_refused {t : Txn} {c : RoomClass} {clock : Bool} {r : Reason} (h : t.gate c clock = some r) (s : State)
    (read : Except TableFault Plan) : t.gated s c clock read = t.refuse s r := by
  simp only [Txn.gated, h]

theorem Txn.orderPlan_refused {t : Txn} {c : RoomClass} {clock : Bool} {r : Reason} (h : t.gate c clock = some r)
    (limit : Bool) (read : Except TableFault Plan) : t.orderPlan c clock limit read = orderRefused r := by
  simp only [Txn.orderPlan, h]
  rfl

/-- A label's transaction refused at a gate does nothing but answer (R90). -/
theorem planTxn_label_refused {s : State} {t : Txn} {r : Reason} (hk : t.kind.ofLabel)
    (h : t.gate t.kind.room t.kind.clocked = some r) : planTxn s t = t.refuse s r := by
  have hgated : ∃ read, planTxn s t = t.gated s t.kind.room t.kind.clocked read := by
    unfold planTxn
    cases hkind : t.kind with
    | order _ | pagesReleased _ _ | sweepStep | notice _ | uploadStarted | uploadEnded =>
      rw [hkind] at hk
      exact hk.elim
    | _ => exact ⟨_, rfl⟩
  obtain ⟨read, hread⟩ := hgated
  rw [hread, Txn.gated_refused h]

/-- An order's transaction is gated by its kind (R90). -/
theorem planOrder_gated (s : State) (t : Txn) {o : Order} (hk : o.kind ∈ reserveOrders ++ oneOrders) :
    ∃ limit read, planOrder s t o = t.orderPlan (TxnKind.order o).room (TxnKind.order o).clocked limit read := by
  simp only [reserveOrders, oneOrders, List.cons_append, List.nil_append, List.mem_cons, List.not_mem_nil, or_false] at hk
  rcases hk with h | h | h | h | h | h | h | h | h | h | h | h | h | h
  all_goals
    simp only [planOrder, TxnKind.room, TxnKind.clocked, h]
    exact ⟨_, _, rfl⟩

/-- An order's transaction refused at a gate ends the order with the reason, and nothing else (R90). -/
theorem planTxn_order_refused {s : State} {t : Txn} {o : Order} {r : Reason} (ho : t.kind = .order o)
    (hk : o.kind ∈ reserveOrders ++ oneOrders) (h : t.gate t.kind.room t.kind.clocked = some r) :
    planTxn s t = orderRefused r := by
  obtain ⟨limit, read, hread⟩ := planOrder_gated s t hk
  rw [ho] at h
  rw [planTxn, ho]
  exact hread.trans (Txn.orderPlan_refused h limit read)

/-! ## What a refusal names (R35) -/

/-- A refusal at a station: the item and the session borrower, or the borrower scanned. -/
theorem Txn.refuse_eq {s : State} {t : Txn} {i : Fin 4} {l : Label} (hr : t.requester = .station i) (hl : t.label = some l)
    (r : Reason) :
    t.refuse s r = stationRefused r
      (if l.kind = .item then (match (s.station i).session with | some se => se.number | none => 0) else l.number)
      (if l.kind = .item then l.number else 0) := by
  cases hk : l.kind with
  | item =>
    have hn : t.names .item l.number := ⟨l, hl, hk, rfl⟩
    cases hs : (s.station i).session with
    | none => exact Txn.refuse_item_alone hn hr hs r
    | some se => exact Txn.refuse_item hn hr hs r
  | borrower => exact Txn.refuse_borrower ⟨l, hl, hk, rfl⟩ r

/-! ## Sweep steps and notices (R79, R144) -/

theorem planSweepStep_refused {s : State} {t : Txn} {r : Reason} (h : t.gate .one true = some r) :
    planSweepStep s t = if r = .journalFull then .only (.sweep .journalFull) else .sweepEnds := by
  simp only [planSweepStep, h]
  cases r <;> rfl

theorem planNotice_refused {s : State} {t : Txn} {r : Reason} (h : t.gate .one true = some r) (n : CenterNotice) :
    planNotice s t n = .notice false := by
  simp only [planNotice, h]

/-- Settles O14. -/
theorem gatesRefuseInOrder : Obligations.GatesRefuseInOrder := by
  intro s t k order aboveReserve oneOrMore noRoom clockFree refusedWith
  refine ⟨fun hclass => ?_, fun hk => ?_, fun n hk hrefused => ?_⟩
  · have hgated : k.ofLabel ∨ ∃ o, k = .order o ∧ o.kind ∈ reserveOrders ++ oneOrders := by
      rcases hclass with (h | h | ⟨o, h, ho⟩) | (h | ⟨o, h, ho⟩) | ⟨c, h⟩ | h | h | h | h | h
      · exact .inl (h ▸ trivial)
      · exact .inl (h ▸ trivial)
      · exact .inr ⟨o, h, List.mem_append_left _ ho⟩
      · exact .inl (h ▸ trivial)
      · exact .inr ⟨o, h, List.mem_append_right _ ho⟩
      all_goals exact .inl (h ▸ trivial)
    have hrefused {r : Reason} (h : t.gate k.room k.clocked = some r) : refusedWith r := by
      refine ⟨fun ⟨o, ho⟩ => ?_, fun i l hno hr hl => ?_⟩
      · obtain hlabel | ⟨o', ho', hkind⟩ := hgated
        · exact absurd hlabel (by rw [ho]; exact id)
        · exact planTxn_order_refused ho' hkind h
      · have hlabel : k.ofLabel := hgated.resolve_right fun ⟨o, ho, _⟩ => hno o ho
        exact (planTxn_label_refused hlabel h).trans (Txn.refuse_eq hr hl r)
    have hclock {P : Prop} (h : clockFree ∨ P) : k.clocked = false ∨ P := h.imp_left k.clocked_iff.2
    refine ⟨fun h => hrefused (Txn.gate_halted h _ _), fun h hs hc => hrefused ?_, fun h hc hk hr => hrefused ?_,
      fun h hc hk hr => hrefused ?_⟩
    · have hclocked : k.clocked = true := Bool.of_not_eq_false (mt k.clocked_iff.1 hc)
      rw [hclocked, Txn.gate_clockUnset h hs]
    · exact Txn.gate_journalFull h (hclock hc) (by
        rw [TxnKind.room_aboveReserve hk]
        exact RoomClass.aboveReserve_allows hr)
    · exact Txn.gate_journalFull h (hclock hc) (by
        rw [TxnKind.room_one hk]
        exact RoomClass.one_allows hr)
  · have hplan : planTxn s t = planSweepStep s t := by rw [planTxn, show t.kind = .sweepStep from hk]
    refine ⟨fun h => ?_, fun hh hs hr => ?_⟩
    · obtain ⟨r, hgate, hr⟩ := Txn.gate_refuses_early h .one
      rw [hplan, planSweepStep_refused hgate, if_neg hr]
      rfl
    · rw [hplan, planSweepStep_refused (Txn.gate_journalFull hh (.inr hs) (RoomClass.one_allows hr))]
      rfl
  · have hgate : ∃ r, t.gate .one true = some r := by
      by_cases hearly : t.halted = true ∨ t.stamp = none
      · obtain ⟨r, hr, -⟩ := Txn.gate_refuses_early hearly .one
        exact ⟨r, hr⟩
      · obtain ⟨hh, hs⟩ := not_or.1 hearly
        have hroom : t.room = 0 := (or_assoc.2 hrefused).resolve_left hearly
        exact ⟨_, Txn.gate_journalFull (Bool.eq_false_of_not_eq_true hh) (.inr hs) (RoomClass.one_allows hroom)⟩
    obtain ⟨r, hr⟩ := hgate
    rw [planTxn, show t.kind = .notice n from hk]
    exact planNotice_refused hr n

end Sys2Proof.Machine
end

section
/-! PROOF. A return (R99 to R102): the item leaves its borrower, and is freed or trapped. -/

namespace Sys2Proof.Machine

theorem Txn.marks_trapped (t : Txn) : t.marks.trapped = false := by
  unfold Txn.marks
  split <;> rfl

/-- Flags without TRAPPED stay as they are when TRAPPED is left out. -/
theorem EntryFlags.untrapped {f : EntryFlags} (h : f.trapped = false) : { f with trapped := false } = f := by
  rw [← h]

/-! ## The item leaves its borrower -/

/-- With an empty queue the record is freed (R47, R100). -/
theorem returnItemRecord_frees {s : State} {t : Txn} {d d1 : Draft} {i : Nat} {x : Settled} (hq : (d.item i).queue = [])
    (hs : (d.item i).state ≠ some .onShelf) (h : d.removeItem i = .ok d1) :
    returnItemRecord s t d i x = .ok (returnPlan t d1 x none none) := by
  rw [returnItemRecord, if_pos ⟨hq, hs⟩, h]
  rfl

/-- The record of an item put on the hold shelf (R48, R101). -/
def ItemRecord.trapped (r : ItemRecord) (deadline : Nat) : ItemRecord :=
  { r.cleared .onHoldShelf 0xFFFF with deadline := deadline }

/-- With a queue the item is trapped for its head (R53, R101). -/
theorem returnItemRecord_traps {s : State} {t : Txn} {d d1 : Draft} {i : Nat} {x : Settled} {e : HoldEntry}
    {rest : List HoldEntry} {head : BorrowerRecord} {deadline : Nat}
    (hdeadline : t.rules.pickupDeadline t.at.day s.settings.pickupDays = deadline) (hq : (d.item i).queue = e :: rest)
    (hb : d.holdBorrower i 0 e.borrower = .ok head) (h : d.shelfInsert i ((d.item i).trapped deadline) = .ok d1) :
    returnItemRecord s t d i x
      = .ok (returnPlan t d1 x (some deadline) (some (holdSlip t.stationOf t.at t.labelNumber head.number deadline))) := by
  have hhead : d.holdBorrower i 0 (((d.item i).queue.head?.map HoldEntry.borrower).getD Config.nullIndex) = .ok head := by
    rw [hq]
    exact hb
  have hshelve : d.shelve i 0 (d.item i).queue deadline = .ok (d1, head.number) := by
    have hinsert : d.shelfInsert i
        { (d.item i).cleared .onHoldShelf Config.nullIndex with queue := (d.item i).queue, deadline := deadline } = .ok d1 := h
    simp only [Draft.shelve, hhead, Except.ok_bind', hinsert]
    rfl
  rw [returnItemRecord, if_neg fun hc => List.cons_ne_nil e rest (hq.symm.trans hc.1)]
  simp only [hdeadline, hshelve, Except.ok_bind']
  rfl

/-- An ON_LOAN item charges its borrower (R100). -/
theorem returnOnLoan_charges (s : State) {t : Txn} {d : Draft} {i : Nat} {b : BorrowerRecord} {st : Stamp} (hst : t.at = st)
    (h : d.itemBorrower i = .ok b) :
    let r := d.item i
    let fine := t.rules.fine (t.rules.policyEntry r.itemClass b.cls) r.hourLoan r.due st
    returnOnLoan s t d i
      = returnItemRecord s t (d.putBorrower r.borrower { b with loans := b.loans - 1, fines := raiseFines b.fines fine }) i
          { borrower := b.number, fine := fine, flags := { t.marks with overdue := st.later r.due } } := by
  subst hst
  unfold returnOnLoan
  rw [h, Txn.marks_eq]
  rfl

/-- A LOST item falls off its borrower's lost count (R100). -/
theorem returnLost_counts (s : State) {t : Txn} {d : Draft} {i : Nat} {b : BorrowerRecord} (h : d.itemBorrower i = .ok b) :
    returnLost s t d i
      = returnItemRecord s t (d.putBorrower (d.item i).borrower { b with lost := b.lost - 1 }) i
          { borrower := b.number, fine := 0, flags := { t.marks with found := true } } := by
  unfold returnLost
  rw [h, Txn.marks_eq]
  rfl

/-! ## The read phase of a return -/

section Read

variable {s : State} {t : Txn} {n : Nat} {st : Stamp} (hn : t.names .item n) (ha : t.admitted st 1)
  (hi : s.headerGood .item)
include hn ha hi

theorem planReturn_absent (hj : s.tables.lookup .item n = .ok none) :
    planReturn s t = returnUnchanged t .notOnLoan .onShelf := by
  have htouch : (Draft.start s.mem s.geometry).touch .item = .ok s.tables := hi
  simp only [planReturn, Txn.gated, Txn.gate_one ha, htouch, Except.ok_bind', Txn.names_number hn, hj]
  rfl

/-- A return of an item with a record, by the state of the record (R99, R100). -/
theorem planReturn_found (hb : s.headerGood .borrower) {j : Nat} (hj : s.tables.lookup .item n = .ok (some j)) :
    let r := s.tables.item j
    (r.state = some .onHoldShelf → planReturn s t = returnUnchanged t .alreadyOnHoldShelf .onHoldShelf) ∧
    (r.state = some .withdrawn → planReturn s t = t.refuse s .itemWithdrawn) ∧
    (r.state = some .onLoan → planReturn s t = planOf (t.abandoned s) (returnOnLoan s t s.tables j)) ∧
    (r.state = some .lost → planReturn s t = planOf (t.abandoned s) (returnLost s t s.tables j)) ∧
    (r.state = some .onShelf → planReturn s t = planOf (t.abandoned s)
      (returnItemRecord s t s.tables j { borrower := 0, fine := 0, flags := t.labelFlags })) := by
  have htouch : (Draft.start s.mem s.geometry).touch .item = .ok s.tables := hi
  have htouch' : s.tables.touch .borrower = .ok s.tables := hb
  refine ⟨?_, ?_, ?_, ?_, ?_⟩
  all_goals
    intro hs
    simp only [planReturn, Txn.gated, Txn.gate_one ha, htouch, htouch', Except.ok_bind', Txn.names_number hn, hj, hs, planOf_pure]

end Read

/-- Settles O18. -/
theorem returnSettles : Obligations.ReturnSettles := by
  intro s t i n st hengaged hr hk hn ha hi hb d answer unchanged entry result
  have hanswer {p : Plan} (hp : planReturn s t = p) (hf : p.fault = none) : answer p :=
    State.runTxn_plan hengaged _ _ _ (by rw [hk]; rfl) hp hf
  have hplan (d1 : Draft) (x : Settled) (deadline : Option Nat) (slip : Option Slip) :
      returnPlan t d1 x deadline slip =
        { images := d1.images
          entry := some (entry { x.flags with trapped := deadline.isSome } x.borrower x.fine (deadline.getD 0))
          slip := slip
          shelfChanged := deadline.isSome
          result := result x.borrower x.fine deadline.isSome } := by
    simp only [returnPlan, Txn.entry, hr, Txn.at_admitted ha, Txn.names_number hn]
    rfl
  refine ⟨fun hj => ?_, fun j hj => ?_⟩
  · refine hanswer ((planReturn_absent hn ha hi hj).trans ?_) rfl
    simp only [returnUnchanged, Txn.names_number hn]
    rfl
  intro r deadline freed trapped
  obtain ⟨hshelf, hwithdrawn, hloan, hlost, honshelf⟩ := planReturn_found hn ha hi hb hj
  have hfreed {d1 : Draft} {x : Settled} (hp : planReturn s t = planOf (t.abandoned s) (returnItemRecord s t d1 j x))
      (hd : d1.item j = r) (hs : r.state ≠ some .onShelf) (hx : x.flags.trapped = false) :
      freed d1 x.flags x.borrower x.fine := by
    intro d2 hq hremove
    refine hanswer ?_ rfl
    rw [hp, returnItemRecord_frees (hd ▸ hq) (hd ▸ hs) hremove, planOf_ok, hplan, Option.isSome_none, EntryFlags.untrapped hx]
    rfl
  have htrapped {d1 : Draft} {x : Settled} (hp : planReturn s t = planOf (t.abandoned s) (returnItemRecord s t d1 j x))
      (hd : d1.item j = r) : trapped d1 x.flags x.borrower x.fine := by
    intro e rest head d2 hq hhead hinsert
    refine hanswer ?_ rfl
    have hrecord : d1.shelfInsert j ((d1.item j).trapped deadline) = .ok d2 := by
      have hqueue : (d1.item j).queue = r.queue := congrArg ItemRecord.queue hd
      rw [← hqueue] at hinsert
      exact hinsert
    rw [hp, returnItemRecord_traps (by rw [Txn.at_admitted ha]) (hd ▸ hq) hhead hrecord, planOf_ok, hplan]
    simp only [Txn.stationOf, hr, Txn.at_admitted ha, Txn.names_number hn]
    rfl
  refine ⟨fun hs => ?_, fun hs hse => ?_, fun se hs hse => ?_, fun hs => ?_, fun b hs hitem => ?_, fun b hs hitem => ?_⟩
  · refine hanswer ((hshelf hs).trans ?_) rfl
    simp only [returnUnchanged, Txn.names_number hn]
    rfl
  · exact hanswer ((hwithdrawn hs).trans (Txn.refuse_item_alone hn hr hse _)) rfl
  · exact hanswer ((hwithdrawn hs).trans (Txn.refuse_item hn hr hse _)) rfl
  · have := htrapped (honshelf hs) rfl
    rwa [Txn.marks_eq] at this
  · intro fine d1
    have hread := (hloan hs).trans (congrArg _ (returnOnLoan_charges s (Txn.at_admitted ha) hitem))
    have hfree := hfreed hread rfl (by rw [hs]; decide) t.marks_trapped
    have htrap := htrapped hread rfl
    exact ⟨hfree, htrap⟩
  · intro d1
    have hread := (hlost hs).trans (congrArg _ (returnLost_counts s hitem))
    have hfree := hfreed hread rfl (by rw [hs]; decide) t.marks_trapped
    have htrap := htrapped hread rfl
    exact ⟨hfree, htrap⟩

end Sys2Proof.Machine
end

section
/-! PROOF. Lookups (R44): a walk along a chain whose records pass the checks of R64. -/

namespace Sys2Proof.Machine

/-! ## Walks along a chain (R44, R64) -/

/-- The checks of a visit pass on a walkable record. -/
theorem Draft.visit_walkable {d : Draft} {t : TableName} {bucket i : Nat} (h : d.walkable t bucket i) :
    d.visit t bucket i = .ok (d.chainRecord t i) := by
  obtain ⟨_, hinside, huse, hbucket⟩ := h
  simp [Draft.visit, hinside, huse, Draft.bucket, hbucket]

/-- An index below a capacity is not the null index. -/
theorem ne_nullIndex {capacity i : Nat} (hcap : capacity ≤ 65534) (h : i < capacity) : i ≠ Config.nullIndex := by
  show i ≠ 65535
  omega

/-- One step of a walk at a walkable record. -/
theorem Draft.walk_step {d : Draft} {t : TableName} (stop : Nat → ChainRecord → Bool) {bucket i n field : Nat}
    (holder : Option Nat) (hcap : (d.header t).capacity ≤ 65534) (h : d.walkable t bucket i) :
    d.walk t stop bucket (n + 1) holder field i
      = if stop i (d.chainRecord t i) then .ok (some (holder, i))
        else d.walk t stop bucket n (some i) (d.address t i + chainOffset t) (d.chainRecord t i).next := by
  rw [Draft.walk, if_neg (ne_nullIndex hcap h.1), if_neg (Nat.not_le.2 h.1), Draft.visit_walkable h]

/-- At the end of the chain a walk has found nothing. -/
theorem Draft.walk_end (d : Draft) (t : TableName) (stop : Nat → ChainRecord → Bool) (bucket n field : Nat)
    (holder : Option Nat) : d.walk t stop bucket n holder field Config.nullIndex = .ok none := by
  cases n <;> rw [Draft.walk, if_pos rfl]

/-- A walk that is stopped by no record of the chain finds nothing. -/
theorem Draft.walk_passes {d : Draft} {t : TableName} {stop : Nat → ChainRecord → Bool} {bucket : Nat} {chain : List Nat}
    (hcap : (d.header t).capacity ≤ 65534) {n field start : Nat} {holder : Option Nat} (hlen : chain.length ≤ n)
    (hwalk : ∀ i ∈ chain, d.walkable t bucket i) (hchain : d.chained t start chain)
    (hstop : ∀ i ∈ chain, stop i (d.chainRecord t i) = false) : d.walk t stop bucket n holder field start = .ok none := by
  induction chain generalizing n field start holder with
  | nil => rw [show start = Config.nullIndex from hchain]; exact d.walk_end t stop bucket n field holder
  | cons i rest ih =>
    obtain ⟨rfl, hnext⟩ := hchain
    obtain ⟨hwi, hwrest⟩ := List.forall_mem_cons.1 hwalk
    obtain ⟨hsi, hsrest⟩ := List.forall_mem_cons.1 hstop
    obtain ⟨n, rfl⟩ := Nat.exists_eq_add_of_le' (Nat.le_trans (Nat.le_add_left 1 _) hlen)
    rw [Draft.walk_step stop holder hcap hwi, hsi]
    exact ih (Nat.le_of_succ_le_succ hlen) hwrest hnext hsrest

/-- A walk stops at the first record of the chain that stops it, and answers it with its predecessor. -/
theorem Draft.walk_stops {d : Draft} {t : TableName} {stop : Nat → ChainRecord → Bool} {bucket i : Nat}
    {before after : List Nat} (hcap : (d.header t).capacity ≤ 65534) {n field start : Nat} {holder : Option Nat}
    (hlen : (before ++ i :: after).length ≤ n) (hwalk : ∀ k ∈ before ++ i :: after, d.walkable t bucket k)
    (hchain : d.chained t start (before ++ i :: after)) (hpass : ∀ k ∈ before, stop k (d.chainRecord t k) = false)
    (hstop : stop i (d.chainRecord t i) = true) :
    d.walk t stop bucket n holder field start = .ok (some (before.getLast?.or holder, i)) := by
  induction before generalizing n field start holder with
  | nil =>
    obtain ⟨rfl, _⟩ := hchain
    obtain ⟨n, rfl⟩ := Nat.exists_eq_add_of_le' (Nat.le_trans (Nat.le_add_left 1 _) hlen)
    rw [Draft.walk_step stop holder hcap (hwalk _ (List.mem_cons_self ..)), hstop]
    rfl
  | cons k rest ih =>
    obtain ⟨rfl, hnext⟩ := hchain
    obtain ⟨hwk, hwrest⟩ := List.forall_mem_cons.1 hwalk
    obtain ⟨hpk, hprest⟩ := List.forall_mem_cons.1 hpass
    obtain ⟨n, rfl⟩ := Nat.exists_eq_add_of_le' (Nat.le_trans (Nat.le_add_left 1 _) hlen)
    rw [Draft.walk_step stop holder hcap hwk, hpk]
    refine (ih (Nat.le_of_succ_le_succ hlen) hwrest hnext hprest).trans ?_
    cases rest <;> simp [List.getLast?_cons]

/-- Settles O51. -/
theorem lookupsFindTheNumber : Obligations.LookupsFindTheNumber := by
  intro d t number chain hcap hlen hwalk hchain
  simp only [Draft.lookup, Draft.walkFrom, Draft.bucket]
  cases hfind : chain.find? fun i => (d.chainRecord t i).number == number with
  | none =>
    have hnone := List.find?_eq_none.1 hfind
    rw [Draft.walk_passes hcap hlen hwalk hchain fun i hi => by simpa using hnone i hi]
  | some i =>
    obtain ⟨hi, before, after, rfl, hbefore⟩ := List.find?_eq_some_iff_append.1 hfind
    rw [Draft.walk_stops hcap hlen hwalk hchain (fun k hk => by simpa using hbefore k hk) hi]

end Sys2Proof.Machine
end

section
/-! PROOF. The pool walk of a report (R64, R202). -/

namespace Sys2Proof.Machine

section Pool

variable {d : Draft} {pick : ReportPick} {chosen : Nat → Option (List Nat)} {a capacity : Nat}

/-- The entries of the first `i` records. -/
def entriesBefore (chosen : Nat → Option (List Nat)) (i : Nat) : List (List Nat) := (List.range i).filterMap chosen

/-- The tables with the entries of the first `i` records written at `a`, as many as the capacity holds. -/
def Draft.seenAt (d : Draft) (chosen : Nat → Option (List Nat)) (a capacity i : Nat) : Draft :=
  { d with mem := d.mem.apply (reportWrites a ((entriesBefore chosen i).take capacity)) }

/-- A record that passes the checks of R64, `e` its entry when it matches. -/
def Draft.picks (d : Draft) (pick : ReportPick) (i : Nat) (e : Option (List Nat)) : Prop :=
  d.inside .item i = true ∧ (d.item i).state ≠ none ∧ pick d i (d.item i) = .ok e

theorem entriesBefore_succ_none {i : Nat} (h : chosen i = none) : entriesBefore chosen (i + 1) = entriesBefore chosen i := by
  simp [entriesBefore, List.range_succ, h]

theorem entriesBefore_succ_some {i : Nat} {e : List Nat} (h : chosen i = some e) :
    entriesBefore chosen (i + 1) = entriesBefore chosen i ++ [e] := by
  simp [entriesBefore, List.range_succ, h]

theorem entriesBefore_prefix (chosen : Nat → Option (List Nat)) {i n : Nat} (h : i ≤ n) :
    entriesBefore chosen i <+: entriesBefore chosen n := by
  obtain ⟨k, rfl⟩ := Nat.exists_eq_add_of_le h
  exact ⟨((List.range k).map (i + ·)).filterMap chosen, by simp [entriesBefore, List.range_add]⟩

/-- A record that does not match is passed over. -/
theorem poolWalk_unmatched {i : Nat} (h : d.picks pick i none) (r : ReportRun) (n : Nat) :
    poolWalk d pick a capacity r i (n + 1) = poolWalk d pick a capacity r (i + 1) n := by
  obtain ⟨hinside, hstate, hpick⟩ := h
  simp [poolWalk, hinside, hstate, hpick]

/-- A record that matches while there is room has its entry written. -/
theorem poolWalk_written {i : Nat} {e : List Nat} (h : d.picks pick i (some e)) {es : List (List Nat)}
    (hroom : es.length < capacity) (n : Nat) :
    poolWalk d pick a capacity { entries := es } i (n + 1)
      = poolWalk (d.record a es.length e) pick a capacity { entries := es ++ [e] } (i + 1) n := by
  obtain ⟨hinside, hstate, hpick⟩ := h
  simp [poolWalk, hinside, hstate, hpick, ReportRun.add, hroom]

/-- A record that matches at the capacity ends the walk. -/
theorem poolWalk_truncated {i : Nat} {e : List Nat} (h : d.picks pick i (some e)) {es : List (List Nat)}
    (hfull : capacity ≤ es.length) (n : Nat) :
    poolWalk d pick a capacity { entries := es } i (n + 1) = { entries := es, truncated := true } := by
  obtain ⟨hinside, hstate, hpick⟩ := h
  simp [poolWalk, hinside, hstate, hpick, ReportRun.add, Nat.not_lt.2 hfull]

/-- The walk from record `i` on, the entries before it written. -/
theorem poolWalk_from {n : Nat} (hpick : ∀ i, i < n → (d.seenAt chosen a capacity i).picks pick i (chosen i)) (k : Nat)
    {i : Nat} (hi : i + k = n) (hroom : (entriesBefore chosen i).length ≤ capacity) :
    poolWalk (d.seenAt chosen a capacity i) pick a capacity { entries := entriesBefore chosen i } i k
      = { entries := (entriesBefore chosen n).take capacity
          truncated := decide (capacity < (entriesBefore chosen n).length) } := by
  induction k generalizing i with
  | zero =>
    obtain rfl : i = n := hi
    rw [List.take_of_length_le hroom, decide_eq_false (Nat.not_lt.2 hroom)]
    rfl
  | succ k ih =>
    have hthis := hpick i (by omega)
    cases hc : chosen i with
    | none =>
      have hseen : d.seenAt chosen a capacity (i + 1) = d.seenAt chosen a capacity i := by
        rw [Draft.seenAt, entriesBefore_succ_none hc, Draft.seenAt]
      rw [poolWalk_unmatched (hc ▸ hthis), ← hseen, ← entriesBefore_succ_none hc]
      exact ih (by omega) ((entriesBefore_succ_none hc).symm ▸ hroom)
    | some e =>
      have hmore := entriesBefore_succ_some hc
      by_cases hlt : (entriesBefore chosen i).length < capacity
      · have hroom' : (entriesBefore chosen (i + 1)).length ≤ capacity := by simpa [hmore] using hlt
        have hseen : (d.seenAt chosen a capacity i).record a (entriesBefore chosen i).length e
            = d.seenAt chosen a capacity (i + 1) := by
          rw [Draft.seenAt, Draft.seenAt, List.take_of_length_le hroom, List.take_of_length_le hroom', hmore,
            Draft.record_written]
        rw [poolWalk_written (hc ▸ hthis) hlt, hseen, ← hmore]
        exact ih (by omega) hroom'
      · have hfull : (entriesBefore chosen i).length = capacity := Nat.le_antisymm hroom (Nat.not_lt.1 hlt)
        have hall : entriesBefore chosen i = (entriesBefore chosen n).take capacity :=
          hfull ▸ List.prefix_iff_eq_take.1 (entriesBefore_prefix chosen (by omega))
        have hlonger : capacity < (entriesBefore chosen n).length := by
          have := (entriesBefore_prefix chosen (show i + 1 ≤ n by omega)).length_le
          rw [hmore, List.length_append, hfull] at this
          exact this
        rw [poolWalk_truncated (hc ▸ hthis) (Nat.le_of_eq hfull.symm), decide_eq_true hlonger, ← hall]

end Pool

/-- Settles O40. -/
theorem poolWalksListTheMatches : Obligations.PoolWalksListTheMatches := by
  intro d pick chosen a capacity n seen hpick
  have hstart : d.seenAt chosen a capacity 0 = d := by simp [Draft.seenAt, entriesBefore, reportWrites]
  have hwalk := poolWalk_from (d := d) hpick n (Nat.zero_add n) (Nat.zero_le _)
  rw [hstart] at hwalk
  exact hwalk

end Sys2Proof.Machine
end

section
/-! SUPPORT. A draft's records, bucket words and headers under its updates, in the order of the definitions of chapter 3. -/

namespace Sys2Proof.Machine

/-! ## The entries of a draft -/

@[simp] theorem lookup_assign_self {α : Type} (k : Nat) (v : α) (l : List (Nat × α)) : (assign k v l).lookup k = some v := by
  induction l with
  | nil => simp [assign]
  | cons x l ih =>
    obtain ⟨j, w⟩ := x
    by_cases h : j = k
    · simp [assign, h]
    · rw [assign, if_neg h, List.lookup_cons, beq_false_of_ne (Ne.symm h)]
      exact ih

theorem lookup_assign_other {α : Type} {j k : Nat} (h : j ≠ k) (v : α) (l : List (Nat × α)) :
    (assign k v l).lookup j = l.lookup j := by
  induction l with
  | nil => simp [assign, List.lookup, beq_false_of_ne h]
  | cons x l ih =>
    obtain ⟨i, w⟩ := x
    by_cases hi : i = k
    · rw [assign, if_pos hi, List.lookup_cons, List.lookup_cons, beq_false_of_ne h, beq_false_of_ne (hi ▸ h)]
    · rw [assign, if_neg hi, List.lookup_cons, List.lookup_cons, ih]

section Updates

variable (d : Draft)

/-! ## A record put -/

@[simp] theorem Draft.putItem_itemHeader (i : Nat) (r : ItemRecord) : (d.putItem i r).itemHeader = d.itemHeader := rfl
@[simp] theorem Draft.putItem_borrowerHeader (i : Nat) (r : ItemRecord) :
    (d.putItem i r).borrowerHeader = d.borrowerHeader := rfl
@[simp] theorem Draft.putItem_borrower (i k : Nat) (r : ItemRecord) : (d.putItem i r).borrower k = d.borrower k := rfl
@[simp] theorem Draft.putItem_bucketWord (i : Nat) (r : ItemRecord) (t : TableName) (c : Nat) :
    (d.putItem i r).bucketWord t c = d.bucketWord t c := rfl
@[simp] theorem Draft.putItem_item_self (i : Nat) (r : ItemRecord) : (d.putItem i r).item i = r := by
  simp [Draft.putItem, Draft.item]
theorem Draft.putItem_item_other {i k : Nat} (h : k ≠ i) (r : ItemRecord) : (d.putItem i r).item k = d.item k := by
  simp only [Draft.putItem, Draft.item, lookup_assign_other h]
  rfl

@[simp] theorem Draft.putBorrower_itemHeader (i : Nat) (r : BorrowerRecord) :
    (d.putBorrower i r).itemHeader = d.itemHeader := rfl
@[simp] theorem Draft.putBorrower_borrowerHeader (i : Nat) (r : BorrowerRecord) :
    (d.putBorrower i r).borrowerHeader = d.borrowerHeader := rfl
@[simp] theorem Draft.putBorrower_item (i k : Nat) (r : BorrowerRecord) : (d.putBorrower i r).item k = d.item k := rfl
@[simp] theorem Draft.putBorrower_bucketWord (i : Nat) (r : BorrowerRecord) (t : TableName) (c : Nat) :
    (d.putBorrower i r).bucketWord t c = d.bucketWord t c := rfl
@[simp] theorem Draft.putBorrower_borrower_self (i : Nat) (r : BorrowerRecord) : (d.putBorrower i r).borrower i = r := by
  simp [Draft.putBorrower, Draft.borrower]
theorem Draft.putBorrower_borrower_other {i k : Nat} (h : k ≠ i) (r : BorrowerRecord) :
    (d.putBorrower i r).borrower k = d.borrower k := by
  simp only [Draft.putBorrower, Draft.borrower, lookup_assign_other h]
  rfl

/-! ## A bucket word set -/

@[simp] theorem Draft.setBucketWord_itemHeader (t : TableName) (b v : Nat) :
    (d.setBucketWord t b v).itemHeader = d.itemHeader := rfl
@[simp] theorem Draft.setBucketWord_borrowerHeader (t : TableName) (b v : Nat) :
    (d.setBucketWord t b v).borrowerHeader = d.borrowerHeader := rfl
@[simp] theorem Draft.setBucketWord_item (t : TableName) (b v k : Nat) : (d.setBucketWord t b v).item k = d.item k := rfl
@[simp] theorem Draft.setBucketWord_borrower (t : TableName) (b v k : Nat) :
    (d.setBucketWord t b v).borrower k = d.borrower k := rfl
@[simp] theorem Draft.setBucketWord_self (t : TableName) (b v : Nat) : (d.setBucketWord t b v).bucketWord t b = v := by
  show ((assign _ _ _).lookup _).getD _ = _
  rw [show (d.setBucketWord t b v).bucketAddress t b = d.bucketAddress t b from rfl, lookup_assign_self]
  rfl
theorem Draft.setBucketWord_other {t u : TableName} {b c : Nat} (h : d.bucketAddress u c ≠ d.bucketAddress t b) (v : Nat) :
    (d.setBucketWord t b v).bucketWord u c = d.bucketWord u c := by
  show ((assign _ _ _).lookup _).getD _ = _
  rw [show (d.setBucketWord t b v).bucketAddress u c = d.bucketAddress u c from rfl, lookup_assign_other h]
  rfl

/-- The bucket words of one table lie at addresses of their own. -/
theorem Draft.bucketAddress_ne {b c : Nat} (t : TableName) (h : c ≠ b) : d.bucketAddress t c ≠ d.bucketAddress t b := by
  simp only [Draft.bucketAddress, Machine.bucketAddress]
  omega

/-! ## A header set -/

@[simp] theorem Draft.setHeader_itemHeader (h : Header) : (d.setHeader .item h).itemHeader = h := rfl
@[simp] theorem Draft.setHeader_borrowerHeader (h : Header) : (d.setHeader .borrower h).borrowerHeader = h := rfl
@[simp] theorem Draft.setHeader_item_borrowerHeader (h : Header) :
    (d.setHeader .item h).borrowerHeader = d.borrowerHeader := rfl
@[simp] theorem Draft.setHeader_borrower_itemHeader (h : Header) :
    (d.setHeader .borrower h).itemHeader = d.itemHeader := rfl
@[simp] theorem Draft.setHeader_bucketWord (t u : TableName) (h : Header) (c : Nat) :
    (d.setHeader t h).bucketWord u c = d.bucketWord u c := by cases t <;> rfl

/-- A header set with the exponent it had leaves every record where it was. -/
theorem Draft.setHeader_item {t : TableName} {h : Header} (he : h.exponent = (d.header t).exponent) (k : Nat) :
    (d.setHeader t h).item k = d.item k := by
  cases t with
  | item =>
    replace he : h.exponent = d.itemHeader.exponent := he
    simp only [Draft.setHeader, Draft.item, Draft.address, Draft.header, he]
  | borrower => rfl

theorem Draft.setHeader_borrower {t : TableName} {h : Header} (he : h.exponent = (d.header t).exponent) (k : Nat) :
    (d.setHeader t h).borrower k = d.borrower k := by
  cases t with
  | item => rfl
  | borrower =>
    replace he : h.exponent = d.borrowerHeader.exponent := he
    simp only [Draft.setHeader, Draft.borrower, Draft.address, Draft.header, he]

/-! ## A chain's link set -/

@[simp] theorem Draft.header_item : d.header .item = d.itemHeader := rfl
@[simp] theorem Draft.header_borrower : d.header .borrower = d.borrowerHeader := rfl
@[simp] theorem Draft.setChainNext_item (i next : Nat) :
    d.setChainNext .item i next = d.putItem i { d.item i with chainNext := next } := rfl
@[simp] theorem Draft.setChainNext_borrower (i next : Nat) :
    d.setChainNext .borrower i next = d.putBorrower i { d.borrower i with chainNext := next } := rfl

/-- The predecessor of a record in its chain, or the bucket word `b`, points at `next` (R47, steps 1 and 3). -/
def Draft.bypass (t : TableName) (b : Nat) (pred : Option Nat) (next : Nat) : Draft :=
  match pred with
  | none => d.setBucketWord t b next
  | some p => d.setChainNext t p next

@[simp] theorem Draft.bypass_none (t : TableName) (b next : Nat) : d.bypass t b none next = d.setBucketWord t b next := rfl
@[simp] theorem Draft.bypass_some (t : TableName) (b p next : Nat) : d.bypass t b (some p) next = d.setChainNext t p next := rfl
@[simp] theorem Draft.bypass_header (t u : TableName) (b : Nat) (pred : Option Nat) (next : Nat) :
    (d.bypass t b pred next).header u = d.header u := by
  cases pred <;> cases t <;> cases u <;> rfl

theorem Draft.bypass_item_other (b next : Nat) {pred : Option Nat} {k : Nat} (h : pred ≠ some k) :
    (d.bypass .item b pred next).item k = d.item k := by
  cases pred with
  | none => rfl
  | some p => exact d.putItem_item_other (fun hk => h (congrArg some hk.symm)) _

theorem Draft.bypass_borrower_other (b next : Nat) {pred : Option Nat} {k : Nat} (h : pred ≠ some k) :
    (d.bypass .borrower b pred next).borrower k = d.borrower k := by
  cases pred with
  | none => rfl
  | some p => exact d.putBorrower_borrower_other (fun hk => h (congrArg some hk.symm)) _

@[simp] theorem Draft.bypass_item_borrower (b next : Nat) (pred : Option Nat) (k : Nat) :
    (d.bypass .item b pred next).borrower k = d.borrower k := by cases pred <;> rfl

@[simp] theorem Draft.bypass_borrower_item (b next : Nat) (pred : Option Nat) (k : Nat) :
    (d.bypass .borrower b pred next).item k = d.item k := by cases pred <;> rfl

theorem Draft.bypass_bucketWord_other {t u : TableName} {b c : Nat} (h : d.bucketAddress u c ≠ d.bucketAddress t b)
    (pred : Option Nat) (next : Nat) : (d.bypass t b pred next).bucketWord u c = d.bucketWord u c := by
  cases pred with
  | none => exact d.setBucketWord_other h next
  | some p => cases t <;> rfl

@[simp] theorem Draft.bypass_some_bucketWord (t u : TableName) (b p next c : Nat) :
    (d.bypass t b (some p) next).bucketWord u c = d.bucketWord u c := by cases t <;> rfl

@[simp] theorem Draft.bypass_none_bucketWord (t : TableName) (b next : Nat) :
    (d.bypass t b none next).bucketWord t b = next := d.setBucketWord_self t b next

@[simp] theorem Draft.bypass_item_self (b p next : Nat) :
    (d.bypass .item b (some p) next).item p = { d.item p with chainNext := next } := d.putItem_item_self p _

@[simp] theorem Draft.bypass_borrower_self (b p next : Nat) :
    (d.bypass .borrower b (some p) next).borrower p = { d.borrower p with chainNext := next } := d.putBorrower_borrower_self p _

/-- The draft once record `i` has left its chain and is the head of the free list (R47, steps 1, 3 and 4). -/
def Draft.detach (t : TableName) (b i : Nat) (pred : Option Nat) (next : Nat) : Draft :=
  (d.bypass t b pred next).setHeader t { d.header t with records := (d.header t).records - 1, freeHead := i }

@[simp] theorem Draft.detach_item (t : TableName) (b i : Nat) (pred : Option Nat) (next k : Nat) :
    (d.detach t b i pred next).item k = (d.bypass t b pred next).item k :=
  Draft.setHeader_item _ (by rw [Draft.bypass_header]) k

@[simp] theorem Draft.detach_borrower (t : TableName) (b i : Nat) (pred : Option Nat) (next k : Nat) :
    (d.detach t b i pred next).borrower k = (d.bypass t b pred next).borrower k :=
  Draft.setHeader_borrower _ (by rw [Draft.bypass_header]) k

@[simp] theorem Draft.detach_bucketWord (t u : TableName) (b i : Nat) (pred : Option Nat) (next c : Nat) :
    (d.detach t b i pred next).bucketWord u c = (d.bypass t b pred next).bucketWord u c :=
  Draft.setHeader_bucketWord ..

end Updates

end Sys2Proof.Machine
end

section
/-! PROOF. The free list, insertion and removal (R46, R47), and the images of an insertion (R55, R58). -/

namespace Sys2Proof.Machine

/-! ## The free list -/

theorem indexOk_iff (capacity i : Nat) : indexOk capacity i = true ↔ i = 0xFFFF ∨ i < capacity := by
  simp [indexOk, Config.nullIndex]

theorem Draft.takeFree_empty {d : Draft} {t : TableName} (h : (d.header t).freeHead = 0xFFFF) : d.takeFree t = .ok none := by
  simp only [Draft.takeFree, Config.nullIndex, h, if_true]

theorem Draft.takeFree_head {d : Draft} {t : TableName} (hne : (d.header t).freeHead ≠ 0xFFFF)
    (hlt : (d.header t).freeHead < (d.header t).capacity) (hinside : d.inside t (d.header t).freeHead = true)
    (hfree : (d.chainRecord t (d.header t).freeHead).inUse = some false)
    (hnext : indexOk (d.header t).capacity (d.chainRecord t (d.header t).freeHead).next = true) :
    d.takeFree t = .ok (some ((d.header t).freeHead, (d.chainRecord t (d.header t).freeHead).next)) := by
  simp [Draft.takeFree, Config.nullIndex, hne, Nat.not_le.2 hlt, hinside, hfree, hnext]

/-! ## Insertion -/

/-- The link of a new record changes its bucket word and the header of its table alone. -/
@[simp] theorem Draft.link_item (d : Draft) (t : TableName) (number i next k : Nat) :
    (d.link t number i next).item k = d.item k :=
  Draft.setHeader_item (d.setBucketWord t (d.bucket t number) i) (by cases t <;> rfl) k

@[simp] theorem Draft.link_borrower (d : Draft) (t : TableName) (number i next k : Nat) :
    (d.link t number i next).borrower k = d.borrower k :=
  Draft.setHeader_borrower (d.setBucketWord t (d.bucket t number) i) (by cases t <;> rfl) k

@[simp] theorem Draft.link_bucketWord_self (d : Draft) (t : TableName) (number i next : Nat) :
    (d.link t number i next).bucketWord t (d.bucket t number) = i :=
  (Draft.setHeader_bucketWord _ _ _ _ _).trans (Draft.setBucketWord_self _ _ _ _)

theorem Draft.link_bucketWord_other {d : Draft} {t u : TableName} {number c : Nat}
    (h : d.bucketAddress u c ≠ d.bucketAddress t (d.bucket t number)) (i next : Nat) :
    (d.link t number i next).bucketWord u c = d.bucketWord u c :=
  (Draft.setHeader_bucketWord _ _ _ _ _).trans (Draft.setBucketWord_other _ h _)

theorem Draft.insertItem_spec (d : Draft) (i next : Nat) (r : ItemRecord) :
    let e := d.insertItem i next r
    let b := r.number % 2 ^ d.itemHeader.exponent
    e.item i = { r with count := (d.item i).count, chainNext := d.bucketWord .item b } ∧
      e.bucketWord .item b = i ∧ e.itemHeader = { d.itemHeader with records := d.itemHeader.records + 1, freeHead := next } ∧
      (∀ k, k ≠ i → e.item k = d.item k) ∧ (∀ c, c ≠ b → e.bucketWord .item c = d.bucketWord .item c) ∧
      (∀ k, e.borrower k = d.borrower k) ∧ e.borrowerHeader = d.borrowerHeader ∧
      (∀ c, d.bucketAddress .borrower c ≠ d.bucketAddress .item b → e.bucketWord .borrower c = d.bucketWord .borrower c) := by
  intro e b
  exact ⟨(Draft.link_item ..).trans (d.putItem_item_self i _), Draft.link_bucketWord_self .., rfl,
    fun k hk => (Draft.link_item ..).trans (d.putItem_item_other hk _),
    fun c hc => Draft.link_bucketWord_other (d := d.putItem i _) (d.bucketAddress_ne .item hc) i next,
    fun k => (Draft.link_borrower ..).trans (d.putItem_borrower ..), rfl,
    fun c hc => Draft.link_bucketWord_other (d := d.putItem i _) hc i next⟩

theorem Draft.insertBorrower_spec (d : Draft) (i next : Nat) (r : BorrowerRecord) :
    let e := d.insertBorrower i next r
    let b := r.number % 2 ^ d.borrowerHeader.exponent
    e.borrower i = { r with count := (d.borrower i).count, chainNext := d.bucketWord .borrower b } ∧
      e.bucketWord .borrower b = i ∧
      e.borrowerHeader = { d.borrowerHeader with records := d.borrowerHeader.records + 1, freeHead := next } ∧
      (∀ k, k ≠ i → e.borrower k = d.borrower k) ∧
      (∀ c, c ≠ b → e.bucketWord .borrower c = d.bucketWord .borrower c) ∧
      (∀ k, e.item k = d.item k) ∧ e.itemHeader = d.itemHeader ∧
      (∀ c, d.bucketAddress .item c ≠ d.bucketAddress .borrower b → e.bucketWord .item c = d.bucketWord .item c) := by
  intro e b
  exact ⟨(Draft.link_borrower ..).trans (d.putBorrower_borrower_self i _), Draft.link_bucketWord_self .., rfl,
    fun k hk => (Draft.link_borrower ..).trans (d.putBorrower_borrower_other hk _),
    fun c hc => Draft.link_bucketWord_other (d := d.putBorrower i _) (d.bucketAddress_ne .borrower hc) i next,
    fun k => (Draft.link_item ..).trans (d.putBorrower_item ..), rfl,
    fun c hc => Draft.link_bucketWord_other (d := d.putBorrower i _) hc i next⟩

/-- The images of an insertion into the item table: the record, the bucket word, the header. -/
theorem Draft.insertItem_images (s : State) (i next : Nat) (r : ItemRecord) :
    let e := s.tables.insertItem i next r
    e.images = [countedImage (s.tables.address .item i) (e.item i).words,
      { target := s.geometry.itemTable + 16 + 2 * (r.number % 2 ^ s.tables.itemHeader.exponent), counted := false, words := [i] },
      countedImage s.geometry.itemTable e.itemHeader.words] := by
  intro e
  rw [(s.tables.insertItem_spec i next r).1]
  rfl

theorem Draft.insertBorrower_images (s : State) (i next : Nat) (r : BorrowerRecord) :
    let e := s.tables.insertBorrower i next r
    e.images = [countedImage (s.tables.address .borrower i) (e.borrower i).words,
      { target := s.geometry.borrowerTable + 16 + 2 * (r.number % 2 ^ s.tables.borrowerHeader.exponent), counted := false,
        words := [i] },
      countedImage s.geometry.borrowerTable e.borrowerHeader.words] := by
  intro e
  rw [(s.tables.insertBorrower_spec i next r).1]
  rfl

/-! ## Removal -/

/-- The index behind a record of a walkable chain is null or below the capacity. -/
theorem Draft.chained_next {d : Draft} {t : TableName} {b i start : Nat} {before after : List Nat}
    (hchain : d.chained t start (before ++ i :: after)) (hwalk : ∀ k ∈ after, d.walkable t b k) :
    indexOk (d.header t).capacity (d.chainRecord t i).next = true := by
  induction before generalizing start with
  | nil =>
    obtain ⟨_, hrest⟩ := hchain
    rw [indexOk_iff]
    cases after with
    | nil => exact .inl hrest
    | cons k after => exact .inr (hrest.1 ▸ (hwalk k (List.mem_cons_self ..)).1)
  | cons k before ih => exact ih hchain.2

/-- A record of a sound chain leaves it: its predecessor, or the bucket word, takes its next index, and the free list its own. -/
theorem Draft.unlink_chain {d : Draft} {t : TableName} {number i : Nat} {before after : List Nat}
    (hcap : (d.header t).capacity ≤ 65534) (hlen : (before ++ i :: after).length ≤ (d.header t).capacity)
    (hnodup : (before ++ i :: after).Nodup) (hwalk : ∀ k ∈ before ++ i :: after, d.walkable t (d.bucket t number) k)
    (hchain : d.chained t (d.bucketWord t (d.bucket t number)) (before ++ i :: after)) :
    d.unlink t number i
      = .ok (d.detach t (d.bucket t number) i before.getLast? (d.chainRecord t i).next) := by
  have hbefore : ∀ k ∈ before, (k == i) = false := fun k hk => by
    have hne := (List.nodup_append.1 hnodup).2.2 k hk i (List.mem_cons_self ..)
    simpa using hne
  have hfound : d.walkFrom t number (fun k _ => k == i) = .ok (some (before.getLast?, i)) := by
    rw [Draft.walkFrom, Draft.walk_stops (before := before) (i := i) (after := after) hcap hlen hwalk hchain hbefore (by simp),
      Option.or_none]
  have hnext := Draft.chained_next hchain fun k hk => hwalk k (by simp [hk])
  rw [Draft.unlink, hfound]
  simp only [hnext, Bool.not_true, Bool.false_eq_true, if_false]
  cases before.getLast? <;> rfl

/-- The last record before another of a list without repetitions is not that one. -/
theorem getLast?_ne_of_nodup {i p : Nat} {before after : List Nat} (hnodup : (before ++ i :: after).Nodup)
    (hp : before.getLast? = some p) : p ≠ i :=
  (List.nodup_append.1 hnodup).2.2 p (List.mem_of_getLast? hp) i (List.mem_cons_self ..)

theorem Draft.removeItem_spec {d : Draft} {i b : Nat} {before after : List Nat} (hcap : d.itemHeader.capacity ≤ 65534)
    (hlen : (before ++ i :: after).length ≤ d.itemHeader.capacity) (hnodup : (before ++ i :: after).Nodup)
    (hb : (d.item i).number % 2 ^ d.itemHeader.exponent = b) (hwalk : ∀ k ∈ before ++ i :: after, d.walkable .item b k)
    (hchain : d.chained .item (d.bucketWord .item b) (before ++ i :: after)) :
    ∃ e, d.removeItem i = .ok e ∧ e.item i = (d.item i).freed d.itemHeader.freeHead ∧
      e.itemHeader = { d.itemHeader with records := d.itemHeader.records - 1, freeHead := i } ∧
      (before = [] → e.bucketWord .item b = (d.item i).chainNext) ∧
      (∀ p, before.getLast? = some p →
        e.item p = { d.item p with chainNext := (d.item i).chainNext } ∧ e.bucketWord .item b = d.bucketWord .item b) ∧
      (∀ k, k ≠ i → before.getLast? ≠ some k → e.item k = d.item k) ∧
      (∀ c, c ≠ b → e.bucketWord .item c = d.bucketWord .item c) ∧
      (∀ k, e.borrower k = d.borrower k) ∧ e.borrowerHeader = d.borrowerHeader ∧
      (∀ c, d.bucketAddress .borrower c ≠ d.bucketAddress .item b → e.bucketWord .borrower c = d.bucketWord .borrower c) := by
  subst hb
  have hunlink := Draft.unlink_chain (t := .item) (number := (d.item i).number) hcap hlen hnodup hwalk hchain
  refine ⟨_, by rw [Draft.removeItem, hunlink], Draft.putItem_item_self .., rfl, fun hnil => ?_, fun p hp => ⟨?_, ?_⟩,
    fun k hk hlast => ?_, fun c hc => ?_, fun k => ?_, ?_, fun c hc => ?_⟩
  · simp only [Draft.putItem_bucketWord, Draft.detach_bucketWord, hnil, List.getLast?_nil]
    exact d.bypass_none_bucketWord ..
  · rw [Draft.putItem_item_other _ (getLast?_ne_of_nodup hnodup hp), Draft.detach_item, hp]
    exact d.bypass_item_self ..
  · rw [Draft.putItem_bucketWord, Draft.detach_bucketWord, hp]
    exact d.bypass_some_bucketWord ..
  · rw [Draft.putItem_item_other _ hk, Draft.detach_item, d.bypass_item_other _ _ hlast]
  · rw [Draft.putItem_bucketWord, Draft.detach_bucketWord]
    exact d.bypass_bucketWord_other (d.bucketAddress_ne .item hc) ..
  · rw [Draft.putItem_borrower, Draft.detach_borrower, Draft.bypass_item_borrower]
  · exact d.bypass_header .item .borrower ..
  · rw [Draft.putItem_bucketWord, Draft.detach_bucketWord]
    exact d.bypass_bucketWord_other hc ..

theorem Draft.removeBorrower_spec {d : Draft} {i b : Nat} {before after : List Nat}
    (hcap : d.borrowerHeader.capacity ≤ 65534) (hlen : (before ++ i :: after).length ≤ d.borrowerHeader.capacity)
    (hnodup : (before ++ i :: after).Nodup) (hb : (d.borrower i).number % 2 ^ d.borrowerHeader.exponent = b)
    (hwalk : ∀ k ∈ before ++ i :: after, d.walkable .borrower b k)
    (hchain : d.chained .borrower (d.bucketWord .borrower b) (before ++ i :: after)) :
    ∃ e, d.removeBorrower i = .ok e ∧ e.borrower i = (d.borrower i).freed d.borrowerHeader.freeHead ∧
      e.borrowerHeader = { d.borrowerHeader with records := d.borrowerHeader.records - 1, freeHead := i } ∧
      (before = [] → e.bucketWord .borrower b = (d.borrower i).chainNext) ∧
      (∀ p, before.getLast? = some p →
        e.borrower p = { d.borrower p with chainNext := (d.borrower i).chainNext } ∧
          e.bucketWord .borrower b = d.bucketWord .borrower b) ∧
      (∀ k, k ≠ i → before.getLast? ≠ some k → e.borrower k = d.borrower k) ∧
      (∀ c, c ≠ b → e.bucketWord .borrower c = d.bucketWord .borrower c) ∧
      (∀ k, e.item k = d.item k) ∧ e.itemHeader = d.itemHeader ∧
      (∀ c, d.bucketAddress .item c ≠ d.bucketAddress .borrower b → e.bucketWord .item c = d.bucketWord .item c) := by
  subst hb
  have hunlink := Draft.unlink_chain (t := .borrower) (number := (d.borrower i).number) hcap hlen hnodup hwalk hchain
  refine ⟨_, by rw [Draft.removeBorrower, hunlink], Draft.putBorrower_borrower_self .., rfl, fun hnil => ?_,
    fun p hp => ⟨?_, ?_⟩, fun k hk hlast => ?_, fun c hc => ?_, fun k => ?_, ?_, fun c hc => ?_⟩
  · simp only [Draft.putBorrower_bucketWord, Draft.detach_bucketWord, hnil, List.getLast?_nil]
    exact d.bypass_none_bucketWord ..
  · rw [Draft.putBorrower_borrower_other _ (getLast?_ne_of_nodup hnodup hp), Draft.detach_borrower, hp]
    exact d.bypass_borrower_self ..
  · rw [Draft.putBorrower_bucketWord, Draft.detach_bucketWord, hp]
    exact d.bypass_some_bucketWord ..
  · rw [Draft.putBorrower_borrower_other _ hk, Draft.detach_borrower, d.bypass_borrower_other _ _ hlast]
  · rw [Draft.putBorrower_bucketWord, Draft.detach_bucketWord]
    exact d.bypass_bucketWord_other (d.bucketAddress_ne .borrower hc) ..
  · rw [Draft.putBorrower_item, Draft.detach_item, Draft.bypass_borrower_item]
  · exact d.bypass_header .borrower .item ..
  · rw [Draft.putBorrower_bucketWord, Draft.detach_bucketWord]
    exact d.bypass_bucketWord_other hc ..

end Sys2Proof.Machine
end

section
/-! PROOF. The hold shelf list (R53, R54), and how the tables change. -/

namespace Sys2Proof.Machine

/-! ## A link of the list set -/

section Link

variable (d : Draft)

@[simp] theorem Draft.setShelfNext_borrower (pred : Option Nat) (next k : Nat) :
    (d.setShelfNext pred next).borrower k = d.borrower k := by cases pred <;> rfl

@[simp] theorem Draft.setShelfNext_borrowerHeader (pred : Option Nat) (next : Nat) :
    (d.setShelfNext pred next).borrowerHeader = d.borrowerHeader := by cases pred <;> rfl

@[simp] theorem Draft.setShelfNext_bucketWord (pred : Option Nat) (next : Nat) (t : TableName) (c : Nat) :
    (d.setShelfNext pred next).bucketWord t c = d.bucketWord t c := by cases pred <;> rfl

@[simp] theorem Draft.setShelfNext_itemHeader (pred : Option Nat) (next : Nat) :
    (d.setShelfNext pred next).itemHeader
      = { d.itemHeader with shelfHead := if pred = none then next else d.itemHeader.shelfHead } := by
  cases pred <;> simp [Draft.setShelfNext]

@[simp] theorem Draft.setShelfNext_item_self (p next : Nat) :
    (d.setShelfNext (some p) next).item p = { d.item p with shelfNext := next } := d.putItem_item_self p _

theorem Draft.setShelfNext_item_other {pred : Option Nat} {k : Nat} (h : pred ≠ some k) (next : Nat) :
    (d.setShelfNext pred next).item k = d.item k := by
  cases pred with
  | none => exact d.setHeader_item (t := .item) (h := { d.itemHeader with shelfHead := next }) rfl k
  | some p => exact d.putItem_item_other (fun hk => h (congrArg some hk.symm)) _

/-- The shelf count and the shelf tail set (R53, R54). -/
def Draft.setShelfEnd (count tail : Nat) : Draft :=
  d.setHeader .item { d.itemHeader with shelfCount := count, shelfTail := tail }

@[simp] theorem Draft.setShelfEnd_item (count tail k : Nat) : (d.setShelfEnd count tail).item k = d.item k :=
  d.setHeader_item (t := .item) (h := { d.itemHeader with shelfCount := count, shelfTail := tail }) rfl k

@[simp] theorem Draft.setShelfEnd_itemHeader (count tail : Nat) :
    (d.setShelfEnd count tail).itemHeader = { d.itemHeader with shelfCount := count, shelfTail := tail } := rfl

@[simp] theorem Draft.setShelfEnd_borrower (count tail k : Nat) : (d.setShelfEnd count tail).borrower k = d.borrower k := rfl

@[simp] theorem Draft.setShelfEnd_borrowerHeader (count tail : Nat) :
    (d.setShelfEnd count tail).borrowerHeader = d.borrowerHeader := rfl

@[simp] theorem Draft.setShelfEnd_bucketWord (count tail : Nat) (t : TableName) (c : Nat) :
    (d.setShelfEnd count tail).bucketWord t c = d.bucketWord t c := Draft.setHeader_bucketWord ..

end Link

/-! ## A walk of the list -/

/-- A record that passes the checks of a shelf walk, but for its deadline (R64). -/
def Draft.onShelf (d : Draft) (i : Nat) : Prop :=
  i < d.itemHeader.capacity ∧ d.inside .item i = true ∧ (d.item i).state = some .onHoldShelf ∧ (d.item i).queue ≠ []

theorem Draft.seekShelf_end {d : Draft} (stop : Nat → ItemRecord → Bool) {pred : Option Nat} (previous field : Nat)
    (htail : pred.getD Config.nullIndex = d.itemHeader.shelfTail) :
    d.seekShelf stop 0 pred previous field Config.nullIndex = .ok (pred, none) := by
  rw [Draft.seekShelf, if_pos rfl, if_neg (by simp [htail])]

theorem Draft.seekShelf_step {d : Draft} (stop : Nat → ItemRecord → Bool) {i previous : Nat} (n field : Nat)
    (pred : Option Nat) (hcap : d.itemHeader.capacity ≤ 65534) (h : d.onShelf i) (hdeadline : previous ≤ (d.item i).deadline) :
    d.seekShelf stop (n + 1) pred previous field i
      = if stop i (d.item i) then .ok (pred, some i)
        else d.seekShelf stop n (some i) (d.item i).deadline (d.address .item i + 26) (d.item i).shelfNext := by
  obtain ⟨hlt, hinside, hstate, hqueue⟩ := h
  rw [Draft.seekShelf, if_neg (ne_nullIndex hcap hlt), if_neg (Nat.not_le.2 hlt)]
  simp [hinside, shelfRecordOk, hstate, hqueue, hdeadline]

/-- A walk of a sound list stops at the first record that stops it, or at its end; it answers the predecessor too. -/
theorem Draft.seekShelf_splits {d : Draft} {stop : Nat → ItemRecord → Bool} {before after : List Nat}
    (hcap : d.itemHeader.capacity ≤ 65534) {start previous field : Nat} {pred : Option Nat}
    (hlist : d.shelved start (before ++ after)) (hgood : ∀ k ∈ before ++ after, d.onShelf k)
    (hsorted : (before ++ after).Pairwise fun i j => (d.item i).deadline ≤ (d.item j).deadline)
    (hprevious : ∀ k ∈ before ++ after, previous ≤ (d.item k).deadline)
    (htail : ((before ++ after).getLast?.or pred).getD Config.nullIndex = d.itemHeader.shelfTail)
    (hpass : ∀ k ∈ before, stop k (d.item k) = false) (hstop : ∀ k, after.head? = some k → stop k (d.item k) = true) :
    d.seekShelf stop (before ++ after).length pred previous field start = .ok (before.getLast?.or pred, after.head?) := by
  induction before generalizing start previous field pred with
  | nil =>
    cases after with
    | nil =>
      obtain rfl : start = Config.nullIndex := hlist
      exact d.seekShelf_end stop previous field htail
    | cons k rest =>
      obtain ⟨rfl, _⟩ := hlist
      have hk : start ∈ [] ++ start :: rest := List.mem_cons_self ..
      rw [List.nil_append, List.length_cons, Draft.seekShelf_step stop _ field pred hcap (hgood _ hk) (hprevious _ hk),
        hstop start rfl]
      rfl
  | cons k rest ih =>
    obtain ⟨rfl, hnext⟩ := hlist
    obtain ⟨hgk, hgrest⟩ := List.forall_mem_cons.1 hgood
    obtain ⟨hpk, hprest⟩ := List.forall_mem_cons.1 hpass
    obtain ⟨hsk, hsrest⟩ := List.pairwise_cons.1 hsorted
    have hlast (xs : List Nat) : (start :: xs).getLast?.or pred = xs.getLast?.or (some start) := by
      cases xs <;> simp [List.getLast?_cons]
    rw [List.cons_append, List.length_cons,
      Draft.seekShelf_step stop _ field pred hcap hgk (hprevious _ (List.mem_cons_self ..)), hpk, hlast]
    exact ih hnext hgrest hsrest hsk (hlast (rest ++ after) ▸ htail) hprest

/-- A walk from the shelf head of a sound list. -/
theorem Draft.seekShelfFromHead_splits {d : Draft} {stop : Nat → ItemRecord → Bool} {before after : List Nat}
    (hlist : d.shelfList (before ++ after)) (hpass : ∀ k ∈ before, stop k (d.item k) = false)
    (hstop : ∀ k, after.head? = some k → stop k (d.item k) = true) :
    d.seekShelfFromHead stop = .ok (before.getLast?, after.head?) := by
  obtain ⟨hshelved, hcount, htail, hcap, _, hgood, hsorted⟩ := hlist
  rw [Draft.seekShelfFromHead, ← hcount, Draft.seekShelf_splits (pred := none) hcap hshelved hgood hsorted
    (fun _ _ => Nat.zero_le _) (by rw [Option.or_none, htail]) hpass hstop, Option.or_none]

/-! ## Insertion (R53) -/

/-- An insertion whose place has been found. -/
theorem Draft.shelfInsert_found {d : Draft} {i : Nat} {r : ItemRecord} {pred found : Option Nat}
    (h : d.seekShelfFromHead (fun _ q => decide (r.deadline < q.deadline)) = .ok (pred, found)) :
    d.shelfInsert i r
      = .ok (((d.putItem i { r with shelfNext := found.getD 0xFFFF }).setShelfNext pred i).setShelfEnd
          (d.itemHeader.shelfCount + 1) (if found.isNone then i else d.itemHeader.shelfTail)) := by
  rw [Draft.shelfInsert, h]
  rfl

theorem Draft.shelfInsert_spec {d : Draft} {i : Nat} {r : ItemRecord} {before after : List Nat}
    (hlist : d.shelfList (before ++ after)) (hnew : i ∉ before ++ after)
    (hbefore : ∀ k ∈ before, (d.item k).deadline ≤ r.deadline) (hafter : ∀ k ∈ after, r.deadline < (d.item k).deadline) :
    ∃ e, d.shelfInsert i r = .ok e ∧
      e.item i = { r with shelfNext := after.headD 0xFFFF } ∧
      (∀ p, before.getLast? = some p → e.item p = { d.item p with shelfNext := i }) ∧
      (∀ k, k ≠ i → before.getLast? ≠ some k → e.item k = d.item k) ∧
      e.itemHeader
        = { d.itemHeader with
            shelfCount := d.itemHeader.shelfCount + 1
            shelfHead := if before = [] then i else d.itemHeader.shelfHead
            shelfTail := if after = [] then i else d.itemHeader.shelfTail } ∧
      (∀ k, e.borrower k = d.borrower k) ∧ e.borrowerHeader = d.borrowerHeader ∧
      ∀ t c, e.bucketWord t c = d.bucketWord t c := by
  have hseek := Draft.seekShelfFromHead_splits (stop := fun _ q => decide (r.deadline < q.deadline)) hlist
    (fun k hk => decide_eq_false (Nat.not_lt.2 (hbefore k hk)))
    (fun k hk => decide_eq_true (hafter k (List.mem_of_mem_head? hk)))
  have hlast {p : Nat} (hp : before.getLast? = some p) : p ≠ i := fun h =>
    hnew (h ▸ List.mem_append_left _ (List.mem_of_getLast? hp))
  refine ⟨_, Draft.shelfInsert_found hseek, ?_, fun p hp => ?_, fun k hk hne => ?_, ?_, fun k => ?_, ?_, fun t c => ?_⟩
  · rw [Draft.setShelfEnd_item, Draft.setShelfNext_item_other _ (fun h => hlast h rfl), Draft.putItem_item_self,
      List.headD_eq_head?_getD]
  · rw [Draft.setShelfEnd_item, hp, Draft.setShelfNext_item_self, Draft.putItem_item_other _ (hlast hp)]
  · rw [Draft.setShelfEnd_item, Draft.setShelfNext_item_other _ hne, Draft.putItem_item_other _ hk]
  · simp
  · simp
  · simp
  · simp

/-! ## Removal (R54) -/

/-- The index behind a record of a sound list is null or below the capacity. -/
theorem Draft.shelved_next {d : Draft} {start i : Nat} {before after : List Nat}
    (hlist : d.shelved start (before ++ i :: after)) (hgood : ∀ k ∈ after, d.onShelf k) :
    indexOk d.itemHeader.capacity (d.item i).shelfNext = true := by
  induction before generalizing start with
  | nil =>
    obtain ⟨_, hrest⟩ := hlist
    rw [indexOk_iff]
    cases after with
    | nil => exact .inl hrest
    | cons k after => exact .inr (hrest.1 ▸ (hgood k (List.mem_cons_self ..)).1)
  | cons k before ih => exact ih hlist.2

/-- The tail of a sound list is the record taken off exactly when none comes after it. -/
theorem Draft.shelfList_tail {d : Draft} {i : Nat} {before after : List Nat} (hlist : d.shelfList (before ++ i :: after)) :
    d.itemHeader.shelfTail = i ↔ after = [] := by
  obtain ⟨_, _, htail, _, hnodup, _, _⟩ := hlist
  rw [htail, List.getLast?_append_cons]
  constructor
  · intro h
    by_contra hne
    obtain ⟨k, rest, rfl⟩ := List.exists_cons_of_ne_nil hne
    have hlast : (k :: rest).getLast hne = i := by simpa [List.getLast?_cons, List.getLast_eq_getLastD] using h
    have hi : i ∉ k :: rest := (List.nodup_cons.1 (List.nodup_append.1 hnodup).2.1).1
    exact hi (hlast ▸ List.getLast_mem hne)
  · rintro rfl
    rfl

/-- A removal whose record has been found. -/
theorem Draft.shelfRemove_found {d : Draft} {i : Nat} {pred : Option Nat}
    (h : d.seekShelfFromHead (fun k _ => k == i) = .ok (pred, some i))
    (hnext : indexOk d.itemHeader.capacity (d.item i).shelfNext = true) :
    d.shelfRemove i
      = .ok (((d.setShelfNext pred (d.item i).shelfNext).putItem i { d.item i with shelfNext := 0xFFFF }).setShelfEnd
          (d.itemHeader.shelfCount - 1)
          (if d.itemHeader.shelfTail = i then pred.getD 0xFFFF else d.itemHeader.shelfTail)) := by
  rw [Draft.shelfRemove, h]
  simp only [hnext, Bool.not_true, Bool.false_eq_true, if_false]
  rfl

theorem Draft.shelfRemove_spec {d : Draft} {i : Nat} {before after : List Nat} (hlist : d.shelfList (before ++ i :: after)) :
    ∃ e, d.shelfRemove i = .ok e ∧
      e.item i = { d.item i with shelfNext := 0xFFFF } ∧
      (∀ p, before.getLast? = some p → e.item p = { d.item p with shelfNext := (d.item i).shelfNext }) ∧
      (∀ k, k ≠ i → before.getLast? ≠ some k → e.item k = d.item k) ∧
      e.itemHeader
        = { d.itemHeader with
            shelfCount := d.itemHeader.shelfCount - 1
            shelfHead := if before = [] then (d.item i).shelfNext else d.itemHeader.shelfHead
            shelfTail := if after = [] then before.getLast?.getD 0xFFFF else d.itemHeader.shelfTail } ∧
      (∀ k, e.borrower k = d.borrower k) ∧ e.borrowerHeader = d.borrowerHeader ∧
      ∀ t c, e.bucketWord t c = d.bucketWord t c := by
  have htail := Draft.shelfList_tail hlist
  obtain ⟨hshelved, _, _, _, hnodup, hgood, _⟩ := id hlist
  have hseek := Draft.seekShelfFromHead_splits (stop := fun k _ => k == i) hlist
    (fun k hk => by simpa using (List.nodup_append.1 hnodup).2.2 k hk i (List.mem_cons_self ..))
    (fun k hk => by simpa using (Option.some.inj hk).symm)
  have hnext := Draft.shelved_next hshelved fun k hk => hgood k (by simp [hk])
  have hlast {p : Nat} (hp : before.getLast? = some p) : p ≠ i := getLast?_ne_of_nodup hnodup hp
  refine ⟨_, Draft.shelfRemove_found hseek hnext, ?_, fun p hp => ?_, fun k hk hne => ?_, ?_, fun k => ?_, ?_, fun t c => ?_⟩
  · rw [Draft.setShelfEnd_item, Draft.putItem_item_self]
  · rw [Draft.setShelfEnd_item, Draft.putItem_item_other _ (hlast hp), hp, Draft.setShelfNext_item_self]
  · rw [Draft.setShelfEnd_item, Draft.putItem_item_other _ hk, Draft.setShelfNext_item_other _ hne]
  · simp [htail]
  · simp
  · simp
  · simp

/-- Settles O60. -/
theorem tablesChange : Obligations.TablesChange := by
  refine ⟨fun d t => ⟨Draft.takeFree_empty, fun hne hlt hinside hfree => ?_⟩, Draft.insertItem_spec, Draft.insertBorrower_spec,
    fun s i next => ⟨Draft.insertItem_images s i next, Draft.insertBorrower_images s i next⟩, ?_, ?_, ?_, ?_⟩
  · intro next hnext
    exact Draft.takeFree_head hne hlt hinside hfree ((indexOk_iff _ _).2 hnext)
  · intro d i before after r b chain hcap hlen hnodup hwalk hchain
    exact Draft.removeItem_spec hcap hlen hnodup rfl hwalk hchain
  · intro d i before after r b chain hcap hlen hnodup hwalk hchain
    exact Draft.removeBorrower_spec hcap hlen hnodup rfl hwalk hchain
  · intro d i r before after hlist hnew hbefore hafter
    exact Draft.shelfInsert_spec hlist hnew hbefore hafter
  · intro d i before after hlist
    exact Draft.shelfRemove_spec hlist

end Sys2Proof.Machine
end

section
/-! PROOF. FORMAT_TABLES (R56, R57): its checks and its plan. -/

namespace Sys2Proof.Machine

/-- Checks 2 and 3 of R56 pass. -/
theorem formatLimit_iff (g : Geometry) (i b : Extent) :
    formatLimit g i b = false ↔
      (1 ≤ i.capacity ∧ i.capacity ≤ 65534 ∧ 8 ≤ i.exponent ∧ i.exponent ≤ 16) ∧
      (1 ≤ b.capacity ∧ b.capacity ≤ 65534 ∧ 8 ≤ b.exponent ∧ b.exponent ≤ 16) ∧
      g.windowBase ≤ i.address ∧ i.address + (16 + 2 * 2 ^ i.exponent + 64 * i.capacity) ≤ g.windowBase + 65536 * g.windowUnits ∧
      g.windowBase ≤ b.address ∧ b.address + (16 + 2 * 2 ^ b.exponent + 48 * b.capacity) ≤ g.windowBase + 65536 * g.windowUnits ∧
      (i.address + (16 + 2 * 2 ^ i.exponent + 64 * i.capacity) ≤ b.address ∨
        b.address + (16 + 2 * 2 ^ b.exponent + 48 * b.capacity) ≤ i.address) := by
  have hlength (e : Extent) (size : Nat) : e.length size = 16 + 2 * 2 ^ e.exponent + size * e.capacity := by
    rw [Extent.length, extentLength, pow_succ, Nat.mul_comm 2, Nat.mul_comm size]
  have hwindow (a len : Nat) : g.inWindow a len = false ↔
      ¬ (g.windowBase ≤ a ∧ a + len ≤ g.windowBase + 65536 * g.windowUnits) := by
    rw [← Geometry.inWindow_iff, Bool.not_eq_true]
  simp only [formatLimit, Extent.sized, extentsOverlap, hlength, itemSize, borrowerSize, Bool.or_eq_false_iff,
    Bool.not_eq_false', Geometry.inWindow_iff, Bool.and_eq_true, decide_eq_true_eq, Bool.and_eq_false_iff,
    decide_eq_false_iff_not]
  omega

/-- The plan of an admitted FORMAT_TABLES. -/
theorem planFormatTables_admitted {s : State} {t : Txn} {o : Order} {st : Stamp} (hk : t.kind = .order o)
    (ha : t.admitted st 65) :
    planFormatTables s t
      = if formatLimit s.geometry (o.itemExtent s.geometry) (o.borrowerExtent s.geometry) then orderLimit
        else if t.busy then orderRefused .busy
        else formatPlan s t (o.itemExtent s.geometry) (o.borrowerExtent s.geometry) := by
  have ho : t.order = o := by simp only [Txn.order, hk]
  simp only [planFormatTables, ho, Txn.orderPlan, Txn.gate_aboveReserve ha, planOf_pure]
  rfl

/-- Settles O33. -/
theorem tablesAreFormatted : Obligations.TablesAreFormatted := by
  intro s t o st hengaged hk hkind ha item borrower sized itemEnd borrowerEnd windowEnd fits
  have hfits : formatLimit s.geometry item borrower = false ↔ fits := formatLimit_iff s.geometry item borrower
  have hplan : planFormatTables s t
      = if formatLimit s.geometry item borrower then orderLimit
        else if t.busy then orderRefused .busy else formatPlan s t item borrower := planFormatTables_admitted hk ha
  have hstep {p : Plan} (hp : planFormatTables s t = p) (hf : p.fault = none) :
      exec .formatTables s = .next (s.conclude t p) :=
    State.runTxn_plan hengaged _ _ p (by simp [hk, isOrder, kindFormatTables, hkind]) hp hf
  refine ⟨fun hno => hstep ?_ rfl, fun hyes hbusy => hstep ?_ rfl, fun hyes hfree => hstep ?_ rfl⟩
  · rw [hplan, if_pos (Bool.eq_true_of_not_eq_false (mt hfits.1 hno))]
  · rw [hplan, hfits.2 hyes, hbusy]
    rfl
  · rw [hplan, hfits.2 hyes, hfree]
    simp only [Bool.false_eq_true, if_false, formatPlan, Txn.orderEntry, Txn.at_admitted ha, decide_not]
    rfl

end Sys2Proof.Machine
end

section
/-! SUPPORT. Runs of writes read back: where a run writes, a field after a run of consecutive words, and two runs one after the
other. -/

namespace Sys2Proof.Machine

/-! ## Where a run writes -/

/-- Every write of a run lies between two addresses. -/
def within (lo hi : Nat) (ws : List WordWrite) : Prop := ∀ w ∈ ws, lo ≤ w.addr ∧ w.addr + 2 ≤ hi

theorem within_nil (lo hi : Nat) : within lo hi [] := by simp [within]

theorem within_cons {lo hi : Nat} {w : WordWrite} {ws : List WordWrite} :
    within lo hi (w :: ws) ↔ (lo ≤ w.addr ∧ w.addr + 2 ≤ hi) ∧ within lo hi ws := List.forall_mem_cons

theorem within_append {lo hi : Nat} {xs ys : List WordWrite} :
    within lo hi (xs ++ ys) ↔ within lo hi xs ∧ within lo hi ys := List.forall_mem_append

theorem within.mono {lo hi lo' hi' : Nat} {ws : List WordWrite} (h : within lo hi ws) (hlo : lo' ≤ lo) (hhi : hi ≤ hi') :
    within lo' hi' ws := fun w hw => ⟨Nat.le_trans hlo (h w hw).1, Nat.le_trans (h w hw).2 hhi⟩

theorem within_putWords (a : Nat) (ws : List Nat) : within a (a + 2 * ws.length) (putWords a ws) := by
  induction ws generalizing a with
  | nil => exact within_nil _ _
  | cons w ws ih =>
    refine within_cons.2 ⟨⟨Nat.le_refl _, by simp only [List.length_cons]; omega⟩, (ih (a + 2)).mono (by omega) ?_⟩
    simp only [List.length_cons]
    omega

/-- A run between two addresses leaves every byte outside as it was. -/
theorem Memory.read8_within {lo hi a : Nat} {ws : List WordWrite} (m : Memory) (h : within lo hi ws) (ha : a < lo ∨ hi ≤ a) :
    (m.apply ws).read8 a = m.read8 a :=
  Memory.read8_apply_other m ws a fun w hw => by have := h w hw; omega

theorem Memory.read16_within {lo hi a : Nat} {ws : List WordWrite} (m : Memory) (h : within lo hi ws)
    (ha : a + 2 ≤ lo ∨ hi ≤ a) : (m.apply ws).read16 a = m.read16 a :=
  Memory.read16_apply_other m ws a fun w hw => by have := h w hw; omega

/-! ## Fields after a run of consecutive words -/

theorem putWords_append (a : Nat) (xs ys : List Nat) :
    putWords a (xs ++ ys) = putWords a xs ++ putWords (a + 2 * xs.length) ys := by
  induction xs generalizing a with
  | nil => rfl
  | cons x xs ih =>
    have h : a + 2 + 2 * xs.length = a + 2 * (x :: xs).length := by simp only [List.length_cons]; omega
    rw [List.cons_append, putWords, ih, h]
    rfl

/-- Each word of a run of consecutive words reads as written. -/
theorem Memory.read16_putWords (m : Memory) (hm : m.wf = true) (a : Nat) (ws : List Nat) {k : Nat} (hk : k < ws.length) :
    (m.apply (putWords a ws)).read16 (a + 2 * k) = ws[k] % 65536 := by
  induction ws generalizing a m k with
  | nil => exact absurd hk (Nat.not_lt_zero k)
  | cons w ws ih =>
    have hwf := Memory.writeWord_wf m { addr := a, word := w % 65536 } hm
    rw [putWords, Memory.apply]
    cases k with
    | zero =>
      rw [Memory.read16_within _ (within_putWords (a + 2) ws) (by omega)]
      exact (Memory.read16_writeWord_self m { addr := a, word := w % 65536 } hm).trans (Nat.mod_mod _ _)
    | succ k =>
      have hlt : k < ws.length := Nat.lt_of_succ_lt_succ hk
      rw [show a + 2 * (k + 1) = a + 2 + 2 * k by omega, ih _ hwf (a + 2) hlt]
      rfl

/-- A word of a run of consecutive words, when the writes that follow keep clear of it. -/
theorem Memory.read16_written (m : Memory) (hm : m.wf = true) (before after : List WordWrite) (a : Nat) (ws : List Nat)
    {k : Nat} (hk : k < ws.length) (hafter : ∀ w ∈ after, a + 2 * k + 1 < w.addr ∨ w.addr + 1 < a + 2 * k) :
    (m.apply (before ++ putWords a ws ++ after)).read16 (a + 2 * k) = ws[k] % 65536 := by
  rw [Memory.apply_append, Memory.read16_apply_other _ _ _ hafter, Memory.apply_append,
    Memory.read16_putWords _ (Memory.apply_wf m before hm) a ws hk]

/-- The bytes of a 16-bit field. -/
theorem Memory.readByte_low (m : Memory) (a : Nat) : m.readByte a = m.read16 a % 256 := by
  have := (m.read8 a).isLt
  rw [Memory.readByte, Memory.read16]
  omega

theorem Memory.readByte_high (m : Memory) (a : Nat) : m.readByte (a + 1) = m.read16 a / 256 := by
  have := (m.read8 a).isLt
  rw [Memory.readByte, Memory.read16]
  omega

/-! ## One run after another -/

theorem Memory.read8_writeWord_low (m : Memory) (w : WordWrite) (hm : m.wf = true) :
    (m.writeWord w).read8 w.addr = BitVec.ofNat 8 w.word := by
  rw [Memory.writeWord, Memory.read8_write8_other _ _ _ _ (by omega), Memory.read8_write8_self _ _ _ hm]

theorem Memory.read8_writeWord_high (m : Memory) (w : WordWrite) (hm : m.wf = true) :
    (m.writeWord w).read8 (w.addr + 1) = BitVec.ofNat 8 (w.word / 256) :=
  Memory.read8_write8_self _ _ _ (Memory.write8_wf _ _ _ hm)

/-- A byte that a run writes is what the run writes, on any desk memory. -/
theorem Memory.read8_covered {m m' : Memory} (hm : m.wf = true) (hm' : m'.wf = true) {ws : List WordWrite} {a : Nat}
    (h : ∃ w ∈ ws, a = w.addr ∨ a = w.addr + 1) : (m.apply ws).read8 a = (m'.apply ws).read8 a := by
  induction ws generalizing m m' with
  | nil => simp at h
  | cons w ws ih =>
    have hwf := Memory.writeWord_wf m w hm
    have hwf' := Memory.writeWord_wf m' w hm'
    by_cases hrest : ∃ x ∈ ws, a = x.addr ∨ a = x.addr + 1
    · exact ih hwf hwf' hrest
    · have hclear : ∀ x ∈ ws, a ≠ x.addr ∧ a ≠ x.addr + 1 := fun x hx => by
        by_contra hne
        exact hrest ⟨x, hx, by omega⟩
      have hw : a = w.addr ∨ a = w.addr + 1 := by
        obtain ⟨x, hx, ha⟩ := h
        rcases List.mem_cons.1 hx with rfl | hx
        · exact ha
        · exact absurd ⟨x, hx, ha⟩ hrest
      rw [Memory.apply, Memory.apply, Memory.read8_apply_other _ _ _ hclear, Memory.read8_apply_other _ _ _ hclear]
      rcases hw with rfl | rfl
      · rw [Memory.read8_writeWord_low m w hm, Memory.read8_writeWord_low m' w hm']
      · rw [Memory.read8_writeWord_high m w hm, Memory.read8_writeWord_high m' w hm']

/-- A run that has been begun and is then made whole leaves every byte as the whole run does. -/
theorem Memory.read8_apply_again {m : Memory} (hm : m.wf = true) {begun ws : List WordWrite} (h : ∀ w ∈ begun, w ∈ ws)
    (a : Nat) : ((m.apply begun).apply ws).read8 a = (m.apply ws).read8 a := by
  by_cases hc : ∃ w ∈ ws, a = w.addr ∨ a = w.addr + 1
  · exact Memory.read8_covered (Memory.apply_wf m begun hm) hm hc
  · have hclear : ∀ w ∈ ws, a ≠ w.addr ∧ a ≠ w.addr + 1 := fun w hw => by
      by_contra hne
      exact hc ⟨w, hw, by omega⟩
    rw [Memory.read8_apply_other _ _ _ hclear, Memory.read8_apply_other _ _ _ hclear,
      Memory.read8_apply_other _ _ _ fun w hw => hclear w (h w hw)]

end Sys2Proof.Machine
end

section
/-! PROOF. What FORMAT_TABLES leaves in desk memory (R57, R206): each table's own writes, read back word by word. -/

namespace Sys2Proof.Machine

/-! ## Writes that keep clear of a byte -/

/-- A run's effect on a byte goes by that byte alone. -/
theorem Memory.read8_apply_congr {m m' : Memory} (hm : m.wf = true) (hm' : m'.wf = true) (ws : List WordWrite) {a : Nat}
    (h : m.read8 a = m'.read8 a) : (m.apply ws).read8 a = (m'.apply ws).read8 a := by
  by_cases hc : ∃ w ∈ ws, a = w.addr ∨ a = w.addr + 1
  · exact Memory.read8_covered hm hm' hc
  · have hclear : ∀ w ∈ ws, a ≠ w.addr ∧ a ≠ w.addr + 1 := fun w hw => by
      by_contra hne
      exact hc ⟨w, hw, by omega⟩
    rw [Memory.read8_apply_other _ _ _ hclear, Memory.read8_apply_other _ _ _ hclear, h]

/-- Two runs leave the same at a byte, on desk memories that hold the same there. -/
def SameAt (a : Nat) (xs ys : List WordWrite) : Prop :=
  ∀ m m' : Memory, m.wf = true → m'.wf = true → m.read8 a = m'.read8 a → (m.apply xs).read8 a = (m'.apply ys).read8 a

theorem SameAt.nil (a : Nat) : SameAt a [] [] := fun _ _ _ _ h => h

/-- Writes that both runs make. -/
theorem SameAt.keep {a : Nat} {xs ys : List WordWrite} (zs : List WordWrite) (h : SameAt a xs ys) :
    SameAt a (zs ++ xs) (zs ++ ys) := fun m m' hm hm' hsame => by
  rw [Memory.apply_append, Memory.apply_append]
  exact h _ _ (Memory.apply_wf m zs hm) (Memory.apply_wf m' zs hm') (Memory.read8_apply_congr hm hm' zs hsame)

/-- Writes of the first run that keep clear of the byte. -/
theorem SameAt.skip {a lo hi : Nat} {xs ys zs : List WordWrite} (hzs : within lo hi zs) (ha : a < lo ∨ hi ≤ a)
    (h : SameAt a xs ys) : SameAt a (zs ++ xs) ys := fun m m' hm hm' hsame => by
  rw [Memory.apply_append]
  exact h _ _ (Memory.apply_wf m zs hm) hm' ((Memory.read8_within m hzs ha).trans hsame)

/-! ## Where a table's writes lie (R42) -/

section Table

variable (m : Memory) (e : Extent) (size : Nat) (words : Nat → List Nat)

/-- The writes of R57 for one table. -/
def tableWrites : List WordWrite :=
  [countWrite m e 1] ++ (poolWrites e size words ++ (bucketWrites e ++ (headerWrites e ++ [countWrite m e 2])))

theorem recordAddress_zero : recordAddress e.address e.exponent size 0 = e.address + 16 + 2 * 2 ^ e.exponent := by
  simp [recordAddress]

theorem recordAddress_succ (k : Nat) :
    recordAddress e.address e.exponent size (k + 1) = recordAddress e.address e.exponent size k + size := by
  simp only [recordAddress, Nat.add_mul]
  omega

/-- The pool ends with the extent. -/
theorem recordAddress_capacity : recordAddress e.address e.exponent size e.capacity = e.address + e.length size := by
  rw [recordAddress, Extent.length, extentLength, pow_succ]
  omega

theorem recordAddress_mono {j k : Nat} (h : j ≤ k) :
    recordAddress e.address e.exponent size j ≤ recordAddress e.address e.exponent size k :=
  Nat.add_le_add_left (Nat.mul_le_mul_right size h) _

theorem within_countWrite (n : Nat) : within e.address (e.address + 2) [countWrite m e n] := by
  simp [within, countWrite]

theorem within_headerWrites : within (e.address + 2) (e.address + 16) (headerWrites e) := within_putWords _ _

theorem within_bucketWrites : within (e.address + 16) (e.address + 16 + 2 * 2 ^ e.exponent) (bucketWrites e) := by
  have h := within_putWords (bucketAddress e.address 0) (List.replicate (2 ^ e.exponent) Config.nullIndex)
  rwa [List.length_replicate] at h

variable {size words}

theorem within_record (hlength : ∀ n, 2 * (words n).length = size) (n k : Nat) :
    within (recordAddress e.address e.exponent size k) (recordAddress e.address e.exponent size (k + 1))
      (putWords (recordAddress e.address e.exponent size k) (words n)) := by
  rw [recordAddress_succ, ← hlength n]
  exact within_putWords _ _

/-- The records from `k` on. -/
theorem within_records (hlength : ∀ n, 2 * (words n).length = size) {k : Nat} {ks : List Nat}
    (hk : ∀ i ∈ ks, k ≤ i ∧ i < e.capacity) :
    within (recordAddress e.address e.exponent size k) (e.address + e.length size)
      (ks.flatMap fun i => putWords (recordAddress e.address e.exponent size i) (words (nextFree e.capacity i))) := by
  intro w hw
  obtain ⟨i, hi, hw⟩ := List.mem_flatMap.1 hw
  obtain ⟨hki, hcap⟩ := hk i hi
  exact (within_record e hlength _ i).mono (recordAddress_mono e size hki)
    (recordAddress_capacity e size ▸ recordAddress_mono e size hcap) w hw

theorem within_poolWrites (hlength : ∀ n, 2 * (words n).length = size) :
    within (e.address + 16 + 2 * 2 ^ e.exponent) (e.address + e.length size) (poolWrites e size words) := by
  rw [← recordAddress_zero e size]
  exact within_records e hlength fun i hi => ⟨Nat.zero_le i, List.mem_range.1 hi⟩

/-- Header and buckets lie in the extent. -/
theorem Extent.length_ge (size : Nat) : 16 + 2 * 2 ^ e.exponent ≤ e.length size := by
  rw [Extent.length, extentLength, pow_succ]
  omega

/-! ## What one table's writes leave -/

variable {m}

theorem tableWrites_count (hm : m.wf = true) :
    (m.apply (tableWrites m e size words)).read16 e.address = (m.read16 e.address + 2) % 65536 := by
  rw [tableWrites, ← List.append_assoc, ← List.append_assoc, ← List.append_assoc, Memory.apply_append]
  exact (Memory.read16_writeWord_self _ (countWrite m e 2) (Memory.apply_wf m _ hm)).trans (Nat.mod_mod _ _)

theorem tableWrites_header (hm : m.wf = true) {k : Nat} (hk : k < 7) :
    (m.apply (tableWrites m e size words)).read16 (e.address + 2 + 2 * k)
      =
    [e.capacity, bytePair e.exponent 0, 0, 0, 0xFFFF, 0xFFFF, 0][k] % 65536 := by
  rw [tableWrites, ← List.append_assoc, ← List.append_assoc, ← List.append_assoc]
  refine Memory.read16_written m hm _ _ _ _ hk fun w hw => ?_
  have := within_countWrite m e 2 w hw
  omega

theorem tableWrites_bucket (hm : m.wf = true) {k : Nat} (hk : k < 2 ^ e.exponent) :
    (m.apply (tableWrites m e size words)).read16 (e.address + 16 + 2 * k) = 0xFFFF := by
  rw [tableWrites, ← List.append_assoc, ← List.append_assoc]
  refine (Memory.read16_written m hm _ _ _ _ (by simpa using hk) fun w hw => ?_).trans ?_
  · rcases List.mem_append.1 hw with hw | hw
    · have := within_headerWrites e w hw
      simp only [bucketAddress]
      omega
    · have := within_countWrite m e 2 w hw
      simp only [bucketAddress]
      omega
  · rw [List.getElem_replicate]
    rfl

theorem tableWrites_record (hm : m.wf = true) (hlength : ∀ n, 2 * (words n).length = size) {k x : Nat} (hk : k < e.capacity)
    (hx : x < (words (nextFree e.capacity k)).length) :
    (m.apply (tableWrites m e size words)).read16 (recordAddress e.address e.exponent size k + 2 * x)
      = (words (nextFree e.capacity k))[x] % 65536 := by
  obtain ⟨n, hn⟩ := Nat.exists_eq_add_of_lt hk
  have hrange : List.range e.capacity = List.range k ++ k :: (List.range n).map (k + 1 + ·) := by
    rw [hn, Nat.add_assoc, List.range_add, List.range_succ_eq_map, List.map_cons, List.map_map]
    simp [Function.comp_def, Nat.add_assoc, Nat.add_comm 1]
  have hafter : within (recordAddress e.address e.exponent size (k + 1)) (e.address + e.length size)
      (((List.range n).map (k + 1 + ·)).flatMap fun i =>
        putWords (recordAddress e.address e.exponent size i) (words (nextFree e.capacity i))) :=
    within_records e hlength fun i hi => by
      obtain ⟨j, hj, rfl⟩ := List.mem_map.1 hi
      have := List.mem_range.1 hj
      omega
  have hstart := recordAddress_zero e size ▸ recordAddress_mono e size (Nat.zero_le k)
  have hfits := within_record e hlength (nextFree e.capacity k) k
  rw [tableWrites, poolWrites, hrange, List.flatMap_append, List.flatMap_cons]
  simp only [List.append_assoc]
  rw [← List.append_assoc, ← List.append_assoc]
  refine Memory.read16_written m hm _ _ _ _ hx fun w hw => ?_
  have hsucc := recordAddress_succ e size k
  have hsize := hlength (nextFree e.capacity k)
  rcases List.mem_append.1 hw with hw | hw
  · have := hafter w hw
    omega
  · have hlow : within e.address (e.address + 16 + 2 * 2 ^ e.exponent)
        (bucketWrites e ++ (headerWrites e ++ [countWrite m e 2])) :=
      within_append.2 ⟨(within_bucketWrites e).mono (by omega) (by omega),
        within_append.2 ⟨(within_headerWrites e).mono (by omega) (by omega),
          (within_countWrite m e 2).mono (by omega) (by omega)⟩⟩
    have := hlow w hw
    omega

/-! ## One table's writes among both tables' -/

/-- The other table's writes keep clear of a byte outside its extent. -/
theorem within_table (hlength : ∀ n, 2 * (words n).length = size) :
    within e.address (e.address + e.length size) [countWrite m e 1] ∧
      within e.address (e.address + e.length size) (poolWrites e size words) ∧
      within e.address (e.address + e.length size) (bucketWrites e) ∧
      within e.address (e.address + e.length size) (headerWrites e) ∧
      within e.address (e.address + e.length size) [countWrite m e 2] := by
  have hge := e.length_ge size
  exact ⟨(within_countWrite m e 1).mono (by omega) (by omega), (within_poolWrites e hlength).mono (by omega) (by omega),
    (within_bucketWrites e).mono (by omega) (by omega), (within_headerWrites e).mono (by omega) (by omega),
    (within_countWrite m e 2).mono (by omega) (by omega)⟩

end Table

theorem freeItemWords_length (n : Nat) : 2 * (freeItemWords n).length = 64 := rfl

theorem freeBorrowerWords_length (n : Nat) : 2 * (freeBorrowerWords n).length = 48 := rfl

theorem formatWrites_eq (m : Memory) (i b : Extent) :
    formatWrites m i b
      = [countWrite m i 1] ++ ([countWrite m b 1] ++ (poolWrites i 64 freeItemWords ++ (poolWrites b 48 freeBorrowerWords ++
          (bucketWrites i ++ (bucketWrites b ++ (headerWrites i ++ (headerWrites b ++
            ([countWrite m i 2] ++ ([countWrite m b 2] ++ []))))))))) := by
  simp [formatWrites, itemSize, borrowerSize]

section Both

variable {m : Memory} (hm : m.wf = true) {i b : Extent}
  (hdisjoint : i.address + i.length 64 ≤ b.address ∨ b.address + b.length 48 ≤ i.address)
include hm hdisjoint

/-- In the item table FORMAT_TABLES leaves what the item table's writes leave. -/
theorem formatWrites_item {a : Nat} (hlo : i.address ≤ a) (hhi : a < i.address + i.length 64) :
    (m.apply (formatWrites m i b)).read8 a = (m.apply (tableWrites m i 64 freeItemWords)).read8 a := by
  obtain ⟨h1, h2, h3, h4, h5⟩ := within_table (m := m) b freeBorrowerWords_length
  have hclear : a < b.address ∨ b.address + b.length 48 ≤ a := by omega
  rw [formatWrites_eq]
  refine SameAt.keep _ (.skip h1 hclear (.keep _ (.skip h2 hclear (.keep _ (.skip h3 hclear (.keep _ (.skip h4 hclear
    ?_))))))) m m hm hm rfl
  exact .keep [countWrite m i 2] (.skip h5 hclear (.nil a))

/-- In the borrower table it leaves what the borrower table's writes leave. -/
theorem formatWrites_borrower {a : Nat} (hlo : b.address ≤ a) (hhi : a < b.address + b.length 48) :
    (m.apply (formatWrites m i b)).read8 a = (m.apply (tableWrites m b 48 freeBorrowerWords)).read8 a := by
  obtain ⟨h1, h2, h3, h4, h5⟩ := within_table (m := m) i freeItemWords_length
  have hclear : a < i.address ∨ i.address + i.length 64 ≤ a := by omega
  rw [formatWrites_eq]
  refine SameAt.skip h1 hclear (.keep _ (.skip h2 hclear (.keep _ (.skip h3 hclear (.keep _ (.skip h4 hclear
    (.keep _ (.skip h5 hclear ?_)))))))) m m hm hm rfl
  exact .keep [countWrite m b 2] (.nil a)

end Both

/-! ## The tables read back -/

/-- What the writes of R57 leave in a table's extent: the header, the bucket words and the records, word by word. -/
structure Formatted (m m1 : Memory) (e : Extent) (size : Nat) (words : Nat → List Nat) : Prop where
  count : m1.read16 e.address = (m.read16 e.address + 2) % 65536
  header : ∀ k (hk : k < 7), m1.read16 (e.address + 2 + 2 * k) =
    [e.capacity, bytePair e.exponent 0, 0, 0, 0xFFFF, 0xFFFF, 0][k] % 65536
  bucket : ∀ k, k < 2 ^ e.exponent → m1.read16 (e.address + 16 + 2 * k) = 0xFFFF
  record : ∀ k, k < e.capacity → ∀ x w, (words (nextFree e.capacity k))[x]? = some w →
    m1.read16 (recordAddress e.address e.exponent size k + 2 * x) = w % 65536

/-- A memory that holds in the extent what the table's writes leave there. -/
theorem Formatted.of_same {m m1 : Memory} {e : Extent} {size : Nat} {words : Nat → List Nat} (hm : m.wf = true)
    (hlength : ∀ n, 2 * (words n).length = size)
    (h : ∀ a, e.address ≤ a → a < e.address + e.length size →
      m1.read8 a = (m.apply (tableWrites m e size words)).read8 a) : Formatted m m1 e size words := by
  have hge := e.length_ge size
  have hread (a : Nat) (hlo : e.address ≤ a) (hhi : a + 1 < e.address + e.length size) :
      m1.read16 a = (m.apply (tableWrites m e size words)).read16 a := by
    rw [Memory.read16, Memory.read16, h a hlo (by omega), h (a + 1) (by omega) hhi]
  refine ⟨?_, fun k hk => ?_, fun k hk => ?_, fun k hk x w hxw => ?_⟩
  · rw [hread _ (by omega) (by omega), tableWrites_count e hm]
  · rw [hread _ (by omega) (by omega), tableWrites_header e hm hk]
  · rw [hread _ (by omega) (by omega), tableWrites_bucket e hm hk]
  · obtain ⟨hx, rfl⟩ := List.getElem?_eq_some_iff.1 hxw
    have hlow := recordAddress_zero e size ▸ recordAddress_mono e size (Nat.zero_le k)
    have hhigh := recordAddress_capacity e size ▸ recordAddress_mono e size (show k + 1 ≤ e.capacity from hk)
    have hnext := recordAddress_succ e size k
    have hsize := hlength (nextFree e.capacity k)
    rw [hread _ (by omega) (by omega), tableWrites_record e hm hlength hk hx]

/-- The header of a formatted table (step 4 of R57). -/
theorem Formatted.readHeader {m m1 : Memory} {e : Extent} {size : Nat} {words : Nat → List Nat}
    (h : Formatted m m1 e size words) (hcap : e.capacity ≤ 65534) (hexp : e.exponent ≤ 16) :
    Header.read m1 e.address
      = { count := (m.read16 e.address + 2) % 65536, capacity := e.capacity, exponent := e.exponent, records := 0,
          freeHead := 0, shelfHead := 0xFFFF, shelfTail := 0xFFFF, shelfCount := 0 } := by
  have hw := h.header
  have hexponent : m1.readByte (e.address + 4) = e.exponent := by
    rw [Memory.readByte_low, hw 1 (by decide)]
    simp only [bytePair, List.getElem_cons_succ, List.getElem_cons_zero]
    omega
  simp only [Header.read, h.count, hexponent, Header.mk.injEq, true_and]
  refine ⟨(hw 0 (by decide)).trans (Nat.mod_eq_of_lt ?_), hw 2 (by decide), hw 3 (by decide), hw 4 (by decide),
    hw 5 (by decide), hw 6 (by decide)⟩
  simp only [List.getElem_cons_zero]
  omega

theorem nextFree_lt {capacity k : Nat} (hcap : capacity ≤ 65534) : nextFree capacity k < 65536 := by
  simp only [nextFree, Config.nullIndex]
  split <;> omega

end Sys2Proof.Machine
end

section
/-! PROOF. The records of formatted tables, field by field (R57, R206). -/

namespace Sys2Proof.Machine

/-- A byte of a word that is 0. -/
theorem Memory.readByte_zero {m : Memory} {a x : Nat} (h : m.read16 (a + 2 * (x / 2)) = 0) : m.readByte (a + x) = 0 := by
  rcases Nat.mod_two_eq_zero_or_one x with hx | hx
  · rw [show a + x = a + 2 * (x / 2) by omega, Memory.readByte_low, h]
  · rw [show a + x = a + 2 * (x / 2) + 1 by omega, Memory.readByte_high, h]

/-- The words of a free item record, the hold entry places among them (R50, R57). -/
theorem freeItemWords_eq (next : Nat) :
    freeItemWords next
      = [0, 0, 0, 0, 0, 0, 0xFFFF, 0, 0, 0, 0, 0, 0, 0xFFFF, next, 0, 0xFFFF, 0, 0xFFFF, 0, 0xFFFF, 0, 0xFFFF, 0, 0xFFFF, 0,
         0xFFFF, 0, 0, 0, 0, 0] := by
  simp [freeItemWords, ItemRecord.words, ItemRecord.freed, ItemRecord.fresh, bytePair, words32, words64, bitOf, queueWords,
    HoldEntry.vacant, itemStateCode, ItemState.code, Stamp.zero, Config.nullIndex, List.replicate]

theorem freeBorrowerWords_eq (next : Nat) :
    freeBorrowerWords next = [0, 0, 0, 0, 0, 0, 0, 0, 0, 0, 0, 0, 0, next, 0, 0, 0, 0, 0, 0, 0, 0, 0, 0] := by
  simp [freeBorrowerWords, BorrowerRecord.words, BorrowerRecord.freed, BorrowerRecord.fresh, bytePair, words32, bitOf]

section Item

variable {m : Memory} {a next : Nat}
  (h : ∀ x w, (freeItemWords next)[x]? = some w → m.read16 (a + 2 * x) = w % 65536)
include h

/-- The bytes of a free item record that are 0. -/
theorem freeItem_byte {x : Nat} (hzero : (freeItemWords next)[x / 2]? = some 0) : m.readByte (a + x) = 0 :=
  Memory.readByte_zero (h _ _ hzero)

theorem ItemRecord.read_free (hnext : next < 65536) :
    ItemRecord.read m a
      = { count := 0, state := some .free, itemClass := 0, number := 0, borrower := 0xFFFF, due := { day := 0, minute := 0 },
          loanDay := 0, renewCount := 0, hourLoan := false, clamped := false, queue := [], deadline := 0, shelfNext := 0xFFFF,
          chainNext := next } := by
  have hbyte {x : Nat} (hzero : (freeItemWords next)[x / 2]? = some 0) := freeItem_byte h hzero
  rw [freeItemWords_eq] at h
  have hnumber : m.read64 (a + 4) = 0 := by
    have h4 : m.read16 (a + 4) = 0 := h 2 _ rfl
    have h6 : m.read16 (a + 6) = 0 := h 3 _ rfl
    have h8 : m.read16 (a + 8) = 0 := h 4 _ rfl
    have h10 : m.read16 (a + 10) = 0 := h 5 _ rfl
    simp only [Memory.read64, Memory.read32, Nat.add_assoc, h4, h6, h8, h10, Nat.reduceAdd, Nat.reduceMul]
  have hstate : m.readByte (a + 2) = 0 := hbyte rfl
  have hclass : m.readByte (a + 3) = 0 := hbyte rfl
  have hrenew : m.readByte (a + 20) = 0 := hbyte rfl
  have hflags : m.readByte (a + 21) = 0 := hbyte rfl
  have hqueue : m.readByte (a + 22) = 0 := hbyte rfl
  have hchain : m.read16 (a + 28) = next := (h 14 _ rfl).trans (Nat.mod_eq_of_lt hnext)
  have hborrower : m.read16 (a + 12) = 0xFFFF := h 6 _ rfl
  have hdue : m.read16 (a + 14) = 0 ∧ m.read16 (a + 16) = 0 := ⟨h 7 _ rfl, h 8 _ rfl⟩
  have hdays : m.read16 (a + 18) = 0 ∧ m.read16 (a + 24) = 0 := ⟨h 9 _ rfl, h 12 _ rfl⟩
  have hshelf : m.read16 (a + 26) = 0xFFFF := h 13 _ rfl
  have hcount : m.read16 a = 0 := h 0 _ rfl
  simp only [ItemRecord.read, hnumber, hstate, hclass, hrenew, hflags, hqueue, hchain, hborrower, hdue, hdays, hshelf, hcount]
  rfl

/-- The hold entry places of a free item record. -/
theorem freeItem_place {j : Nat} (hj : j < 6) :
    m.read16 (a + 32 + 4 * j) = 0xFFFF ∧ m.read16 (a + 34 + 4 * j) = 0 := by
  rw [show a + 32 + 4 * j = a + 2 * (16 + 2 * j) by omega, show a + 34 + 4 * j = a + 2 * (17 + 2 * j) by omega]
  rw [freeItemWords_eq] at h
  interval_cases j <;> exact ⟨h _ 0xFFFF rfl, h _ 0 rfl⟩

end Item

section Borrower

variable {m : Memory} {a next : Nat}
  (h : ∀ x w, (freeBorrowerWords next)[x]? = some w → m.read16 (a + 2 * x) = w % 65536)
include h

theorem freeBorrower_byte {x : Nat} (hzero : (freeBorrowerWords next)[x / 2]? = some 0) : m.readByte (a + x) = 0 :=
  Memory.readByte_zero (h _ _ hzero)

theorem BorrowerRecord.read_free (hnext : next < 65536) :
    BorrowerRecord.read m a
      = { count := 0, inUse := some false, cls := 0, number := 0, expiry := 0, activity := 0, fines := 0, loans := 0,
          holds := 0, lost := 0, manual := none, center := none, chainNext := next } := by
  have hbyte {x : Nat} (hzero : (freeBorrowerWords next)[x / 2]? = some 0) := freeBorrower_byte h hzero
  rw [freeBorrowerWords_eq] at h
  have hlong {x : Nat} (hlow : m.read16 (a + x) = 0) (hhigh : m.read16 (a + x + 2) = 0) : m.read32 (a + x) = 0 := by
    rw [Memory.read32, hlow, hhigh]
  have hnumber : m.read32 (a + 4) = 0 := hlong (h 2 _ rfl) (h 3 _ rfl)
  have hfines : m.read32 (a + 12) = 0 := hlong (h 6 _ rfl) (h 7 _ rfl)
  have huse : m.readByte (a + 2) = 0 := hbyte rfl
  have hclass : m.readByte (a + 3) = 0 := hbyte rfl
  have hloans : m.readByte (a + 16) = 0 := hbyte rfl
  have hholds : m.readByte (a + 17) = 0 := hbyte rfl
  have hlost : m.readByte (a + 18) = 0 := hbyte rfl
  have hblocks : m.readByte (a + 19) = 0 := hbyte rfl
  have hchain : m.read16 (a + 26) = next := (h 13 _ rfl).trans (Nat.mod_eq_of_lt hnext)
  have hdays : m.read16 (a + 8) = 0 ∧ m.read16 (a + 10) = 0 := ⟨h 4 _ rfl, h 5 _ rfl⟩
  have hcount : m.read16 a = 0 := h 0 _ rfl
  simp only [BorrowerRecord.read, hnumber, hfines, huse, hclass, hloans, hholds, hlost, hblocks, hchain, hdays, hcount]
  rfl

end Borrower

/-- Settles O34. -/
theorem formattedTablesAreEmpty : Obligations.FormattedTablesAreEmpty := by
  intro m i b sized hm hi hb hdisjoint m1 empty
  obtain ⟨_, hicap, _, hiexp⟩ := hi
  obtain ⟨_, hbcap, _, hbexp⟩ := hb
  have hitem : Formatted m m1 i 64 freeItemWords :=
    .of_same hm freeItemWords_length fun _ hlo hhi => formatWrites_item hm hdisjoint hlo hhi
  have hborrower : Formatted m m1 b 48 freeBorrowerWords :=
    .of_same hm freeBorrowerWords_length fun _ hlo hhi => formatWrites_borrower hm hdisjoint hlo hhi
  refine ⟨hitem.readHeader hicap hiexp, hborrower.readHeader hbcap hbexp, hitem.bucket, hborrower.bucket, fun k hk => ?_,
    fun k hk => ?_⟩
  · intro a
    have ha : recordAddress i.address i.exponent 64 k = a := by rw [recordAddress, Nat.mul_comm k]
    have hrecord := ha ▸ hitem.record k hk
    refine ⟨ItemRecord.read_free hrecord (nextFree_lt hicap), freeItem_byte hrecord rfl,
      freeItem_byte hrecord rfl, fun j hj => freeItem_place hrecord hj, fun x hx => ?_⟩
    rcases hx with rfl | rfl | rfl | ⟨hlo, hhi⟩
    · exact freeItem_byte hrecord rfl
    · exact freeItem_byte hrecord rfl
    · exact freeItem_byte hrecord rfl
    · exact freeItem_byte hrecord (by interval_cases x <;> rfl)
  · intro a
    have ha : recordAddress b.address b.exponent 48 k = a := by rw [recordAddress, Nat.mul_comm k]
    have hrecord := ha ▸ hborrower.record k hk
    refine ⟨BorrowerRecord.read_free hrecord (nextFree_lt hbcap), fun x hx => ?_⟩
    rcases hx with ⟨hlo, hhi⟩ | ⟨hlo, hhi⟩
    · exact freeBorrower_byte hrecord (by interval_cases x <;> rfl)
    · exact freeBorrower_byte hrecord (by interval_cases x <;> rfl)

end Sys2Proof.Machine
end

section
/-! PROOF. The commit slot (R58 to R62): what its fill leaves to be read back, and the replay of a stopped commit. -/

namespace Sys2Proof.Machine

/-! ## Words read back -/

theorem readWords_eq_map (m : Memory) (a n : Nat) : readWords m a n = (List.range n).map fun k => m.read16 (a + 2 * k) := by
  induction n generalizing a with
  | zero => rfl
  | succ n ih =>
    rw [readWords, ih, List.range_succ_eq_map, List.map_cons, List.map_map]
    refine congrArg₂ _ rfl (List.map_congr_left fun k _ => ?_)
    rw [Function.comp, Nat.succ_eq_add_one, Nat.mul_add, Nat.add_assoc, Nat.add_comm 2]

/-- A run of words that all read as given. -/
theorem readWords_eq {m : Memory} {a : Nat} {ws : List Nat} (h : ∀ k (hk : k < ws.length), m.read16 (a + 2 * k) = ws[k]) :
    readWords m a ws.length = ws := by
  rw [readWords_eq_map]
  refine List.ext_getElem (by simp) fun k hk _ => ?_
  simp only [List.length_map, List.length_range] at hk
  rw [List.getElem_map, List.getElem_range, h k hk]

/-! ## The slot filled (step 3 of R59) -/

/-- The words of image `i`, from offset 40 + 72 i (R206). -/
def Image.slotWords (im : Image) : List Nat := words32 im.target ++ [2 * im.words.length, bitOf im.counted 0] ++ im.words

theorem fillImage_eq (slot i : Nat) (im : Image) : fillImage slot i im = putWords (slot + 40 + 72 * i) im.slotWords := rfl

theorem Image.slotWords_length (im : Image) : im.slotWords.length = 4 + im.words.length := by
  simp [Image.slotWords, words32]; omega

theorem fillImages_append (slot i : Nat) (xs ys : List Image) :
    fillImages slot i (xs ++ ys) = fillImages slot i xs ++ fillImages slot (i + xs.length) ys := by
  induction xs generalizing i with
  | nil => rfl
  | cons x xs ih => rw [List.cons_append, fillImages, ih, fillImages, List.append_assoc, List.length_cons, Nat.add_assoc,
      Nat.add_comm 1]

/-- Images of at most 32 words fill places of 72 bytes. -/
theorem within_fillImages (slot i : Nat) (ims : List Image) (h : ∀ x ∈ ims, x.words.length ≤ 32) :
    within (slot + 40 + 72 * i) (slot + 40 + 72 * (i + ims.length)) (fillImages slot i ims) := by
  induction ims generalizing i with
  | nil => exact within_nil _ _
  | cons x ims ih =>
    obtain ⟨hx, hims⟩ := List.forall_mem_cons.1 h
    have hfill := within_putWords (slot + 40 + 72 * i) x.slotWords
    rw [x.slotWords_length] at hfill
    rw [fillImages, fillImage_eq, List.length_cons]
    exact within_append.2 ⟨hfill.mono (by omega) (by omega), (ih (i + 1) hims).mono (by omega) (by omega)⟩

/-- Every write of a run keeps clear of the slot's 616 bytes. -/
def slotClear (slot : Nat) (ws : List WordWrite) : Prop := ∀ w ∈ ws, w.addr + 2 ≤ slot ∨ slot + 616 ≤ w.addr

theorem slotClear_append {slot : Nat} {xs ys : List WordWrite} :
    slotClear slot (xs ++ ys) ↔ slotClear slot xs ∧ slotClear slot ys := List.forall_mem_append

theorem within.slotClear {lo hi slot : Nat} {ws : List WordWrite} (h : within lo hi ws) (hs : hi ≤ slot ∨ slot + 616 ≤ lo) :
    slotClear slot ws := fun w hw => by have := h w hw; omega

/-- Every write of a run keeps clear of a word. -/
def clearOf (a : Nat) (ws : List WordWrite) : Prop := ∀ w ∈ ws, a + 1 < w.addr ∨ w.addr + 1 < a

theorem clearOf_append {a : Nat} {xs ys : List WordWrite} : clearOf a (xs ++ ys) ↔ clearOf a xs ∧ clearOf a ys :=
  List.forall_mem_append

theorem within.clearOf {lo hi a : Nat} {ws : List WordWrite} (h : within lo hi ws) (ha : a + 2 ≤ lo ∨ hi ≤ a) :
    clearOf a ws := fun w hw => by have := h w hw; omega

theorem within_armWrite (slot : Nat) : within slot (slot + 2) [armWrite slot] := by simp [within, armWrite]

theorem slotClear.clearOf {slot a : Nat} {ws : List WordWrite} (h : slotClear slot ws) (ha : slot ≤ a ∧ a + 2 ≤ slot + 616) :
    clearOf a ws := fun w hw => by have := h w hw; omega

section Fill

variable {slot target : Nat} {images : List Image} {entry : List Nat} (hcount : images.length ≤ 8)
  (hwords : ∀ x ∈ images, x.words.length ≤ 32) (hentry : entry.length = 16)

include hcount hwords hentry in
/-- The fill lies in the slot behind its state word. -/
theorem within_fillWrites : within (slot + 2) (slot + 616) (fillWrites slot images target entry) := by
  have himages := within_fillImages slot 0 images hwords
  have htarget := within_putWords (slot + 4) (words32 target)
  have hlast := within_putWords (slot + 8) entry
  rw [hentry] at hlast
  simp only [words32, List.length_cons, List.length_nil] at htarget
  refine within_append.2 ⟨within_append.2 ⟨within_append.2 ⟨himages.mono (by omega) (by omega), ?_⟩,
    htarget.mono (by omega) (by omega)⟩, hlast.mono (by omega) (by omega)⟩
  exact within_cons.2 ⟨⟨Nat.le_refl _, by simp only; omega⟩, within_nil _ _⟩

/-- Desk memory with the slot filled and armed, and writes made that keep clear of the slot. -/
def armedSlot (m : Memory) (slot : Nat) (images : List Image) (target : Nat) (entry : List Nat) (rest : List WordWrite) :
    Memory := m.apply (fillWrites slot images target entry ++ [armWrite slot] ++ rest)

variable {m : Memory} (hm : m.wf = true) {rest : List WordWrite} (hrest : slotClear slot rest)
include hm hrest

theorem armedSlot_state : (armedSlot m slot images target entry rest).read16 slot = 1 := by
  rw [armedSlot, Memory.apply_append, Memory.apply_append,
    Memory.read16_apply_other _ rest slot (hrest.clearOf (by omega))]
  exact Memory.read16_writeWord_self _ (armWrite slot) (Memory.apply_wf m _ hm)

omit hm in
/-- What comes after the fill keeps clear of the slot's words behind its state. -/
theorem armed_clearOf {a : Nat} (hlo : slot + 2 ≤ a) (hhi : a + 2 ≤ slot + 616) : clearOf a ([armWrite slot] ++ rest) :=
  clearOf_append.2 ⟨(within_armWrite slot).clearOf (by omega), hrest.clearOf (by omega)⟩

include hentry in
/-- The words of the entry. -/
theorem armedSlot_entry {k : Nat} (hk : k < entry.length) :
    (armedSlot m slot images target entry rest).read16 (slot + 8 + 2 * k) = entry[k] % 65536 := by
  rw [armedSlot, fillWrites, List.append_assoc (_ ++ _)]
  exact Memory.read16_written m hm _ _ _ _ hk (armed_clearOf hrest (by omega) (by omega))

/-- The words of the entry's target. -/
theorem armedSlot_target {k : Nat} (hk : k < 2) :
    (armedSlot m slot images target entry rest).read16 (slot + 4 + 2 * k) = (words32 target)[k] % 65536 := by
  have hlast := within_putWords (slot + 8) entry
  rw [armedSlot, fillWrites, List.append_assoc, List.append_assoc]
  exact Memory.read16_written m hm _ _ _ (words32 target) hk
    (clearOf_append.2 ⟨hlast.clearOf (by omega), armed_clearOf hrest (by omega) (by omega)⟩)

include hcount in
/-- The image count. -/
theorem armedSlot_count : (armedSlot m slot images target entry rest).read16 (slot + 2) = images.length := by
  have hlast := within_putWords (slot + 8) entry
  have htarget := within_putWords (slot + 4) (words32 target)
  have hput : ([{ addr := slot + 2, word := images.length }] : List WordWrite) = putWords (slot + 2) [images.length] := by
    rw [putWords, Nat.mod_eq_of_lt (by omega)]
    rfl
  rw [armedSlot, fillWrites, hput, List.append_assoc, List.append_assoc, List.append_assoc]
  refine (Memory.read16_written m hm _ _ (slot + 2) [images.length] (k := 0) (Nat.zero_lt_succ _) ?_).trans
    (Nat.mod_eq_of_lt (show images.length < 65536 by omega))
  exact clearOf_append.2 ⟨htarget.clearOf (by omega),
    clearOf_append.2 ⟨hlast.clearOf (by omega), armed_clearOf hrest (by omega) (by omega)⟩⟩

include hcount hwords hentry in
/-- The words of an image. -/
theorem armedSlot_image {i k : Nat} (hi : i < images.length) (hk : k < images[i].slotWords.length) :
    (armedSlot m slot images target entry rest).read16 (slot + 40 + 72 * i + 2 * k) = images[i].slotWords[k] % 65536 := by
  have hlast := within_putWords (slot + 8) entry
  have htarget := within_putWords (slot + 4) (words32 target)
  have hsplit : images = images.take i ++ images[i] :: images.drop (i + 1) := by
    rw [List.getElem_cons_drop, List.take_append_drop]
  have hlen : (images.take i).length = i := by rw [List.length_take]; omega
  have himages : fillImages slot 0 images
      = fillImages slot 0 (images.take i) ++ (putWords (slot + 40 + 72 * i) images[i].slotWords
          ++ fillImages slot (i + 1) (images.drop (i + 1))) := by
    conv => lhs; rw [hsplit]
    rw [fillImages_append, hlen, Nat.zero_add, fillImages, fillImage_eq]
  have hafter := within_fillImages slot (i + 1) (images.drop (i + 1)) fun x hx => hwords x (List.mem_of_mem_drop hx)
  have hfits := images[i].slotWords_length
  have hsize := hwords images[i] (List.getElem_mem hi)
  rw [armedSlot, fillWrites, himages]
  simp only [List.append_assoc]
  rw [← List.append_assoc]
  refine Memory.read16_written m hm _ _ _ _ hk (clearOf_append.2 ⟨hafter.clearOf (by omega), clearOf_append.2 ⟨?_,
    clearOf_append.2 ⟨htarget.clearOf ?_, clearOf_append.2 ⟨hlast.clearOf (by omega), armed_clearOf hrest (by omega)
      (by omega)⟩⟩⟩⟩)
  · exact (show within (slot + 2) (slot + 4) _ by simp [within]).clearOf (by omega)
  · simp only [words32, List.length_cons, List.length_nil]
    omega

end Fill

/-! ## The slot read back (R62) -/

/-- The two words of a 32-bit field. -/
theorem Memory.read32_words {m : Memory} {a n : Nat} (hn : n < 4294967296)
    (h : ∀ k (hk : k < 2), m.read16 (a + 2 * k) = (words32 n)[k] % 65536) : m.read32 a = n := by
  have hlow : m.read16 a = n % 65536 % 65536 := h 0 (by decide)
  have hhigh : m.read16 (a + 2) = n / 65536 % 65536 % 65536 := h 1 (by decide)
  rw [Memory.read32, hlow, hhigh]
  omega

/-- What a slot holds of an image that was filled into it. -/
def Image.held (x : Image) : SlotImage := { image := x, length := 2 * x.words.length }

/-- An image place that holds the words of an image reads as that image. -/
theorem readSlotImage_held {m : Memory} {slot i : Nat} {x : Image} {g : Geometry} (hx : x.storable g slot)
    (h : ∀ k (hk : k < x.slotWords.length), m.read16 (slot + 40 + 72 * i + 2 * k) = x.slotWords[k] % 65536) :
    readSlotImage m slot i = x.held := by
  obtain ⟨hpos, hmax, hsmall, _, htarget, _⟩ := hx
  have hlen := x.slotWords_length
  have hlength : m.read16 (slot + 40 + 72 * i + 4) = 2 * x.words.length :=
    (h 2 (by omega)).trans (Nat.mod_eq_of_lt (show 2 * x.words.length < 65536 by omega))
  have hkind : (m.read16 (slot + 40 + 72 * i + 6) == 1) = x.counted := by
    rw [show m.read16 (slot + 40 + 72 * i + 6) = bitOf x.counted 0 % 65536 from h 3 (by omega)]
    cases x.counted <;> rfl
  have hplace : m.read32 (slot + 40 + 72 * i) = x.target := Memory.read32_words htarget fun k hk => by
    interval_cases k
    · exact h 0 (by omega)
    · exact h 1 (by omega)
  have hcount : min (2 * x.words.length / 2) 32 = x.words.length := by omega
  have hwords : readWords m (slot + 40 + 72 * i + 8) x.words.length = x.words := readWords_eq fun k hk => by
    rw [show slot + 40 + 72 * i + 8 + 2 * k = slot + 40 + 72 * i + 2 * (k + 4) by omega]
    exact (h (k + 4) (by omega)).trans (Nat.mod_eq_of_lt (hsmall _ (List.getElem_mem hk)))
  simp only [readSlotImage, hlength, hkind, hplace, hcount, hwords, Image.held]

/-- A held image passes the checks of R62. -/
theorem Image.held_ok {g : Geometry} {slot : Nat} {x : Image} (hx : x.storable g slot) : x.held.ok g = true := by
  obtain ⟨hpos, hmax, _, heven, _, hcounted, hinside, _⟩ := hx
  simp only [SlotImage.ok, Image.held, hinside, Bool.and_eq_true, Bool.or_eq_true, Bool.not_eq_true', beq_iff_eq,
    and_true]
  refine ⟨⟨⟨⟨by omega, decide_eq_true (by omega)⟩, decide_eq_true (by omega)⟩, heven⟩, ?_⟩
  cases hc : x.counted with
  | false => exact .inl rfl
  | true => exact .inr (decide_eq_true (by have := hcounted hc; omega))

/-- The passes of R60 write to the targets of the images, and the entry to its own. -/
theorem slotClear_applyWrites {g : Geometry} {slot target : Nat} {images : List Image} {entry : List Nat}
    (himages : ∀ x ∈ images, x.storable g slot) (hentry : entry.length = 16)
    (htarget : target + 32 ≤ slot ∨ slot + 616 ≤ target) : slotClear slot (applyWrites images target entry) := by
  have hfirst {x : Image} (hx : x ∈ images) (v : Nat) : slotClear slot [{ addr := x.target, word := v }] := by
    obtain ⟨hpos, _, _, _, _, _, _, hclear⟩ := himages x hx
    intro w hw
    rw [List.mem_singleton.1 hw]
    simp only
    omega
  refine slotClear_append.2 ⟨slotClear_append.2 ⟨slotClear_append.2 ⟨?_, ?_⟩, ?_⟩, ?_⟩
  · intro w hw
    obtain ⟨x, hx, rfl⟩ := List.mem_map.1 hw
    exact hfirst (List.mem_of_mem_filter hx) _ _ (List.mem_singleton_self _)
  · intro w hw
    obtain ⟨x, hx, hw⟩ := List.mem_flatMap.1 hw
    obtain ⟨hpos, _, _, _, _, _, _, hclear⟩ := himages x hx
    split at hw
    · have := within_putWords (x.target + 2) x.words.tail w hw
      rw [List.length_tail] at this
      omega
    · have := within_putWords x.target x.words w hw
      omega
  · intro w hw
    obtain ⟨x, hx, rfl⟩ := List.mem_map.1 hw
    exact hfirst (List.mem_of_mem_filter hx) _ _ (List.mem_singleton_self _)
  · exact (within_putWords target entry).slotClear (by omega)

/-- An armed slot replays the commit it was filled with. -/
theorem replayWrites_armedSlot {m : Memory} (hm : m.wf = true) {g : Geometry} {slot target : Nat} {images : List Image}
    {entry : List Nat} {rest : List WordWrite} (hrest : slotClear slot rest) (hcount : images.length ≤ 8)
    (himages : ∀ x ∈ images, x.storable g slot) (hentry : entry.length = 16) (hsmall : ∀ w ∈ entry, w < 65536)
    (htarget : target < 4294967296) (hinside : g.inWindow target 32 = true) :
    replayWrites g (armedSlot m slot images target entry rest) slot
      = .ok (applyWrites images target entry ++ [emptyWrite slot]) := by
  have hwords : ∀ x ∈ images, x.words.length ≤ 32 := fun x hx => by
    obtain ⟨_, hmax, _⟩ := himages x hx
    exact hmax
  have hheld : slotImages (armedSlot m slot images target entry rest) slot = images.map Image.held := by
    rw [slotImages, armedSlot_count hcount hm hrest]
    refine List.ext_getElem (by simp) fun i hi _ => ?_
    simp only [List.length_map, List.length_range] at hi
    rw [List.getElem_map, List.getElem_range, List.getElem_map]
    exact readSlotImage_held (himages _ (List.getElem_mem hi)) fun k hk =>
      armedSlot_image hcount hwords hentry hm hrest hi hk
  have hentry' : readWords (armedSlot m slot images target entry rest) (slot + 8) 16 = entry := by
    rw [← hentry]
    exact readWords_eq fun k hk => (armedSlot_entry hentry hm hrest hk).trans
      (Nat.mod_eq_of_lt (hsmall _ (List.getElem_mem hk)))
  have htarget' : (armedSlot m slot images target entry rest).read32 (slot + 4) = target :=
    Memory.read32_words htarget fun k hk => armedSlot_target hm hrest hk
  have hok : slotOk g (armedSlot m slot images target entry rest) slot = true := by
    simp only [slotOk, armedSlot_count hcount hm hrest, hheld, htarget', hinside, Bool.and_true, Bool.and_eq_true,
      decide_eq_true_eq, List.all_map, List.all_eq_true]
    exact ⟨hcount, fun x hx => Image.held_ok (himages x hx)⟩
  rw [replayWrites, armedSlot_state hm hrest, if_neg (by decide), if_pos hok, hheld, htarget', hentry', List.map_map]
  simp only [Function.comp_def, Image.held, List.map_id']

/-- Settles O52. -/
theorem replayCompletesTheCommit : Obligations.ReplayCompletesTheCommit := by
  intro m g slot target n images entry hm hcount himages hentry hsmall htarget hinside hclear hempty fill whole left
  have hwords : ∀ x ∈ images, x.words.length ≤ 32 := fun x hx => by
    obtain ⟨_, hmax, _⟩ := himages x hx
    exact hmax
  have hfill : within (slot + 2) (slot + 616) fill := within_fillWrites hcount hwords hentry
  have hwhole : whole = fill ++ ([armWrite slot] ++ (applyWrites images target entry ++ [emptyWrite slot])) := by
    simp [whole, fill, commitWrites]
  constructor
  · intro hn
    have hleft : left = m.apply (fill.take n) := by rw [← List.take_append_of_le_length hn, ← hwhole]
    have hpart : within (slot + 2) (slot + 616) (fill.take n) := fun w hw => hfill w (List.mem_of_mem_take hw)
    refine ⟨?_, fun a ha => ?_⟩
    · rw [replayWrites, hleft, Memory.read16_within m hpart (by omega), if_pos hempty]
    · rw [hleft, Memory.read8_within m hpart (by omega)]
  · intro hn
    obtain ⟨j, rfl⟩ := Nat.exists_eq_add_of_lt hn
    have hleft : left = m.apply (fill ++ [armWrite slot] ++ (applyWrites images target entry ++ [emptyWrite slot]).take j) := by
      rw [show left = m.apply (whole.take (fill.length + (1 + j))) by rw [← Nat.add_assoc, Nat.add_right_comm], hwhole,
        List.take_length_add_append, List.append_assoc]
      exact congrArg (fun ws => m.apply (fill ++ ws)) (List.take_length_add_append (l₁ := [armWrite slot]) j)
    have happlied := slotClear_applyWrites himages hentry hclear
    by_cases hj : j ≤ (applyWrites images target entry).length
    · rw [List.take_append_of_le_length hj] at hleft
      have hbegun : slotClear slot ((applyWrites images target entry).take j) :=
        fun w hw => happlied w (List.mem_of_mem_take hw)
      refine ⟨_, (congrArg (replayWrites g · slot) hleft).trans
        (replayWrites_armedSlot hm hbegun hcount himages hentry hsmall htarget hinside), fun a => ?_⟩
      rw [hleft, hwhole, ← List.append_assoc fill, Memory.apply_append m (fill ++ [armWrite slot]) (List.take _ _),
        Memory.apply_append m (fill ++ [armWrite slot]) (_ ++ [emptyWrite slot])]
      exact Memory.read8_apply_again (Memory.apply_wf m _ hm)
        (fun w hw => List.mem_append_left _ (List.mem_of_mem_take hw)) a
    · rw [List.take_of_length_le (by simp; omega), List.append_assoc, ← hwhole] at hleft
      have hreleased : left.read16 slot = 0 := by
        rw [hleft, hwhole, ← List.append_assoc, ← List.append_assoc, Memory.apply_append]
        exact Memory.read16_writeWord_self _ (emptyWrite slot) (Memory.apply_wf m _ hm)
      refine ⟨[], ?_, fun a => by rw [hleft]; rfl⟩
      rw [replayWrites, hreleased, if_pos (by decide)]

end Sys2Proof.Machine
end

section
/-! PROOF. The calendar (R116 to R127): the searches for an open day, the walk of an hour loan, and the fines. -/

namespace Sys2Proof.Machine
open Config

theorem Stamp.later_iff (a b : Stamp) : a.later b = true ↔ b.day < a.day ∨ (b.day = a.day ∧ b.minute < a.minute) := by
  simp [Stamp.later, eq_comm (a := a.day)]

namespace Rules

/-! ## The searches (R117, R118) -/

theorem isOpen_iff (r : Rules) (d : Nat) :
    r.isOpen d = true ↔ (r.hours d).openMinute < (r.hours d).closeMinute ∧
      ¬ (r.baseDay ≤ d ∧ d ≤ r.baseDay + 511 ∧ r.closedSet.getLsbD (d - r.baseDay) = true) := by
  rw [isOpen, Bool.and_eq_true, decide_eq_true_eq, Bool.not_eq_true', ← Bool.not_eq_true]
  simp only [isClosedDay, Bool.and_eq_true, decide_eq_true_eq, and_assoc]

theorem forwardSearch_found {r : Rules} {d e n : Nat} (hd : d ≤ e) (hn : e ≤ d + n) (hl : e ≤ lastDay)
    (ho : r.isOpen e = true) (hc : ∀ x, d ≤ x → x < e → r.isOpen x = false) : r.forwardSearch d n = some e := by
  induction n generalizing d with
  | zero =>
    obtain rfl : d = e := by omega
    rw [forwardSearch, if_pos ho]
  | succ n ih =>
    rw [forwardSearch]
    obtain rfl | hlt := Nat.eq_or_lt_of_le hd
    · rw [if_pos ho]
    · rw [if_neg (by rw [hc d le_rfl hlt]; decide), if_neg (by omega),
        ih hlt (by omega) fun x hx => hc x (by omega)]

theorem forwardSearch_none {r : Rules} {d n : Nat} (hd : d ≤ lastDay)
    (hc : ∀ x, d ≤ x → x ≤ d + n → x ≤ lastDay → r.isOpen x = false) : r.forwardSearch d n = none := by
  induction n generalizing d with
  | zero => simp [forwardSearch, hc d le_rfl (by omega) hd]
  | succ n ih =>
    rw [forwardSearch, if_neg (by rw [hc d le_rfl (by omega) hd]; decide)]
    split
    · rfl
    · exact ih (by omega) fun x hx hn => hc x (by omega) (by omega)

theorem countOpen_eq (r : Rules) (u n : Nat) :
    r.countOpen u n = ((List.range n).filter fun i => r.isOpen (u + 1 + i)).length := by
  induction n with
  | zero => rfl
  | succ n ih =>
    rw [countOpen, ih, List.range_succ, List.filter_append, List.length_append,
      show u + (n + 1) = u + 1 + n by omega]
    cases h : r.isOpen (u + 1 + n) <;> simp [h]

end Rules

theorem latestDay_found {p : Nat → Bool} {a e n : Nat} (ha : a ≤ e) (hn : e ≤ a + n) (he : p e = true)
    (hl : ∀ x, e < x → x ≤ a + n → p x = false) : latestDay p a n = some e := by
  induction n with
  | zero =>
    obtain rfl : a = e := by omega
    rw [latestDay, if_pos he]
  | succ n ih =>
    rw [latestDay]
    obtain rfl | hlt := Nat.eq_or_lt_of_le hn
    · rw [if_pos he]
    · rw [if_neg (by rw [hl _ hlt le_rfl]; decide), ih (by omega) fun x hx hn => hl x hx (by omega)]

theorem latestDay_none {p : Nat → Bool} {a n : Nat} (hp : ∀ x, a ≤ x → x ≤ a + n → p x = false) : latestDay p a n = none := by
  induction n with
  | zero => simp [latestDay, hp a le_rfl le_rfl]
  | succ n ih =>
    rw [latestDay, if_neg (by rw [hp _ (by omega) le_rfl]; decide), ih fun x hx hn => hp x hx (by omega)]

namespace Rules

/-! ## The due stamp of a day loan (R119, R120) -/

theorem dueDays_free {r : Rules} {st : Stamp} {period expiry day : Nat} {limited : Bool}
    (hc : r.dayCandidate st.day period = (day, limited)) (he : expiry < st.day ∨ day ≤ expiry) :
    r.dueDays st period expiry
      = { due := { day := day, minute := 1439 }, flags := { DueFlags.empty with limited := limited } } := by
  simp only [dueDays, hc]
  exact if_neg (by omega)

theorem dueDays_clamped {r : Rules} {st : Stamp} {period expiry day : Nat} {limited : Bool}
    (hc : r.dayCandidate st.day period = (day, limited)) (hs : st.day ≤ expiry) (he : expiry < day) :
    r.dueDays st period expiry
      = { due := { day := (latestDay r.isOpen st.day (expiry - st.day)).getD expiry, minute := 1439 },
          flags := { DueFlags.empty with clamped := true, limited := limited } } := by
  simp only [dueDays, hc]
  exact if_pos ⟨hs, he⟩

theorem dayCandidate_found {r : Rules} {s period d : Nat} (h : r.forwardSearch (min (s + period) lastDay) 31 = some d) :
    r.dayCandidate s period = (d, false) := by simp only [dayCandidate, h]

theorem dayCandidate_none {r : Rules} {s period : Nat} (h : r.forwardSearch (min (s + period) lastDay) 31 = none) :
    r.dayCandidate s period = (min (s + period) lastDay, true) := by simp only [dayCandidate, h]

theorem pickupDeadline_found {r : Rules} {s p d : Nat} (h : r.forwardSearch (min (s + p) lastDay) 31 = some d) :
    r.pickupDeadline s p = d := by rw [pickupDeadline, h, Option.getD_some]

theorem pickupDeadline_none {r : Rules} {s p : Nat} (h : r.forwardSearch (min (s + p) lastDay) 31 = none) :
    r.pickupDeadline s p = min (s + p) lastDay := by rw [pickupDeadline, h, Option.getD_none]

/-- R120, from the candidate of R119: it stands, or the expiry clamps it to the last open day from the stamp on. -/
theorem dueDays_settles {r : Rules} {st : Stamp} {period expiry day : Nat} {limited : Bool}
    (hc : r.dayCandidate st.day period = (day, limited)) :
    let due : Nat → Bool → Prop := fun x clamped =>
      r.dueDays st period expiry
        = { due := { day := x, minute := 1439 }
            flags := { hourLoan := false, clamped := clamped, limited := limited, renewed := false, holdFulfilled := false } }
    (expiry < st.day ∨ day ≤ expiry → due day false) ∧
    (∀ e, st.day ≤ expiry → expiry < day → st.day ≤ e → e ≤ expiry → r.isOpen e = true →
      (∀ x, e < x → x ≤ expiry → r.isOpen x = false) → due e true) ∧
    (st.day ≤ expiry → expiry < day → (∀ x, st.day ≤ x → x ≤ expiry → r.isOpen x = false) → due expiry true) := by
  refine ⟨dueDays_free hc, fun e hs he hse hle ho hx => ?_, fun hs he hx => ?_⟩
  · rw [dueDays_clamped hc hs he, latestDay_found hse (by omega) ho fun x hex hn => hx x hex (by omega)]
    rfl
  · rw [dueDays_clamped hc hs he, latestDay_none fun x hsx hn => hx x hsx (by omega)]
    rfl

/-! ## The walk of an hour loan (R121) -/

/-- The open minutes of day `d` from minute `m` on. -/
def minutesFrom (r : Rules) (d m : Nat) : Nat := if r.isOpen d then (r.hours d).closeMinute - max m (r.hours d).openMinute else 0

theorem minutesFrom_of_open {r : Rules} {d : Nat} (h : r.isOpen d = true) (m : Nat) :
    r.minutesFrom d m = (r.hours d).closeMinute - max m (r.hours d).openMinute := if_pos h

theorem minutesFrom_of_closed {r : Rules} {d : Nat} (h : r.isOpen d = false) (m : Nat) : r.minutesFrom d m = 0 :=
  if_neg (by rw [h]; decide)

/-- A day counts with as many minutes as it gives; the walk ends in the day that gives the minutes left. -/
theorem hourWalk_ends {r : Rules} {d m l : Nat} (n : Nat) (hl : 0 < l) (h : l ≤ r.minutesFrom d m) :
    r.hourWalk d m l n = some { day := d, minute := max m (r.hours d).openMinute + l } := by
  cases ho : r.isOpen d with
  | false => rw [minutesFrom_of_closed ho] at h; omega
  | true =>
    rw [minutesFrom_of_open ho] at h
    have hm : m < (r.hours d).closeMinute := by omega
    have counted : ((r.isOpen d && decide (m < (r.hours d).closeMinute)) = true) := by rw [ho, decide_eq_true hm]; rfl
    cases n with
    | zero => rw [hourWalk]; exact if_pos ⟨counted, h⟩
    | succ n => rw [hourWalk]; exact if_pos ⟨counted, h⟩

theorem not_ends {r : Rules} {d m l : Nat} (h : r.minutesFrom d m < l) :
    ¬ ((r.isOpen d && decide (m < (r.hours d).closeMinute)) = true ∧
      l ≤ (r.hours d).closeMinute - max m (r.hours d).openMinute) := fun ⟨hc, hle⟩ => by
  rw [minutesFrom_of_open (Bool.and_eq_true_iff.mp hc).1] at h
  omega

theorem minutes_left {r : Rules} {d m l : Nat} :
    (if (r.isOpen d && decide (m < (r.hours d).closeMinute)) = true
      then l - ((r.hours d).closeMinute - max m (r.hours d).openMinute) else l) = l - r.minutesFrom d m := by
  cases ho : r.isOpen d with
  | false => simp [minutesFrom_of_closed ho]
  | true =>
    rw [minutesFrom_of_open ho]
    simp only [Bool.true_and, decide_eq_true_eq]
    split
    · rfl
    · omega

theorem hourWalk_last {r : Rules} {d m l : Nat} (h : r.minutesFrom d m < l) : r.hourWalk d m l 0 = none := by
  rw [hourWalk]
  exact if_neg (not_ends h)

theorem hourWalk_goesOn {r : Rules} {d m l : Nat} (n : Nat) (h : r.minutesFrom d m < l) :
    r.hourWalk d m l (n + 1) = if lastDay ≤ d then none else r.hourWalk (d + 1) 0 (l - r.minutesFrom d m) n := by
  rw [hourWalk, ← minutes_left]
  exact if_neg (not_ends h)

/-- The minute from which the walk from a stamp counts a day. -/
def walkMinute (st : Stamp) (d : Nat) : Nat := if d = st.day then st.minute else 0

/-- The minutes that the walk from a stamp counts before day `d`. -/
def minutesBefore (r : Rules) (st : Stamp) (d : Nat) : Nat :=
  ((List.range (d - st.day)).map fun i => r.minutesFrom (st.day + i) (walkMinute st (st.day + i))).sum

theorem minutesBefore_start (r : Rules) (st : Stamp) : r.minutesBefore st st.day = 0 := by simp [minutesBefore]

theorem minutesBefore_next (r : Rules) {st : Stamp} {d : Nat} (h : st.day ≤ d) :
    r.minutesBefore st (d + 1) = r.minutesBefore st d + r.minutesFrom d (walkMinute st d) := by
  obtain ⟨i, rfl⟩ := Nat.exists_eq_add_of_le h
  rw [minutesBefore, show st.day + i + 1 - st.day = i + 1 by omega, List.range_succ, List.map_append, List.sum_append,
    minutesBefore, Nat.add_sub_cancel_left]
  simp

theorem minutesBefore_mono (r : Rules) {st : Stamp} {d e : Nat} (hs : st.day ≤ d) (h : d ≤ e) :
    r.minutesBefore st d ≤ r.minutesBefore st e := by
  induction e, h using Nat.le_induction with
  | base => exact le_rfl
  | succ e he ih => rw [minutesBefore_next r (by omega)]; omega

theorem walkMinute_next {st : Stamp} {d : Nat} (h : st.day ≤ d) : walkMinute st (d + 1) = 0 := if_neg (by omega)

/-- From day `d`, with the minutes of the days before it already counted, the walk ends in the first day that fills the total. -/
theorem hourWalk_found {r : Rules} {st : Stamp} {total d e n : Nat} (hs : st.day ≤ d) (hd : d ≤ e) (hn : e ≤ d + n)
    (hl : e ≤ lastDay) (hb : r.minutesBefore st e < total)
    (ht : total ≤ r.minutesBefore st e + r.minutesFrom e (walkMinute st e)) :
    r.hourWalk d (walkMinute st d) (total - r.minutesBefore st d) n
      = some { day := e, minute := max (walkMinute st e) (r.hours e).openMinute + (total - r.minutesBefore st e) } := by
  induction n generalizing d with
  | zero =>
    obtain rfl : d = e := by omega
    exact hourWalk_ends _ (by omega) (by omega)
  | succ n ih =>
    obtain rfl | hlt := Nat.eq_or_lt_of_le hd
    · exact hourWalk_ends _ (by omega) (by omega)
    · have next := minutesBefore_next r hs
      have upTo := minutesBefore_mono r (e := e) (show st.day ≤ d + 1 by omega) hlt
      rw [hourWalk_goesOn n (by omega), if_neg (by omega), ← ih (by omega) hlt (by omega), walkMinute_next hs, next,
        Nat.sub_add_eq]

theorem hourWalk_none {r : Rules} {st : Stamp} {total d n : Nat} (hs : st.day ≤ d) (hd : d ≤ lastDay)
    (hb : r.minutesBefore st (min (d + n) lastDay + 1) < total) :
    r.hourWalk d (walkMinute st d) (total - r.minutesBefore st d) n = none := by
  have next := minutesBefore_next r hs
  have upTo := minutesBefore_mono r (d := d + 1) (e := min (d + n) lastDay + 1) (st := st) (by omega) (by omega)
  induction n generalizing d with
  | zero => exact hourWalk_last (by omega)
  | succ n ih =>
    rw [hourWalk_goesOn n (by omega)]
    split
    · rfl
    · have more := ih (d := d + 1) (by omega) (by omega) (by rwa [show d + 1 + n = d + (n + 1) by omega])
        (minutesBefore_next r (by omega)) (minutesBefore_mono r (by omega) (by omega))
      rwa [walkMinute_next hs, next, Nat.sub_add_eq] at more

/-! ## The due stamp of an hour loan (R121, R122) -/

theorem hourCandidate_found {r : Rules} {st : Stamp} {period d : Nat} (hs : st.day ≤ d) (hl : d ≤ min (st.day + 14) lastDay)
    (hb : r.minutesBefore st d < period * 60)
    (ht : period * 60 ≤ r.minutesBefore st d + r.minutesFrom d (walkMinute st d)) :
    r.hourCandidate st period
      = (r.roundHour { day := d, minute := max (walkMinute st d) (r.hours d).openMinute + (period * 60 - r.minutesBefore st d) },
          false) := by
  have walk := hourWalk_found (n := 14) le_rfl hs (by omega) (by omega) hb ht
  rw [minutesBefore_start, Nat.sub_zero, walkMinute, if_pos rfl] at walk
  simp only [hourCandidate, walk]

theorem hourCandidate_none {r : Rules} {st : Stamp} {period : Nat} (hs : st.day ≤ lastDay)
    (hb : r.minutesBefore st (min (st.day + 14) lastDay + 1) < period * 60) :
    r.hourCandidate st period = ({ day := min (st.day + 14) lastDay, minute := 1439 }, true) := by
  have walk := hourWalk_none (n := 14) le_rfl hs hb
  rw [minutesBefore_start, Nat.sub_zero, walkMinute, if_pos rfl] at walk
  simp only [hourCandidate, walk]

theorem dueHours_free {r : Rules} {st x : Stamp} {period expiry : Nat} {limited : Bool}
    (hc : r.hourCandidate st period = (x, limited)) (he : expiry < st.day ∨ x.day ≤ expiry) :
    r.dueHours st period expiry = { due := x, flags := { DueFlags.empty with hourLoan := true, limited := limited } } := by
  simp only [dueHours, hc]
  exact if_neg (by omega)

theorem dueHours_clamped {r : Rules} {st x : Stamp} {period expiry e : Nat} {limited : Bool}
    (hc : r.hourCandidate st period = (x, limited)) (hs : st.day ≤ expiry) (he : expiry < x.day)
    (hd : latestDay (r.clampDay st) st.day (expiry - st.day) = some e) :
    r.dueHours st period expiry
      = { due := { day := e, minute := (r.hours e).closeMinute },
          flags := { DueFlags.empty with hourLoan := true, clamped := true, limited := limited } } := by
  simp only [dueHours, hc, hd]
  exact if_pos ⟨hs, he⟩

theorem dueHours_unclamped {r : Rules} {st x : Stamp} {period expiry : Nat} {limited : Bool}
    (hc : r.hourCandidate st period = (x, limited)) (hs : st.day ≤ expiry) (he : expiry < x.day)
    (hd : latestDay (r.clampDay st) st.day (expiry - st.day) = none) :
    r.dueHours st period expiry
      = { due := { day := expiry, minute := 1439 },
          flags := { DueFlags.empty with hourLoan := true, clamped := true, limited := true } } := by
  simp only [dueHours, hc, hd]
  exact if_pos ⟨hs, he⟩

theorem clampDay_iff (r : Rules) (st : Stamp) (d : Nat) :
    r.clampDay st d = true ↔ r.isOpen d = true ∧ (st.day < d ∨ st.minute < (r.hours d).closeMinute) := by
  simp [clampDay]

/-- R122, from the candidate of R121: it stands, or the expiry clamps it to the last day whose close is later than the stamp. -/
theorem dueHours_settles {r : Rules} {st x : Stamp} {period expiry : Nat} {limited : Bool}
    (hc : r.hourCandidate st period = (x, limited)) :
    let due : Stamp → Bool → Bool → Prop := fun y clamped lim =>
      r.dueHours st period expiry
        = { due := y
            flags := { hourLoan := true, clamped := clamped, limited := lim, renewed := false, holdFulfilled := false } }
    let qualifies : Nat → Prop := fun e =>
      st.day ≤ e ∧ e ≤ expiry ∧ r.isOpen e = true ∧ (st.day < e ∨ st.minute < (r.hours e).closeMinute)
    (expiry < st.day ∨ x.day ≤ expiry → due x false limited) ∧
    (∀ e, st.day ≤ expiry → expiry < x.day → qualifies e → (∀ y, e < y → ¬ qualifies y) →
      due { day := e, minute := (r.hours e).closeMinute } true limited) ∧
    (st.day ≤ expiry → expiry < x.day → (∀ y, ¬ qualifies y) → due { day := expiry, minute := 1439 } true true) := by
  refine ⟨dueHours_free hc, fun e hs he ⟨hse, hle, hq⟩ hx => ?_, fun hs he hx => ?_⟩
  · refine dueHours_clamped hc hs he (latestDay_found hse (by omega) ((clampDay_iff r st e).mpr hq) fun y hey hn => ?_)
    exact Bool.eq_false_iff.mpr fun hy => hx y hey ⟨by omega, by omega, (clampDay_iff r st y).mp hy⟩
  · refine dueHours_unclamped hc hs he (latestDay_none fun y hsy hn => ?_)
    exact Bool.eq_false_iff.mpr fun hy => hx y ⟨by omega, by omega, (clampDay_iff r st y).mp hy⟩

/-! ## Fines (R124, R125) -/

theorem fine_dayLoan {r : Rules} {p : PolicyEntry} {due st : Stamp}
    (h : due.day < st.day ∨ (due.day = st.day ∧ due.minute < st.minute)) : r.fine p false due st = r.dayFine p due st :=
  if_pos ((st.later_iff due).mpr h)

theorem fine_hourLoan {r : Rules} {p : PolicyEntry} {due st : Stamp}
    (h : due.day < st.day ∨ (due.day = st.day ∧ due.minute < st.minute)) : r.fine p true due st = r.hourFine p due st :=
  if_pos ((st.later_iff due).mpr h)

theorem fine_of_not_overdue {r : Rules} {p : PolicyEntry} {due st : Stamp} (hourLoan : Bool)
    (h : ¬ (due.day < st.day ∨ (due.day = st.day ∧ due.minute < st.minute))) : r.fine p hourLoan due st = 0 :=
  if_neg fun hl => h ((st.later_iff due).mp hl)

/-- The open minutes of day `d` from stamp `due` to stamp `st` (R125, step 2). -/
def overdueMinutes (r : Rules) (due st : Stamp) (d : Nat) : Nat :=
  r.openMinutes d (if d = due.day then due.minute else 0) (if d = st.day then st.minute else 1440)

theorem minutesBetween_eq (r : Rules) (due st : Stamp) (n : Nat) :
    r.minutesBetween due st n = ((List.range (n + 1)).map fun i => r.overdueMinutes due st (due.day + i)).sum := by
  induction n with
  | zero => simp [minutesBetween, overdueMinutes]
  | succ n ih =>
    rw [minutesBetween, ih, List.range_succ (n := n + 1), List.map_append, List.sum_append]
    simp [overdueMinutes]

end Rules
end Sys2Proof.Machine
end

section
/-! PROOF. The days that the rules count, assembled. -/

namespace Sys2Proof.Machine
open Config

/-- Settles O53. -/
theorem daysAreCounted : Obligations.DaysAreCounted := by
  refine ⟨fun r st period expiry => ⟨r.isOpen_iff, fun d ⟨hd, hn, hl, ho, hc⟩ => ?_, fun hc => ?_, fun p loan => ⟨?_, ?_⟩⟩,
    fun r st period expiry hp hs => ?_,
    fun r number itemClass borrowerClass => ⟨fun c hc => ?_, fun p hp => ?_, fun k hk => ?_, fun h hh => ?_⟩,
    fun r p st expiry => ⟨fun h => ?_, fun h => ?_⟩⟩
  · have found := Rules.forwardSearch_found hd hn hl ho hc
    exact ⟨Rules.dueDays_settles (Rules.dayCandidate_found found), Rules.pickupDeadline_found found⟩
  · have none := Rules.forwardSearch_none (Nat.min_le_right _ _) hc
    exact ⟨Rules.dueDays_settles (Rules.dayCandidate_none none), Rules.pickupDeadline_none none⟩
  · intro h
    rw [Rules.fine_dayLoan h, ← Rules.countOpen_eq]
    rfl
  · exact Rules.fine_of_not_overdue _
  · have start : ∀ d, (if d = st.day then max st.minute (r.hours d).openMinute else (r.hours d).openMinute)
        = max (Rules.walkMinute st d) (r.hours d).openMinute := fun d => by
      rw [Rules.walkMinute]
      split
      · rfl
      · rw [Nat.zero_max]
    have gives : ∀ d, (if r.isOpen d then (r.hours d).closeMinute
        - (if d = st.day then max st.minute (r.hours d).openMinute else (r.hours d).openMinute) else 0)
        = r.minutesFrom d (Rules.walkMinute st d) := fun d => by rw [start]; rfl
    have before : ∀ d, ((List.range (d - st.day)).map fun i => if r.isOpen (st.day + i) then (r.hours (st.day + i)).closeMinute
        - (if st.day + i = st.day then max st.minute (r.hours (st.day + i)).openMinute else (r.hours (st.day + i)).openMinute)
        else 0).sum = r.minutesBefore st d := fun d => by simp only [gives]; rfl
    refine ⟨fun d hd hl hb ht => Rules.dueHours_settles ?_, fun hb => Rules.dueHours_settles ?_,
      fun p loan => ⟨fun ho hf => ?_, fun ho hf => ?_, Rules.fine_of_not_overdue _⟩⟩
    · rw [Rules.hourCandidate_found hd hl ((before d).symm.trans_lt hb)
        (ht.trans_eq (congrArg₂ (· + ·) (before d) (gives d))), ← start, ← before]
      rfl
    · exact Rules.hourCandidate_none hs ((before _).symm.trans_lt hb)
    · rw [Rules.fine_hourLoan ho]
      exact if_pos hf
    · rw [Rules.fine_hourLoan ho, Rules.hourFine, if_neg (by omega), Rules.minutesBetween_eq]
      rfl
  · rw [Rules.classOfNumber, List.getD_eq_getElem?_getD, hc, Option.getD_some]
  · rw [Rules.policyEntry, Nat.mul_comm, List.getD_eq_getElem?_getD, hp, Option.getD_some]
  · rw [Rules.borrowerClass, List.getD_eq_getElem?_getD, hk, Option.getD_some]
  · rw [Rules.allowsHolds, List.getD_eq_getElem?_getD, hh, Option.getD_some]
  · simp only [Rules.dueStamp, h]
  · simp only [Rules.dueStamp, h]

end Sys2Proof.Machine
end

section
/-! PROOF. A transaction that commits (R59, R89): what the commit makes of the state, and what a hand-over leaves unchanged. -/

namespace Sys2Proof.Machine

/-! ## The commit -/

theorem State.raiseIf_withMem (s : State) (b : Bool) (c : Cause) (m : Memory) :
    (s.raiseIf b c).withMem m = (s.withMem m).raiseIf b c := by cases b <;> rfl

theorem State.raiseIf_withJournal (s : State) (b : Bool) (c : Cause) (j : Journal) :
    (s.raiseIf b c).withJournal j = (s.withJournal j).raiseIf b c := by cases b <;> rfl

/-- Without an entry, the cut alone moves the view, and JOURNAL_LOW is raised for it. -/
theorem State.commit_silent {s : State} {p : Plan} (he : p.entry = none) (hc : p.clock = none) :
    s.commit p = ((s.withMem (p.memory s)).withJournal (p.journal s)).raiseIf (fellLow s.journal.room (p.journal s).room)
      .journalLow := by
  simp only [State.commit, State.releaseView, he, hc, State.armClock, Plan.writes, Plan.slotWrites, List.append_nil,
    State.raiseIf_withMem]
  rfl

/-- With an entry, its append moves the view on from the cut, and the clock of a SET_CLOCK follows. -/
theorem State.commit_entry {s : State} {p : Plan} {e : EntryBody} (he : p.entry = some e) :
    s.commit p = ((((s.withMem ((p.memory s).apply
          (commitWrites s.slotAddress (p.images ++ (p.append s).images) (p.append s).target
            (e.words (p.journal s).nextSequence)))).withJournal (p.append s).view).raiseIf
        (fellLow s.journal.room (p.journal s).room) .journalLow).raiseIf
        (fellLow (p.journal s).room (p.append s).view.room) .journalLow).armClock p.clock := by
  simp only [State.commit, State.releaseView, he, Plan.writes, Plan.slotWrites, State.raiseIf_withMem,
    State.raiseIf_withJournal, Memory.apply_append]
  rfl

theorem Sweep.start_eq (w : Sweep) : w.start
    = if w.state = .idle then { w with state := .running, changed := false } else { w with state := .running } := by
  obtain ⟨state, _, _⟩ := w
  cases state <;> rfl

theorem clockMovesOn_iff (old new : Clock) : clockMovesOn old new = true ↔ old.isSet = false ∨ old.day < new.day := by
  simp [clockMovesOn]

theorem State.setClockAt_eq (s : State) (c : Clock) : s.setClockAt c
    = if s.clock.isSet = false ∨ s.clock.day < c.day then
        ((s.withClock c).raise .dayChanged).withSweep
          (if s.sweep.state = .idle then { s.sweep with state := .running, changed := false }
            else { s.sweep with state := .running })
      else s.withClock c := by
  rw [State.setClockAt, Sweep.start_eq]
  exact if_congr (clockMovesOn_iff _ _) rfl rfl

theorem State.armClock_some {s u : State} (c : Clock) (hc : u.clock = s.clock) (hw : u.sweep = s.sweep) :
    u.armClock (some c)
      = if s.clock.isSet = false ∨ s.clock.day < c.day then
          ((u.withClock c).raise .dayChanged).withSweep
            (if s.sweep.state = .idle then { s.sweep with state := .running, changed := false }
              else { s.sweep with state := .running })
        else u.withClock c := by
  rw [State.armClock, State.setClockAt_eq, hc, hw]

/-- The printer and the bytes of its group are all that a slip request changes (R179). -/
structure State.SlipFrame (s u : State) : Prop where
  rest : u = { s with mem := u.mem, printer := u.printer }
  bytes : ∀ a, a < s.desk.anchor + offPrinter ∨ s.desk.anchor + offPrinter + 16 ≤ a → u.mem.read8 a = s.mem.read8 a

theorem State.SlipFrame.refl (s : State) : s.SlipFrame s := ⟨rfl, fun _ _ => rfl⟩

theorem within_groupWrites {lo hi a : Nat} {body : List WordWrite} (m : Memory) (h : within lo hi body) (hlo : lo ≤ a)
    (hhi : a + 2 ≤ hi) : within lo hi (groupWrites m a body) :=
  within_cons.2 ⟨⟨hlo, hhi⟩, within_append.2 ⟨h, within_cons.2 ⟨⟨hlo, hhi⟩, within_nil _ _⟩⟩⟩

theorem State.countPrinter_slipFrame (s : State) {off : Nat} (hlo : offPrinter ≤ off) (hhi : off + 4 ≤ offPrinter + 16) :
    s.SlipFrame (s.countPrinter off) := by
  unfold State.countPrinter
  split
  · refine ⟨rfl, fun a ha => Memory.read8_within _ (within_groupWrites _ ?_ le_rfl (by omega)) ha⟩
    exact (within_putWords _ _).mono (by omega) (by simp only [words32, List.length_cons, List.length_nil]; omega)
  · exact .refl s

theorem State.requestSlip_slipFrame (s : State) (x : Slip) : s.SlipFrame (s.requestSlip x) := by
  unfold State.requestSlip
  split
  · exact ⟨rfl, fun _ _ => rfl⟩
  · exact s.countPrinter_slipFrame (by decide) (by decide)

theorem State.requestPlanned_slipFrame (s : State) (x : Option Slip) : s.SlipFrame (s.requestPlanned x).1 := by
  cases x with
  | none => exact .refl s
  | some x => exact s.requestSlip_slipFrame x

/-- A slip request leaves the engine and the executor. -/
theorem State.SlipFrame.engine {s u : State} (h : s.SlipFrame u) : u.engine = s.engine := (congrArg State.engine h.rest :)

theorem State.SlipFrame.executor {s u : State} (h : s.SlipFrame u) : u.executor = s.executor := (congrArg State.executor h.rest :)

/-- The memory, the clock, the causes, the sweep and the journal are all that a commit changes. -/
theorem State.commit_rest (s : State) (p : Plan) :
    s.commit p = { s with mem := s.mem.apply (p.writes s), clock := (s.commit p).clock, notices := (s.commit p).notices,
                          sweep := (s.commit p).sweep, journal := (s.commit p).journal } := by
  have view : ∀ u : State, ∀ b c, u.raiseIf b c = { u with notices := (u.raiseIf b c).notices } := fun u b c => by
    cases b <;> rfl
  have released : s.releaseView p
      = { s with notices := (s.releaseView p).notices, journal := (s.releaseView p).journal } := by
    unfold State.releaseView
    split
    · rw [view]; rfl
    · rw [view, view]; rfl
  have armed : ∀ u : State, ∀ c, u.armClock c
      = { u with clock := (u.armClock c).clock, notices := (u.armClock c).notices, sweep := (u.armClock c).sweep } :=
    fun u c => by
    cases c with
    | none => rfl
    | some c =>
      rw [State.armClock, State.setClockAt]
      split <;> rfl
  rw [State.commit, armed, released]
  rfl

theorem State.commit_clockKept {s : State} {p : Plan} (hc : p.clock = none) :
    (s.commit p).clock = s.clock ∧ (s.commit p).sweep = s.sweep := by
  have released : (s.releaseView p).clock = s.clock ∧ (s.releaseView p).sweep = s.sweep := by
    unfold State.releaseView
    split <;> simp
  simp only [State.commit, hc]
  exact released

/-! ## What a label's completion leaves unchanged -/

/-- The station, the printer and the bytes of its group are all that the completion of a label changes. -/
structure State.LabelFrame (i : Fin 4) (s u : State) : Prop where
  rest : u = { s with mem := u.mem, stations := u.stations, printer := u.printer }
  others : ∀ j, j ≠ i → u.station j = s.station j
  bytes : ∀ a, a < s.desk.anchor + offPrinter ∨ s.desk.anchor + offPrinter + 16 ≤ a → u.mem.read8 a = s.mem.read8 a

namespace State.LabelFrame

variable {i : Fin 4} {s u v : State}

theorem ofSlip (h : s.SlipFrame u) : s.LabelFrame i u :=
  ⟨h.rest.trans (congrArg (fun st => { s with mem := u.mem, stations := st, printer := u.printer })
      (congrArg State.stations h.rest :).symm),
    fun j _ => (congrArg (fun w => State.station w j) h.rest :), h.bytes⟩

theorem refl (s : State) : s.LabelFrame i s := ofSlip (.refl s)

theorem trans (hu : s.LabelFrame i u) (hv : u.LabelFrame i v) : s.LabelFrame i v := by
  have anchor : u.desk = s.desk := (congrArg State.desk hu.rest :)
  refine ⟨hv.rest.trans ?_, fun j hj => (hv.others j hj).trans (hu.others j hj), fun a ha => ?_⟩
  · exact congrArg (fun w : State => { w with mem := v.mem, stations := v.stations, printer := v.printer }) hu.rest
  · exact (hv.bytes a (by rwa [anchor])).trans (hu.bytes a ha)

theorem setStation (s : State) (t : Station) : s.LabelFrame i (s.setStation i t) :=
  ⟨rfl, fun _ hj => State.setStation_station_other s i _ t (Ne.symm hj), fun _ _ => rfl⟩

end State.LabelFrame

theorem State.requestDueDate_slipFrame (s : State) (i : Fin 4) : s.SlipFrame (s.requestDueDate i).1 := by
  unfold State.requestDueDate
  dsimp only
  split
  · exact s.requestSlip_slipFrame _
  · exact .refl s

theorem State.closeSession_frame (s : State) (i : Fin 4) : s.LabelFrame i (s.closeSession i).1 := by
  unfold State.closeSession
  split
  · exact .refl s
  · exact (State.LabelFrame.ofSlip (s.requestDueDate_slipFrame i)).trans (.setStation _ _)

theorem State.recordItem_frame (s : State) (i : Fin 4) (e : SessionItem) : s.LabelFrame i (s.recordItem i e).1 := by
  unfold State.recordItem
  dsimp only
  split
  · exact .setStation _ _
  · split
    · exact .setStation _ _
    · exact (State.LabelFrame.ofSlip (s.requestDueDate_slipFrame i)).trans (.setStation _ _)

theorem State.closeBefore_frame (s : State) (i : Fin 4) (k : TxnKind) : s.LabelFrame i (s.closeBefore i k).1 := by
  unfold State.closeBefore
  split
  · exact s.closeSession_frame i
  · exact .refl s

theorem State.applyResult_frame (s : State) (i : Fin 4) (r : StationResult) : s.LabelFrame i (s.applyResult i r).1 := by
  unfold State.applyResult
  split
  · exact .setStation _ _
  · exact s.recordItem_frame i _
  · split
    · exact s.closeSession_frame i
    · exact .refl s

theorem State.completeLabel_frame (s : State) (i : Fin 4) (k : TxnKind) (r : StationResult) (lost : Bool) :
    s.LabelFrame i (s.completeLabel i k r lost) :=
  ((s.closeBefore_frame i k).trans (State.applyResult_frame _ i r)).trans (.setStation _ _)

/-! ## What the end of an order leaves unchanged -/

theorem OrderResult.within_writes (r : OrderResult) (block : Nat) : within block (block + 12) (r.writes block) :=
  within_append.2 ⟨within_append.2 ⟨(within_putWords _ _).mono (by omega) (by simp),
    (within_putWords _ _).mono (by omega) (by simp [words32])⟩, (within_putWords _ _).mono le_rfl (by simp)⟩

theorem State.finishOrder_rest (s : State) (r : OrderResult) :
    s.finishOrder r = { s with mem := (s.finishOrder r).mem, executor := (s.finishOrder r).executor } := by
  unfold State.finishOrder
  split
  · rfl
  · split <;> rfl

theorem State.finishOrder_read8 {s : State} {l : RunningList} (r : OrderResult) (hl : s.executor.running = some l) {a : Nat}
    (ha : a < l.address ∨ l.address + 12 ≤ a) : (s.finishOrder r).mem.read8 a = s.mem.read8 a := by
  simp only [State.finishOrder, hl]
  split
  · rfl
  · exact Memory.read8_within _ (r.within_writes _) ha

/-! ## The report pointer -/

theorem State.movePointer_eq (s : State) (v : Option Nat) :
    s.movePointer v = s.withExecutor { s.executor with pointer := v.getD s.executor.pointer } := by cases v <;> rfl

theorem State.requestPlanned_lost (s : State) (p : Plan) :
    ((s.commit p).requestPlanned p.slip).2 = (p.slip.isSome && decide (16 ≤ s.printer.queue.length)) := by
  have printer : (s.commit p).printer = s.printer := (congrArg State.printer (s.commit_rest p) :)
  cases h : p.slip with
  | none => rfl
  | some x => rw [State.requestPlanned, State.slipLost, printer]; rfl

/-- What is handed over, once the slip is requested and the engine let go. -/
def State.concluded (s : State) (p : Plan) : State :=
  (((s.commit p).requestPlanned p.slip).1.withEngine s.engine.release).withExecutor
    { s.executor with pointer := p.pointer.getD s.executor.pointer }

theorem State.requestPlanned_executor (s : State) (p : Plan) : ((s.commit p).requestPlanned p.slip).1.executor = s.executor :=
  ((s.commit p).requestPlanned_slipFrame p.slip).executor.trans (congrArg State.executor (s.commit_rest p) :)

theorem State.concluded_unpointed {s : State} {p : Plan} (h : p.pointer = none) :
    s.concluded p = ((s.commit p).requestPlanned p.slip).1.withEngine s.engine.release := by
  rw [State.concluded, h, Option.getD_none, ← s.requestPlanned_executor p]
  rfl

theorem State.conclude_eq (s : State) (t : Txn) (p : Plan) :
    s.conclude t p = ((s.concluded p).handOver t p.result ((s.commit p).requestPlanned p.slip).2 p.entry.isSome).raiseIf
      p.shelfChanged .holdShelfChanged := by
  have slip := (s.commit p).requestPlanned_slipFrame p.slip
  have engine : ((s.commit p).requestPlanned p.slip).1.engine = s.engine :=
    slip.engine.trans (congrArg State.engine (s.commit_rest p) :)
  simp only [State.conclude, State.movePointer_eq, State.concluded, engine]
  rw [← s.requestPlanned_executor p]
  rfl

/-- What a transaction has changed when it is handed over, its commit and its slip apart. -/
theorem State.concluded_rest (s : State) (p : Plan) :
    s.concluded p = { s with mem := (s.concluded p).mem, clock := (s.commit p).clock, notices := (s.commit p).notices,
                             engine := s.engine.release, sweep := (s.commit p).sweep, journal := (s.commit p).journal,
                             executor := (s.concluded p).executor, printer := (s.concluded p).printer } := by
  have slip := ((s.commit p).requestPlanned_slipFrame p.slip).rest
  have both := slip.trans (congrArg (fun w : State => { w with
    mem := ((s.commit p).requestPlanned p.slip).1.mem, printer := ((s.commit p).requestPlanned p.slip).1.printer })
    (s.commit_rest p))
  exact congrArg (fun w => (w.withEngine s.engine.release).withExecutor
    { s.executor with pointer := p.pointer.getD s.executor.pointer }) both

theorem State.concluded_read8 (s : State) (p : Plan) {a : Nat} (hw : ∀ w ∈ p.writes s, a ≠ w.addr ∧ a ≠ w.addr + 1)
    (ha : a < s.desk.anchor + offPrinter ∨ s.desk.anchor + offPrinter + 16 ≤ a) :
    (s.concluded p).mem.read8 a = s.mem.read8 a := by
  have commit := s.commit_rest p
  have anchor : (s.commit p).desk = s.desk := (congrArg State.desk commit :)
  have mem : (s.commit p).mem = s.mem.apply (p.writes s) := (congrArg State.mem commit :)
  have slip := ((s.commit p).requestPlanned_slipFrame p.slip).bytes a (by rwa [anchor])
  exact slip.trans (by rw [mem, Memory.read8_apply_other _ _ _ hw])

end Sys2Proof.Machine
end

section
/-! PROOF. What a commit concludes, assembled. -/

namespace Sys2Proof.Machine

theorem State.handOver_station (s : State) {t : Txn} {i : Fin 4} (ht : t.requester = .station i) (x : StationResult)
    (lost committed : Bool) : s.handOver t (.station x) lost committed = s.completeLabel i t.kind x lost := by
  simp only [State.handOver, ht]

theorem State.handOver_order (s : State) {t : Txn} (ht : t.requester = .order) (x : OrderResult) (lost committed : Bool) :
    s.handOver t (.order x) lost committed = s.finishOrder { x with slipLost := lost } := by
  simp only [State.handOver, ht]

/-- What a commit that is handed over leaves unchanged of the blocks that take no part. -/
theorem State.concluded_others {s u : State} {p : Plan} {m : Memory} {st : Vector Station 4} {e : Executor} {pr : Printer}
    (b : Bool) (c : Cause) (h : u = { s.concluded p with mem := m, stations := st, executor := e, printer := pr }) :
    let v := u.raiseIf b c
    v.desk = s.desk ∧ v.geometry = s.geometry ∧ v.settings = s.settings ∧ v.rules = s.rules ∧ v.channels = s.channels ∧
      v.writer = s.writer ∧ v.upload = s.upload ∧ v.line = s.line ∧ v.pending = s.pending ∧ v.choices = s.choices ∧
      (p.clock = none → v.clock = s.clock ∧ v.sweep = s.sweep) := by
  rw [s.concluded_rest p] at h
  simp only [State.raiseIf_desk, State.raiseIf_geometry, State.raiseIf_settings, State.raiseIf_rules, State.raiseIf_channels,
    State.raiseIf_writer, State.raiseIf_upload, State.raiseIf_line, State.raiseIf_pending, State.raiseIf_choices,
    State.raiseIf_clock, State.raiseIf_sweep]
  rw [h]
  exact ⟨rfl, rfl, rfl, rfl, rfl, rfl, rfl, rfl, rfl, rfl, State.commit_clockKept⟩

/-- Settles O12. -/
theorem commitIsConcluded : Obligations.CommitIsConcluded := by
  refine ⟨fun s t before images e view clock slip shelf r pointer => ⟨?_, ?_⟩,
    fun s t p => ⟨fun i x ht hr => ?_, fun x l ht hr hl => ?_⟩⟩
  · rw [State.conclude_eq, State.requestPlanned_lost, State.concluded_unpointed rfl, State.commit_entry rfl]
    cases clock with
    | none => cases slip <;> rfl
    | some c =>
      rw [State.armClock_some (s := s) c (by simp) (by simp)]
      cases slip <;> rfl
  · rw [State.conclude_eq, State.concluded, State.commit_silent rfl rfl]
    rfl
  · have frame := (s.concluded p).completeLabel_frame i t.kind x ((s.commit p).requestPlanned p.slip).2
    have anchor : (s.concluded p).desk = s.desk := (congrArg State.desk (s.concluded_rest p) :)
    have stations : (s.concluded p).stations = s.stations := (congrArg State.stations (s.concluded_rest p) :)
    rw [State.conclude_eq, hr, State.handOver_station _ ht]
    refine ⟨State.concluded_others _ _ frame.rest, fun j hj => ?_, fun hp => ?_, fun a ha => ?_⟩
    · exact (congrArg (·.get j) (State.raiseIf_stations _ _ _)).trans ((frame.others j hj).trans (congrArg (·.get j) stations))
    · rw [State.raiseIf_executor, (congrArg State.executor frame.rest :), State.concluded, hp]
      rfl
    · rw [State.raiseIf_mem, frame.bytes a (by rw [anchor]; exact ha.2), s.concluded_read8 p ha.1 ha.2]
  · have rest := (s.concluded p).finishOrder_rest { x with slipLost := ((s.commit p).requestPlanned p.slip).2 }
    have stations : (s.concluded p).stations = s.stations := (congrArg State.stations (s.concluded_rest p) :)
    rw [State.conclude_eq, hr, State.handOver_order _ ht]
    refine ⟨State.concluded_others _ _ rest, ?_, fun a ha hb => ?_⟩
    · exact (State.raiseIf_stations _ _ _).trans ((congrArg State.stations rest :).trans stations)
    · rw [State.raiseIf_mem, State.finishOrder_read8 _ (show (s.concluded p).executor.running = some l from hl) hb,
        s.concluded_read8 p ha.1 ha.2]

end Sys2Proof.Machine
end

section
/-! PROOF. A fault in a transaction (R65, R176, R194, R197): the fault record, the end of an upload, what the requester gets. -/

namespace Sys2Proof.Machine

/-! ## The fault record -/

theorem putWords_congr {a : Nat} {xs ys : List Nat} (h : xs.map (· % 65536) = ys.map (· % 65536)) :
    putWords a xs = putWords a ys := by
  induction xs generalizing a ys with
  | nil => rw [List.map_eq_nil_iff.mp h.symm]
  | cons x xs ih =>
    obtain _ | ⟨y, ys⟩ := ys
    · cases h
    · rw [List.map_cons, List.map_cons, List.cons.injEq] at h
      rw [putWords, putWords, h.1, ih h.2]

theorem openingCount_mod (c : Nat) (h : c < 65536) : openingCount c % 65536 = openingCount c := by
  unfold openingCount
  split <;> omega

/-- A group whose body follows its count is one run of words and the closing count. -/
theorem groupWrites_run (m : Memory) (a : Nat) (ws : List Nat) :
    groupWrites m a (putWords (a + 2) ws)
      = putWords a (openingCount (m.read16 a) :: ws) ++ [{ addr := a, word := (openingCount (m.read16 a) + 1) % 65536 }] := by
  rw [putWords, openingCount_mod _ (m.read16_lt a)]
  rfl

theorem Requester.code_lt (r : Requester) : r.code < 256 := by
  cases r with
  | station i => exact Nat.lt_trans i.isLt (by decide)
  | order | sweep | center => decide

theorem tableCode_lt (t : Option TableName) : tableCode t < 256 := by
  obtain _ | t := t
  · decide
  · cases t <;> decide

theorem State.reading_day (s : State) : (s.reading.getD .zero).day = if s.clock.isSet then s.clock.day else 0 := by
  unfold State.reading
  split <;> rfl

theorem State.reading_minute (s : State) : (s.reading.getD .zero).minute = if s.clock.isSet then s.clock.minute else 0 := by
  unfold State.reading
  split <;> rfl

theorem TableFault.faultWrites_eq {s : State} {a : Nat} {m : Memory} {c : Clock} (f : TableFault) (r : Requester)
    (ha : s.desk.anchor + offFault = a) (hm : s.mem = m) (hc : s.clock = c) :
    s.faultWrites (f.note (some r))
      = putWords a
          [openingCount (m.read16 a), f.reason.code, tableCode (some f.table) + 256 * r.code, f.index.getD 0xFFFF % 65536,
            f.address % 65536, f.address / 65536 % 65536, (if c.isSet then c.day else 0) % 65536,
            (if c.isSet then c.minute else 0) % 65536, min (m.read16 (a + 16) + 1) 65535, 0, 0, 0, 0, 0, 0, 0]
        ++ [{ addr := a, word := (openingCount (m.read16 a) + 1) % 65536 }] := by
  subst ha hm hc
  rw [State.faultWrites, State.groupWrites, faultRecordBody, groupWrites_run, State.reading_day, State.reading_minute]
  refine congrArg (· ++ _) (putWords_congr ?_)
  simp [TableFault.note, requesterCode, bytePair_eq (tableCode_lt _) r.code_lt, words32, Config.nullIndex, sat16]

/-! ## The end of an upload keeps the engine, the anchor, a granted mark and an order that waits for the cut -/

/-- The order in hand waits for the cut of UPLOAD_STARTED. -/
def State.waitsCut (s : State) : Prop := s.currentOrder.map TakenOrder.wait = some .cut

/-- What the end of an upload keeps: the engine, the places of desk memory, and what the refusal of a START_UPLOAD asks for. -/
structure State.EndFrame (s u : State) : Prop where
  engine : u.engine = s.engine
  geometry : u.geometry = s.geometry
  anchor : u.desk.anchor = s.desk.anchor
  cut : u.waitsCut ↔ s.waitsCut
  granted : u.upload.startedMark = .granted ↔ s.upload.startedMark = .granted

namespace State.EndFrame

variable {s u v : State}

theorem refl (s : State) : s.EndFrame s := ⟨rfl, rfl, rfl, Iff.rfl, Iff.rfl⟩

theorem trans (hu : s.EndFrame u) (hv : u.EndFrame v) : s.EndFrame v :=
  ⟨hv.engine.trans hu.engine, hv.geometry.trans hu.geometry, hv.anchor.trans hu.anchor,
    hv.cut.trans hu.cut, hv.granted.trans hu.granted⟩

theorem withUpload (s : State) {v : Upload} (h : v.startedMark = .granted ↔ s.upload.startedMark = .granted) :
    s.EndFrame (s.withUpload v) := ⟨rfl, rfl, rfl, Iff.rfl, h⟩

end State.EndFrame

theorem State.writeField_endFrame (s : State) (group off v : Nat) : s.EndFrame (s.writeField group off v) := by
  unfold State.writeField
  split
  · exact ⟨rfl, rfl, rfl, Iff.rfl, Iff.rfl⟩
  · exact .refl s

theorem State.stopUpload_endFrame (s : State) (r : EndReason) : s.EndFrame (s.stopUpload r) := by
  unfold State.stopUpload
  dsimp only
  split
  · exact ⟨rfl, rfl, rfl, Iff.rfl, Iff.rfl⟩
  · exact ⟨rfl, rfl, rfl, Iff.rfl, Iff.rfl⟩

theorem State.finishOrder_engine (s : State) (r : OrderResult) : (s.finishOrder r).engine = s.engine :=
  (congrArg State.engine (s.finishOrder_rest r) :)

theorem State.finishOrder_geometry (s : State) (r : OrderResult) : (s.finishOrder r).geometry = s.geometry :=
  (congrArg State.geometry (s.finishOrder_rest r) :)

theorem State.finishOrder_desk (s : State) (r : OrderResult) : (s.finishOrder r).desk = s.desk :=
  (congrArg State.desk (s.finishOrder_rest r) :)

theorem State.finishOrder_upload (s : State) (r : OrderResult) : (s.finishOrder r).upload = s.upload :=
  (congrArg State.upload (s.finishOrder_rest r) :)

/-- No order is in hand once the one in hand has ended. -/
theorem State.finishOrder_currentOrder (s : State) (r : OrderResult) : (s.finishOrder r).currentOrder = none := by
  unfold State.finishOrder
  split
  case h_1 h => simp [State.currentOrder, Executor.current, h]
  case h_2 l h =>
    split
    case h_1 hc => simp [State.currentOrder, Executor.current, h, hc]
    case h_2 => rfl

/-- An upload that becomes IDLE ends only an order that waits for just that. -/
theorem State.uploadIdle_endFrame {s : State} (h : s.upload.startedMark ≠ .granted) : s.EndFrame s.uploadIdle := by
  have reset : s.EndFrame (s.withUpload { Upload.reset with
      endReason := s.upload.endReason
      startStamp := s.upload.startStamp
      cutSequence := s.upload.cutSequence }) :=
    .withUpload s ⟨nofun, fun hg => absurd hg h⟩
  unfold State.uploadIdle
  dsimp only
  split
  case h_1 n hw =>
    refine reset.trans ⟨State.finishOrder_engine _ _, State.finishOrder_geometry _ _,
      congrArg _ (State.finishOrder_desk _ _), ⟨fun hc => ?_, fun hc => ?_⟩, by rw [State.finishOrder_upload]⟩
    · rw [State.waitsCut, State.finishOrder_currentOrder] at hc
      cases hc
    · have hc : s.currentOrder.map TakenOrder.wait = some .cut := hc
      rw [hw] at hc
      cases hc
  case h_2 => exact reset

theorem State.finishEnding_endFrame {s : State} (h : s.upload.startedMark ≠ .granted) : s.EndFrame s.finishEnding := by
  unfold State.finishEnding
  split
  · have written := s.writeField_endFrame offReport offEndReason s.upload.endReason.code
    exact written.trans (.withUpload _ written.granted.symm)
  · exact State.uploadIdle_endFrame h

theorem State.endUpload_endFrame (s : State) (r : EndReason) : s.EndFrame (s.endUpload r) := by
  unfold State.endUpload
  split
  · exact .refl s
  · have stopped := s.stopUpload_endFrame r
    dsimp only
    generalize s.stopUpload r = s1 at stopped ⊢
    have dropped : s1.EndFrame (if s1.upload.dropsHeld then s1.countReport offDropped else s1) := by
      split
      · exact s1.writeField_endFrame _ _ _
      · exact .refl s1
    generalize (if s1.upload.dropsHeld then s1.countReport offDropped else s1) = s2 at dropped ⊢
    have withdrawn : s2.EndFrame (s2.withUpload s2.upload.withdraw) := by
      refine .withUpload s2 ?_
      unfold Upload.withdraw
      dsimp only
      split
      case isTrue h => rw [h]; decide
      case isFalse => rfl
    refine (stopped.trans dropped).trans (withdrawn.trans ?_)
    split
    · exact .refl _
    case isFalse h =>
      refine State.finishEnding_endFrame fun hg => h ?_
      rw [Upload.awaits, hg]
      simp

/-! ## Entry to HALTED (R176, R194) -/

/-- Of an upload that does not run there is nothing to end. -/
theorem State.endUpload_eq {s u : State} (h : u.upload = s.upload) (r : EndReason) :
    u.endUpload r = if s.upload.state = .idle ∨ s.upload.state = .ending then u else u.endUpload r := by
  rw [← h]
  split
  case isTrue h => exact if_pos h
  case isFalse => rfl

/-- START_UPLOAD is refused after the end of an upload exactly when it waited before it for a mark not granted. -/
theorem State.EndFrame.refuseStart {s u : State} (h : s.EndFrame u) :
    u.refuseStart
      = if s.upload.startedMark ≠ .granted ∧ s.currentOrder.map TakenOrder.wait = some .cut then
          u.finishOrder { outcome := .refused, reason := some .deskHalted }
        else u :=
  if_congr (and_congr (not_congr h.granted) h.cut) rfl rfl

theorem State.refuseStart_keeps (s : State) :
    s.refuseStart.engine = s.engine ∧ s.refuseStart.geometry = s.geometry ∧ s.refuseStart.desk = s.desk := by
  unfold State.refuseStart
  split
  · exact ⟨s.finishOrder_engine _, s.finishOrder_geometry _, s.finishOrder_desk _⟩
  · exact ⟨rfl, rfl, rfl⟩

/-- The desk HALTED, before the upload ends. -/
def State.haltedBy (s : State) (n : FaultNote) : State :=
  ((s.writeFault n).withDesk { s.desk with state := .halted, reason := n.reason }).raise .halted

theorem State.haltedBy_eq {s u : State} {m : Memory} {e : Executor} {n : FaultNote} {ws : List WordWrite}
    (hu : u = (s.withMem m).withExecutor e) (hw : u.faultWrites n = ws) :
    u.haltedBy n = ((((s.withMem m).writeAll ws).withExecutor e).withDesk
      { state := .halted, reason := n.reason, anchor := s.desk.anchor }).raise .halted := by
  subst hu
  rw [State.haltedBy, State.writeFault, hw]
  rfl

theorem State.haltedBy_endFrame (s : State) (n : FaultNote) : s.EndFrame (s.haltedBy n) := by
  constructor <;> simp [State.haltedBy, State.writeFault, State.waitsCut, State.currentOrder]

theorem State.enterHalted_keeps (s : State) (n : FaultNote) : (s.enterHalted n).engine = s.engine ∧
    (s.enterHalted n).geometry = s.geometry ∧ (s.enterHalted n).desk.anchor = s.desk.anchor := by
  have frame := (s.haltedBy_endFrame n).trans ((s.haltedBy n).endUpload_endFrame .aborted)
  obtain ⟨engine, geometry, desk⟩ := State.refuseStart_keeps ((s.haltedBy n).endUpload .aborted)
  exact ⟨engine.trans frame.engine, geometry.trans frame.geometry, (congrArg Desk.anchor desk).trans frame.anchor⟩

/-- Entry to HALTED, as a state with the same upload and the same executor's order finds it. -/
theorem State.EndFrame.enterHalted {s u : State} (h : s.EndFrame u) (hu : u.upload = s.upload) (n : FaultNote) :
    u.enterHalted n
      = let halted := u.haltedBy n
        let aborted := if s.upload.state = .idle ∨ s.upload.state = .ending then halted else halted.endUpload .aborted
        if s.upload.startedMark ≠ .granted ∧ s.currentOrder.map TakenOrder.wait = some .cut then
          aborted.finishOrder { outcome := .refused, reason := some .deskHalted }
        else aborted := by
  have same : (u.haltedBy n).upload = s.upload := by simp [State.haltedBy, State.writeFault, hu]
  dsimp only
  rw [← State.endUpload_eq same]
  exact (h.trans ((u.haltedBy_endFrame n).trans ((u.haltedBy n).endUpload_endFrame .aborted))).refuseStart

theorem State.carryOut_abandon (s : State) (t : Txn) {p : Plan} {f : TableFault} (h : p.fault = some f) :
    s.carryOut t p
      = ((((s.writeAll p.before).movePointer p.pointer).enterHalted (f.note (some t.requester))).withEngine
          s.engine.release).handOver t p.result false false := by
  rw [State.carryOut, h, State.movePointer_eq]
  dsimp only
  rw [State.abandon, State.movePointer_eq, (State.enterHalted_keeps _ _).1, State.withExecutor_engine, State.writeAll_engine]

/-! ## What each read phase finds -/

theorem withBorrower_error {s : State} {n : Nat} {f : TableFault} (g : Draft → Nat → BorrowerRecord → Except TableFault Plan)
    (hh : s.headerGood .borrower) (hl : s.tables.lookup .borrower n = .error f) : withBorrower s n g = .error f := by
  have touched : (Draft.start s.mem s.geometry).touch .borrower = .ok s.tables := hh
  rw [withBorrower, touched]
  change (s.tables.lookup .borrower n >>= _) = _
  rw [hl]
  rfl

theorem noticeRead_error {s : State} {n : CenterNotice} {f : TableFault} (t : Txn) (hh : s.headerGood .borrower)
    (hl : s.tables.lookup .borrower n.borrower = .error f) : noticeRead s t n = .error f := by
  have touched : (Draft.start s.mem s.geometry).touch .borrower = .ok s.tables := hh
  rw [noticeRead, touched]
  change (s.tables.lookup .borrower n.borrower >>= _) = _
  rw [hl]
  rfl

theorem sweepRead_error {s : State} {f : TableFault} (t : Txn) (h : s.tables.touch .item = .error f) :
    sweepRead s t = .error f := by
  have touched : (Draft.start s.mem s.geometry).touch .item = .error f := h
  rw [sweepRead, touched]
  rfl

end Sys2Proof.Machine
end

section
/-! PROOF. A fault halts the desk, assembled. -/

namespace Sys2Proof.Machine

/-- Settles O50. -/
theorem faultsHaltTheDesk : Obligations.FaultsHaltTheDesk := by
  refine ⟨fun s t p f hf => ?_, fun s t f h => ⟨fun st hk ha ht => ?_, fun n st hk ha hn hlo hhi hh hl => ?_,
    fun o st hk ho hr ha hlim hh hl => ?_, fun i n st hk hr hn ha hh hl => ?_⟩⟩
  · have found : (s.writeAll p.before).movePointer p.pointer = (s.withMem (s.mem.apply p.before)).withExecutor
        { s.executor with pointer := p.pointer.getD s.executor.pointer } := by rw [State.movePointer_eq]; rfl
    have frame : s.EndFrame ((s.writeAll p.before).movePointer p.pointer) := by
      rw [State.movePointer_eq]
      constructor <;> simp [State.waitsCut, State.currentOrder, Executor.current]
    have upload : ((s.writeAll p.before).movePointer p.pointer).upload = s.upload := by simp [State.movePointer_eq]
    have record : ((s.writeAll p.before).movePointer p.pointer).faultWrites (f.note (some t.requester)) = _ :=
      f.faultWrites_eq (a := s.desk.anchor + 0x90) (m := s.mem.apply p.before) (c := s.clock) t.requester
        (by rw [found]; rfl) (by rw [found]; rfl) (by rw [found]; rfl)
    rw [State.carryOut_abandon s t hf, frame.enterHalted upload, State.haltedBy_eq found record]
    obtain ⟨_, table, _, _⟩ := f
    cases table <;> rfl
  · rw [show exec .daySweepStep s = s.runTxn (· == .sweepStep) planSweepStep from rfl,
      State.runTxn_engaged h _ _ (by rw [hk]; rfl), planSweepStep, Txn.gate_one ha, sweepRead_error t ht]
    rfl
  · have kind : t.notice = n := by rw [Txn.notice, hk]
    have formed : noticeMalformed n = false := by
      rw [noticeMalformed, (borrowerInRange_iff _).mpr ⟨hlo, hhi⟩]
      rcases hn with hn | hn <;> rw [hn] <;> rfl
    rw [show exec .centerNotice s = execCenterNotice s from rfl, execCenterNotice,
      State.runTxn_engaged h _ _ (by rw [hk]), kind, planNotice, Txn.gate_one ha, noticeRead_error t hh hl, formed]
    rfl
  · have kind : t.order = o := by rw [Txn.order, hk]
    rw [show exec .setBlock s = execSetBlock s from rfl, execSetBlock,
      State.runTxn_engaged h _ _ (by rw [hk, isOrder, ho]; rfl), planSetBlock, kind, Txn.orderPlan, Txn.gate_aboveReserve ha,
      setBlockRead, withBorrower_error _ hh hl, decide_eq_false (by omega)]
    rfl
  · have touched : (Draft.start s.mem s.geometry).touch .item = .ok s.tables := hh
    obtain ⟨l, hlabel, hkind, hnumber⟩ := hn
    refine ⟨{ t.refusal s .deskHalted with refused := true, reason := .deskHalted }, rfl, rfl, ?_, ?_⟩
    · simp [Txn.refusal, Txn.labelNumber, hlabel, hkind, hnumber]
    · rw [show exec .returnItem s = execReturnItem s from rfl, execReturnItem, State.runTxn_engaged h _ _ (by rw [hk]; rfl)]
      simp only [planReturn, Txn.gated, Txn.gate_one ha, touched, Except.ok_bind',
        Txn.names_number ⟨l, hlabel, hkind, hnumber⟩, hl]
      rw [Txn.abandoned, haltedResult, hr]
      rfl

end Sys2Proof.Machine
end

section
/-! PROOF. Anchoring's checks that stand alone: a table header (R63), and the commit slot with its replay (R62). -/

namespace Sys2Proof.Machine
open Config

/-! ## The header of a table -/

theorem Header.sized_iff (h : Header) :
    h.sized = true ↔ 1 ≤ h.capacity ∧ h.capacity ≤ 65534 ∧ 8 ≤ h.exponent ∧ h.exponent ≤ 16 := by
  simp only [Header.sized, Bool.and_eq_true, decide_eq_true_eq, and_assoc]

theorem Header.shelfOk_iff (h : Header) :
    h.shelfOk = true ↔ (h.shelfHead = 0xFFFF ∨ h.shelfHead < h.capacity) ∧ (h.shelfTail = 0xFFFF ∨ h.shelfTail < h.capacity) ∧
      h.shelfCount ≤ h.capacity ∧
      ((h.shelfHead = 0xFFFF ∧ h.shelfTail = 0xFFFF ∧ h.shelfCount = 0) ∨
        (h.shelfHead ≠ 0xFFFF ∧ h.shelfTail ≠ 0xFFFF ∧ h.shelfCount ≠ 0)) := by
  simp only [Header.shelfOk, Bool.and_eq_true, Bool.or_eq_true, indexOk_iff, decide_eq_true_eq, beq_iff_eq, bne_iff_ne,
    and_assoc, nullIndex]

theorem extentsOverlap_false_iff (a la b lb : Nat) : extentsOverlap a la b lb = false ↔ a + la ≤ b ∨ b + lb ≤ a := by
  rw [extentsOverlap, ← Bool.not_eq_true, Bool.and_eq_true, decide_eq_true_eq, decide_eq_true_eq]
  omega

/-- The end of a table's extent, as R42 lays it out. -/
theorem Header.extent_end (h : Header) (t : TableName) (a : Nat) :
    a + h.extent t = a + 16 + 2 * 2 ^ h.exponent + recordSize t * h.capacity := by
  rw [Header.extent, extentLength, pow_succ]
  ring

theorem headerOk_iff (g : Geometry) (m : Memory) (t : TableName) (h : Header) :
    let o := Header.read m (tableAddress g (otherTable t))
    headerOk g m t h = true ↔ h.count % 2 = 0 ∧ h.sized = true ∧ g.windowBase ≤ tableAddress g t ∧
      tableAddress g t + h.extent t ≤ g.windowBase + 65536 * g.windowUnits ∧
      (o.sized = true → tableAddress g t + h.extent t ≤ tableAddress g (otherTable t) ∨
        tableAddress g (otherTable t) + o.extent (otherTable t) ≤ tableAddress g t) ∧
      h.records ≤ h.capacity ∧ (h.freeHead = 0xFFFF ∨ h.freeHead < h.capacity) ∧ (t = .item → h.shelfOk = true) := by
  dsimp only
  rw [← extentsOverlap_false_iff]
  simp only [headerOk, Bool.and_eq_true, beq_iff_eq, Geometry.inWindow_iff, Bool.not_eq_true', Bool.and_eq_false_imp,
    decide_eq_true_eq, indexOk_iff, and_assoc]
  cases t with
  | item => simp only [true_implies]
  | borrower => simp only [reduceCtorEq, false_implies]

/-! ## The commit slot (R62) -/

theorem putWords_range (a n : Nat) (f : Nat → Nat) (hf : ∀ k, f k < 65536) :
    putWords a ((List.range n).map f) = (List.range n).map fun k => { addr := a + 2 * k, word := f k } := by
  induction n generalizing a f with
  | zero => rfl
  | succ n ih =>
    rw [List.range_succ_eq_map, List.map_cons, List.map_cons, putWords, List.map_map, List.map_map,
      ih (a + 2) (f ∘ Nat.succ) fun k => hf _, Nat.mod_eq_of_lt (hf 0)]
    refine congrArg₂ _ rfl (List.map_congr_left fun k _ => ?_)
    simp only [Function.comp, WordWrite.mk.injEq, and_true]
    omega

namespace SlotReplay

variable (m : Memory) (slot i : Nat)

/-- The fields of image `i` of the slot (R206). -/
def target : Nat := m.read32 (slot + 40 + 72 * i)
def length : Nat := m.read16 (slot + 44 + 72 * i)
def counted : Bool := m.read16 (slot + 46 + 72 * i) == 1
def word (k : Nat) : Nat := m.read16 (slot + 48 + 72 * i + 2 * k)

theorem readSlotImage_length : (readSlotImage m slot i).length = length m slot i := by
  simp only [readSlotImage, length]
  congr 1
  omega

theorem readSlotImage_target : (readSlotImage m slot i).image.target = target m slot i := rfl

theorem readSlotImage_counted : (readSlotImage m slot i).image.counted = counted m slot i := by
  simp only [readSlotImage, counted]
  congr 2
  omega

theorem readSlotImage_words (h : length m slot i ≤ 64) :
    (readSlotImage m slot i).image.words = (List.range (length m slot i / 2)).map (word m slot i) := by
  have hl := readSlotImage_length m slot i
  simp only [readSlotImage] at hl ⊢
  rw [hl, Nat.min_eq_left (by omega), readWords_eq_map]
  refine List.map_congr_left fun k _ => ?_
  rw [word]
  congr 1
  omega

/-- The checks on image `i`. -/
def imagePasses (g : Geometry) : Prop :=
  length m slot i % 2 = 0 ∧ 2 ≤ length m slot i ∧ length m slot i ≤ 64 ∧ target m slot i % 2 = 0 ∧
    (counted m slot i = true → 4 ≤ length m slot i) ∧
    g.windowBase ≤ target m slot i ∧ target m slot i + length m slot i ≤ g.windowBase + 65536 * g.windowUnits

theorem ok_iff (g : Geometry) : (readSlotImage m slot i).ok g = true ↔ imagePasses m slot i g := by
  rw [SlotImage.ok, readSlotImage_length, readSlotImage_target, readSlotImage_counted]
  simp only [Bool.and_eq_true, beq_iff_eq, decide_eq_true_eq, Bool.or_eq_true, Bool.not_eq_true', Geometry.inWindow_iff,
    and_assoc, imagePasses, ← Bool.not_eq_true, imp_iff_not_or]

theorem slotOk_iff (g : Geometry) :
    slotOk g m slot = true ↔ m.read16 (slot + 2) ≤ 8 ∧ (∀ i, i < m.read16 (slot + 2) → imagePasses m slot i g) ∧
      g.windowBase ≤ m.read32 (slot + 4) ∧ m.read32 (slot + 4) + 32 ≤ g.windowBase + 65536 * g.windowUnits := by
  simp only [slotOk, slotImages, Bool.and_eq_true, decide_eq_true_eq, List.all_map, List.all_eq_true, List.mem_range,
    Function.comp, ok_iff, Geometry.inWindow_iff, and_assoc]

variable {m slot}

theorem filter_counted (n : Nat) (f : Image → WordWrite) :
    (((List.range n).map fun i => (readSlotImage m slot i).image).filter Image.counted).map f
      = ((List.range n).filter (counted m slot)).map fun i => f (readSlotImage m slot i).image := by
  rw [List.filter_map, List.map_map]
  refine congrArg (List.map _) (List.filter_congr fun i _ => ?_)
  exact readSlotImage_counted m slot i

theorem headD_words {i : Nat} {g : Geometry} (h : imagePasses m slot i g) :
    (readSlotImage m slot i).image.words.headD 0 = word m slot i 0 := by
  obtain ⟨_, hlo, hhi, _⟩ := h
  obtain ⟨n, hn⟩ := Nat.exists_eq_succ_of_ne_zero (n := length m slot i / 2) (by omega)
  rw [readSlotImage_words m slot i hhi, hn, List.range_succ_eq_map]
  rfl

/-- The body pass writes every word but the change count of a COUNTED image. -/
theorem body_words {i : Nat} {g : Geometry} (h : imagePasses m slot i g) :
    (if (readSlotImage m slot i).image.counted
      then putWords ((readSlotImage m slot i).image.target + 2) (readSlotImage m slot i).image.words.tail
      else putWords (readSlotImage m slot i).image.target (readSlotImage m slot i).image.words)
      = ((List.range (length m slot i / 2)).filter fun k => !(counted m slot i && k == 0)).map fun k =>
          { addr := target m slot i + 2 * k, word := word m slot i k } := by
  obtain ⟨_, hlo, hhi, _⟩ := h
  rw [readSlotImage_counted, readSlotImage_target, readSlotImage_words m slot i hhi]
  obtain ⟨n, hn⟩ := Nat.exists_eq_succ_of_ne_zero (n := length m slot i / 2) (by omega)
  cases counted m slot i with
  | false =>
    rw [if_neg (by decide), putWords_range _ _ (word m slot i) fun k => m.read16_lt _]
    simp
  | true =>
    rw [if_pos rfl, hn, List.range_succ_eq_map, List.map_cons, List.tail_cons, List.map_map,
      putWords_range _ _ (word m slot i ∘ Nat.succ) fun k => m.read16_lt _]
    have rest : ((List.range n).map Nat.succ).filter (fun k => !(true && k == 0)) = (List.range n).map Nat.succ :=
      List.filter_eq_self.mpr fun k hk => by
        obtain ⟨x, _, rfl⟩ := List.mem_map.mp hk
        rfl
    rw [List.filter_cons_of_neg (by decide), rest, List.map_map]
    refine List.map_congr_left fun k _ => ?_
    simp only [Function.comp, WordWrite.mk.injEq, and_true]
    omega

theorem replayWrites_fails {g : Geometry} (ha : m.read16 slot = 1) (h : slotOk g m slot = false) :
    replayWrites g m slot = .error () := by
  rw [replayWrites, if_neg (by simp [ha]), if_neg (by simp [h])]

/-- The three passes of R60, the entry, and EMPTY. -/
theorem replayWrites_passes {g : Geometry} (ha : m.read16 slot = 1) (h : slotOk g m slot = true) :
    let all := List.range (m.read16 (slot + 2))
    let opening : List WordWrite := (all.filter (counted m slot)).map fun i =>
      { addr := target m slot i, word := (word m slot i 0 + 65535) % 65536 }
    let body : List WordWrite := all.flatMap fun i =>
      ((List.range (length m slot i / 2)).filter fun k => !(counted m slot i && k == 0)).map fun k =>
        { addr := target m slot i + 2 * k, word := word m slot i k }
    let closing : List WordWrite := (all.filter (counted m slot)).map fun i =>
      { addr := target m slot i, word := word m slot i 0 }
    let last : List WordWrite := (List.range 16).map fun k =>
      { addr := m.read32 (slot + 4) + 2 * k, word := m.read16 (slot + 8 + 2 * k) }
    replayWrites g m slot = .ok (opening ++ body ++ closing ++ last ++ [{ addr := slot, word := 0 }]) := by
  obtain ⟨_, passes, _⟩ := (slotOk_iff m slot g).mp h
  have images : (slotImages m slot).map SlotImage.image
      = (List.range (m.read16 (slot + 2))).map fun i => (readSlotImage m slot i).image := List.map_map ..
  have below : ∀ i ∈ (List.range (m.read16 (slot + 2))).filter (counted m slot), imagePasses m slot i g := fun i hi =>
    passes i (List.mem_range.mp (List.mem_filter.mp hi).1)
  dsimp only
  rw [replayWrites, if_neg (by simp [ha]), if_pos h, images, applyWrites, openingPass, bodyPass, closingPass, filter_counted,
    filter_counted, List.flatMap_map, readWords_eq_map, putWords_range _ _ _ fun k => m.read16_lt _]
  refine congrArg (Except.ok <| · ++ [_]) (congrArg₂ _ (congrArg₂ _ (congrArg₂ _ ?_ ?_) ?_) rfl)
  · exact List.map_congr_left fun i hi => by rw [headD_words (below i hi)]; rfl
  · exact List.flatMap_congr fun i hi => body_words (passes i (List.mem_range.mp hi))
  · exact List.map_congr_left fun i hi => by rw [headD_words (below i hi)]; rfl

end SlotReplay
end Sys2Proof.Machine
end

section
/-! PROOF. The shape of the journal (R159): what each check of the page table says, and the run of the pages in use. -/

namespace Sys2Proof.Machine

/-! ## Checks one after another -/

theorem toShapeFault_bind {α : Type} {o : Option Nat} {f : Unit → Except ShapeFault α} {x : α} :
    (toShapeFault o >>= f) = .ok x ↔ o = none ∧ f () = .ok x := by
  cases o with
  | none => exact ⟨fun h => ⟨rfl, h⟩, fun h => h.2⟩
  | some p => exact ⟨nofun, nofun⟩

theorem toShapeFault_ok {o : Option Nat} : toShapeFault o = .ok () ↔ o = none := by
  cases o with
  | none => exact ⟨fun _ => rfl, fun _ => rfl⟩
  | some p => exact ⟨nofun, nofun⟩

/-- A descriptor's fields as desk memory holds them; a state code that names no state reads as FREE. -/
def readPages (g : Geometry) (m : Memory) : List Page :=
  ((List.range g.pageCount).map fun i => readPage m (descriptorAddress g i)).map fun p => p.getD .nothing

theorem checkJournal_ok_iff (g : Geometry) (m : Memory) (group : Nat) (sh : JournalShape) :
    checkJournal g m group = .ok sh ↔
      ((List.range g.pageCount).map fun i => readPage m (descriptorAddress g i)).findIdx? Option.isNone = none ∧
      firstBad (badPlace g) [] 0 (readPages g m) = none ∧ firstBad badCount [] 0 (readPages g m) = none ∧
      firstBad badSecond [] 0 (readPages g m) = none ∧
      (∀ i, newestPage (readPages g m) (m.read16 (group + 2)) = some i → checkRun (readPages g m) i = .ok ()) ∧
      m.read16 (group + 2) < g.pageCount ∧
      sh = { pages := readPages g m, newest := newestPage (readPages g m) (m.read16 (group + 2)) } := by
  unfold checkJournal
  simp only [toShapeFault_bind]
  refine and_congr_right fun _ => and_congr_right fun _ => and_congr_right fun _ => and_congr_right fun _ => ?_
  generalize hps : ((List.range g.pageCount).map fun i => readPage m (descriptorAddress g i)).map (fun p => p.getD .nothing) = ps
  rw [show readPages g m = ps from hps]
  by_cases hn : m.read16 (group + 2) < g.pageCount
  · have small : decide (g.pageCount ≤ m.read16 (group + 2)) = false := decide_eq_false (by omega)
    rw [if_neg (by simp [small])]
    simp only [if_neg (show ¬ g.pageCount ≤ m.read16 (group + 2) by omega), hn, true_and]
    cases newestPage ps (m.read16 (group + 2)) with
    | none => simp [pure, Except.pure, eq_comm]
    | some i =>
      cases h : checkRun ps i with
      | error f => simp [h, bind, Except.bind]
      | ok u => simp [h, bind, Except.bind, pure, Except.pure, eq_comm]
  · refine ⟨fun h => ?_, fun h => absurd h.2.1 hn⟩
    simp only [if_pos (show g.pageCount ≤ m.read16 (group + 2) by omega)] at h
    split at h
    · cases h
    · split at h
      case h_1 i _ => cases hr : checkRun ps i <;> rw [hr] at h <;> cases h
      case h_2 => cases h

/-! ## The pages at their indices -/

/-- No page is bad exactly when none is, among the pages before it. -/
theorem firstBad_none_iff {bad : List Page → Nat → Page → Bool} {before ps : List Page} {k : Nat} :
    firstBad bad before k ps = none ↔
      ∀ i (h : i < ps.length), bad (before ++ ps.take i) (k + i) ps[i] = false := by
  induction ps generalizing before k with
  | nil => exact ⟨fun _ i h => absurd h (Nat.not_lt_zero i), fun _ => rfl⟩
  | cons p ps ih =>
    rw [firstBad]
    split
    case isTrue hb =>
      refine ⟨nofun, fun h => ?_⟩
      have := h 0 (Nat.zero_lt_succ _)
      simp [hb] at this
    case isFalse hb =>
      rw [ih]
      refine ⟨fun h i hi => ?_, fun h i hi => ?_⟩
      · cases i with
        | zero => simpa using hb
        | succ i => simpa [Nat.add_assoc, Nat.add_comm 1] using h i (Nat.lt_of_succ_lt_succ hi)
      · simpa [Nat.add_assoc, Nat.add_comm 1] using h (i + 1) (Nat.succ_lt_succ hi)

theorem PageState.ofCode_code (st : PageState) : PageState.ofCode st.code = some st := by cases st <;> rfl

theorem PageState.code_of_ofCode {c : Nat} {st : PageState} (h : PageState.ofCode c = some st) : st.code = c := by
  unfold PageState.ofCode at h
  split at h <;> cases h <;> rfl

theorem PageState.code_inj {a b : PageState} (h : a.code = b.code) : a = b :=
  Option.some.inj ((ofCode_code a).symm.trans ((congrArg ofCode h).trans (ofCode_code b)))

/-- The list holds the pages of the page table, their states among the four (check 1 of R159). -/
structure PagesRead (g : Geometry) (m : Memory) (ps : List Page) : Prop where
  length : ps.length = g.pageCount
  page : ∀ i, i < g.pageCount → (ps.getD i .nothing).address = m.read32 (descriptorAddress g i) ∧
    (ps.getD i .nothing).state.code = m.read16 (descriptorAddress g i + 4) ∧
    (ps.getD i .nothing).count = m.read16 (descriptorAddress g i + 6) ∧
    (ps.getD i .nothing).first = m.read32 (descriptorAddress g i + 8)

theorem readPages_length (g : Geometry) (m : Memory) : (readPages g m).length = g.pageCount := by simp [readPages]

theorem readPages_getD {g : Geometry} {m : Memory} {i : Nat} (hi : i < g.pageCount) :
    (readPages g m).getD i .nothing = (readPage m (descriptorAddress g i)).getD .nothing := by
  rw [List.getD_eq_getElem _ _ (by rwa [readPages_length])]
  simp [readPages]

theorem readPage_of_code {m : Memory} {a : Nat} {p : Page} (ha : p.address = m.read32 a)
    (hs : p.state.code = m.read16 (a + 4)) (hc : p.count = m.read16 (a + 6)) (hf : p.first = m.read32 (a + 8)) :
    readPage m a = some p := by
  rw [readPage, ← hs, PageState.ofCode_code, Option.map_some, ← ha, ← hc, ← hf]

theorem readPage_fields {m : Memory} {a : Nat} {p : Page} (h : readPage m a = some p) :
    p.address = m.read32 a ∧ p.state.code = m.read16 (a + 4) ∧ p.count = m.read16 (a + 6) ∧ p.first = m.read32 (a + 8) := by
  obtain ⟨st, hst, rfl⟩ := Option.map_eq_some_iff.mp h
  exact ⟨rfl, PageState.code_of_ofCode hst, rfl, rfl⟩

/-- Check 1 passes exactly when the pages read are those of the page table. -/
theorem pagesRead_iff (g : Geometry) (m : Memory) (ps : List Page) :
    PagesRead g m ps ↔
      ((List.range g.pageCount).map fun i => readPage m (descriptorAddress g i)).findIdx? Option.isNone = none ∧
        ps = readPages g m := by
  rw [List.findIdx?_eq_none_iff]
  constructor
  · intro h
    have each : ∀ i, i < g.pageCount → readPage m (descriptorAddress g i) = some (ps.getD i .nothing) := fun i hi => by
      obtain ⟨ha, hs, hc, hf⟩ := h.page i hi
      exact readPage_of_code ha hs hc hf
    refine ⟨fun x hx => ?_, List.ext_getElem (by rw [h.length, readPages_length]) fun i h₁ h₂ => ?_⟩
    · obtain ⟨i, hi, rfl⟩ := List.mem_map.mp hx
      rw [each i (List.mem_range.mp hi)]
      rfl
    · have hi : i < g.pageCount := h.length ▸ h₁
      rw [← List.getD_eq_getElem ps .nothing h₁, ← List.getD_eq_getElem (readPages g m) .nothing h₂, readPages_getD hi,
        each i hi]
      rfl
  · rintro ⟨h, rfl⟩
    refine ⟨readPages_length g m, fun i hi => ?_⟩
    have some := h _ (List.mem_map_of_mem (List.mem_range.mpr hi))
    obtain ⟨p, hp⟩ := Option.ne_none_iff_exists'.mp (Option.isNone_eq_false_iff.mp some |> Option.isSome_iff_ne_none.mp)
    rw [readPages_getD hi, hp]
    exact readPage_fields hp

/-! ## Checks 2 to 4 of R159 -/

/-- A check of each page with the pages before it, by the indices. -/
theorem firstBad_none_iff_getD {bad : List Page → Nat → Page → Bool} {ps : List Page} :
    firstBad bad [] 0 ps = none ↔ ∀ i, i < ps.length → bad (ps.take i) i (ps.getD i .nothing) = false := by
  rw [firstBad_none_iff]
  refine forall_congr' fun i => forall_congr' fun hi => ?_
  rw [List.nil_append, Nat.zero_add, List.getD_eq_getElem _ _ hi]

theorem any_take_iff {ps : List Page} {p : Page → Bool} {i : Nat} (hi : i < ps.length) :
    (ps.take i).any p = true ↔ ∃ j, j < i ∧ p (ps.getD j .nothing) = true := by
  rw [List.any_eq_true]
  constructor
  · rintro ⟨x, hx, hp⟩
    obtain ⟨j, hj, rfl⟩ := List.mem_take_iff_getElem.mp hx
    exact ⟨j, by omega, by rwa [List.getD_eq_getElem _ _ (by omega)]⟩
  · rintro ⟨j, hj, hp⟩
    rw [List.getD_eq_getElem _ _ (by omega)] at hp
    exact ⟨_, List.mem_take_iff_getElem.mpr ⟨j, by omega, rfl⟩, hp⟩

theorem pagesOverlap_iff (a b : Page) :
    pagesOverlap a b = true ↔ ¬ (b.address + 1024 ≤ a.address ∨ a.address + 1024 ≤ b.address) := by
  rw [pagesOverlap, Bool.and_eq_true, decide_eq_true_eq, decide_eq_true_eq]
  omega

section Checks

variable {g : Geometry} {m : Memory} {ps : List Page} (h : PagesRead g m ps)
include h

theorem badPlace_none_iff :
    firstBad (badPlace g) [] 0 ps = none ↔
      (∀ i, i < g.pageCount → m.read32 (descriptorAddress g i) % 32 = 0 ∧
        g.inWindow (m.read32 (descriptorAddress g i)) 1024 = true) ∧
      ∀ i j, i < j → j < g.pageCount →
        m.read32 (descriptorAddress g i) + 1024 ≤ m.read32 (descriptorAddress g j) ∨
          m.read32 (descriptorAddress g j) + 1024 ≤ m.read32 (descriptorAddress g i) := by
  have each : ∀ i, i < g.pageCount → (badPlace g (ps.take i) i (ps.getD i .nothing) = false ↔
      (m.read32 (descriptorAddress g i) % 32 = 0 ∧ g.inWindow (m.read32 (descriptorAddress g i)) 1024 = true) ∧
      ∀ j, j < i → m.read32 (descriptorAddress g j) + 1024 ≤ m.read32 (descriptorAddress g i) ∨
          m.read32 (descriptorAddress g i) + 1024 ≤ m.read32 (descriptorAddress g j)) := fun i hi => by
    rw [badPlace, Bool.or_eq_false_iff, Bool.or_eq_false_iff, bne_eq_false_iff_eq, Bool.not_eq_false', (h.page i hi).1,
      ← Bool.not_eq_true (List.any _ _), any_take_iff (h.length ▸ hi)]
    refine and_congr_right fun _ => ?_
    push Not
    refine forall_congr' fun j => forall_congr' fun hj => ?_
    rw [Ne, pagesOverlap_iff, not_not, (h.page i hi).1, (h.page j (by omega)).1]
  rw [firstBad_none_iff_getD, h.length]
  constructor
  · exact fun hp => ⟨fun i hi => ((each i hi).mp (hp i hi)).1, fun i j hij hj => ((each j hj).mp (hp j hj)).2 i hij⟩
  · exact fun ⟨hp, ho⟩ i hi => (each i hi).mpr ⟨hp i hi, fun j hj => ho j i hj hi⟩

theorem badCount_none_iff :
    firstBad badCount [] 0 ps = none ↔
      ∀ i, i < g.pageCount →
        (m.read16 (descriptorAddress g i + 4) = 1 → m.read16 (descriptorAddress g i + 6) ≤ 31) ∧
        (m.read16 (descriptorAddress g i + 4) = 2 ∨ m.read16 (descriptorAddress g i + 4) = 3 →
          1 ≤ m.read16 (descriptorAddress g i + 6) ∧ m.read16 (descriptorAddress g i + 6) ≤ 32) := by
  rw [firstBad_none_iff_getD, h.length]
  refine forall_congr' fun i => forall_congr' fun hi => ?_
  obtain ⟨_, hs, hc, _⟩ := h.page i hi
  rw [← hs, ← hc, badCount]
  cases (ps.getD i .nothing).state with
  | free => simp [PageState.code]
  | filling => simp [PageState.code]
  | full | sending => simp [PageState.code, Nat.one_le_iff_ne_zero]

/-- No page before `i` that is FILLING, or SENDING, as page `i` is. -/
theorem badSecond_iff {i : Nat} (hi : i < g.pageCount) :
    badSecond (ps.take i) i (ps.getD i .nothing) = true ↔
      ∃ j, j < i ∧ m.read16 (descriptorAddress g j + 4) = m.read16 (descriptorAddress g i + 4) ∧
        (m.read16 (descriptorAddress g i + 4) = 1 ∨ m.read16 (descriptorAddress g i + 4) = 3) := by
  rw [badSecond, Bool.or_eq_true, Bool.and_eq_true, Bool.and_eq_true, any_take_iff (h.length ▸ hi),
    any_take_iff (h.length ▸ hi), ← (h.page i hi).2.1]
  have code : ∀ st : PageState, ∀ j, j < i →
      (((ps.getD j .nothing).state == st) = true ↔ m.read16 (descriptorAddress g j + 4) = st.code) := fun st j hj => by
    rw [← (h.page j (by omega)).2.1, beq_iff_eq]
    exact ⟨congrArg _, PageState.code_inj⟩
  cases (ps.getD i .nothing).state with
  | free | full => simp [PageState.code]
  | filling =>
    simp only [beq_self_eq_true, true_and, beq_iff_eq, reduceCtorEq, false_and, or_false, PageState.code, true_or, and_true]
    exact exists_congr fun j => and_congr_right fun hj => beq_iff_eq.symm.trans (code .filling j hj)
  | sending =>
    simp only [beq_self_eq_true, true_and, beq_iff_eq, reduceCtorEq, false_and, false_or, PageState.code, or_true, and_true]
    exact exists_congr fun j => and_congr_right fun hj => beq_iff_eq.symm.trans (code .sending j hj)

theorem badSecond_none_iff :
    firstBad badSecond [] 0 ps = none ↔
      ∀ i j, i < g.pageCount → j < g.pageCount →
        m.read16 (descriptorAddress g i + 4) = m.read16 (descriptorAddress g j + 4) →
        m.read16 (descriptorAddress g i + 4) = 1 ∨ m.read16 (descriptorAddress g i + 4) = 3 → i = j := by
  rw [firstBad_none_iff_getD, h.length]
  constructor
  · intro hb i j hi hj hij hs
    rcases Nat.lt_trichotomy i j with hlt | rfl | hlt
    · exact absurd ((badSecond_iff h hj).mpr ⟨i, hlt, hij, hij ▸ hs⟩) (by rw [hb j hj]; decide)
    · rfl
    · exact absurd ((badSecond_iff h hi).mpr ⟨j, hlt, hij.symm, hs⟩) (by rw [hb i hi]; decide)
  · intro hu i hi
    rw [← Bool.not_eq_true, badSecond_iff h hi]
    rintro ⟨j, hj, hij, hs⟩
    exact absurd (hu j i (by omega) hi hij (hij ▸ hs)) (by omega)

end Checks

end Sys2Proof.Machine
end

section
/-! PROOF. The run of the pages in use (checks 5 to 7 of R159). -/

namespace Sys2Proof.Machine

/-! ## The pages in use and the places of a run -/

/-- The indices of the non-FREE pages. -/
def inUse (ps : List Page) : List Nat := (List.range ps.length).filter fun i => (ps.getD i .nothing).state != .free

theorem mem_inUse {ps : List Page} {i : Nat} : i ∈ inUse ps ↔ i < ps.length ∧ (ps.getD i .nothing).state ≠ .free := by
  rw [inUse, List.mem_filter, List.mem_range, bne_iff_ne]

theorem nodup_inUse (ps : List Page) : (inUse ps).Nodup := List.nodup_range.filter _

theorem inUse_length_le (ps : List Page) : (inUse ps).length ≤ ps.length :=
  (List.length_filter_le _ _).trans_eq List.length_range

theorem inUse_length_lt {ps : List Page} {i : Nat} (hi : i < ps.length) (hf : (ps.getD i .nothing).state = .free) :
    (inUse ps).length < ps.length := by
  refine (List.length_filter_lt_length_iff_exists.mpr ⟨i, List.mem_range.mpr hi, ?_⟩).trans_eq List.length_range
  rw [hf]
  decide

theorem inUse_length_pos {ps : List Page} {i : Nat} (hi : i < ps.length) (hf : (ps.getD i .nothing).state ≠ .free) :
    0 < (inUse ps).length := List.length_pos_of_mem (mem_inUse.mpr ⟨hi, hf⟩)

theorem map_getD_range (ps : List Page) : (List.range ps.length).map (fun i => ps.getD i .nothing) = ps := by
  refine List.ext_getElem (by simp) fun i h₁ h₂ => ?_
  rw [List.getElem_map, List.getElem_range, List.getD_eq_getElem _ _ h₂]

theorem filter_length_eq (ps : List Page) : (ps.filter fun p => p.state != .free).length = (inUse ps).length := by
  conv_lhs => rw [← map_getD_range ps]
  rw [List.filter_map, List.length_map]
  rfl

/-- Place `x` of a run of `k` pages that ends with `newest`, on a ring of `n`. -/
def runPage (n newest k x : Nat) : Nat := (newest + n + 1 + x - k) % n

theorem runOf_eq (ps : List Page) (newest : Nat) :
    runOf ps newest = (List.range (inUse ps).length).map (runPage ps.length newest (inUse ps).length) := by
  rw [← filter_length_eq]
  rfl

section Places

variable {n newest k : Nat} (hk : k ≤ n)
include hk

theorem runPage_last (hn : newest < n) (hpos : 0 < k) : runPage n newest k (k - 1) = newest := by
  rw [runPage, show newest + n + 1 + (k - 1) - k = newest + n by omega, Nat.add_mod_right, Nat.mod_eq_of_lt hn]

theorem runPage_next (x : Nat) : runPage n newest k (x + 1) = (runPage n newest k x + 1) % n := by
  rw [runPage, runPage, Nat.mod_add_mod, show newest + n + 1 + (x + 1) - k = newest + n + 1 + x - k + 1 by omega]

theorem runPage_inj {x y : Nat} (hx : x < n) (hy : y < n) (h : runPage n newest k x = runPage n newest k y) : x = y := by
  refine Nat.ModEq.eq_of_lt_of_lt (Nat.ModEq.add_left_cancel' (newest + n + 1 - k) ?_) hx hy
  rw [← Nat.sub_add_comm (by omega), ← Nat.sub_add_comm (by omega)]
  exact h

theorem nodup_run : ((List.range k).map (runPage n newest k)).Nodup := by
  refine List.Nodup.map_on (fun x hx y hy => ?_) List.nodup_range
  rw [List.mem_range] at hx hy
  exact runPage_inj hk (by omega) (by omega)

end Places

/-- A run as long as the pages in use are many, and holding them all, holds no other page. -/
theorem mem_run_iff {ps : List Page} {newest : Nat} (h : ∀ i ∈ inUse ps, i ∈ runOf ps newest) (i : Nat) :
    i ∈ runOf ps newest ↔ i ∈ inUse ps := by
  have perm := ((nodup_inUse ps).subperm h).perm_of_length_le (by rw [runOf_eq, List.length_map, List.length_range])
  exact perm.mem_iff.symm

/-- A run that holds the pages in use and no other is as long as they are many. -/
theorem length_of_mem_run {ps : List Page} {newest k : Nat} (hk : k ≤ ps.length)
    (h : ∀ i, i ∈ inUse ps ↔ i ∈ (List.range k).map (runPage ps.length newest k)) : (inUse ps).length = k := by
  have perm := (List.perm_ext_iff_of_nodup (nodup_inUse ps) (nodup_run hk)).mpr h
  rw [perm.length_eq, List.length_map, List.length_range]

/-! ## What the checks of a run say -/

theorem badSequence_none_iff (ps : List Page) (run : List Nat) :
    badSequence ps run = none ↔ run.IsChain fun a b =>
      wrap32 ((ps.getD a .nothing).first + (ps.getD a .nothing).count) = (ps.getD b .nothing).first := by
  match run with
  | [] => simp [badSequence]
  | [a] => simp [badSequence]
  | a :: b :: r =>
    rw [badSequence, List.isChain_cons_cons]
    split
    case isTrue h => rw [badSequence_none_iff ps (b :: r), and_iff_right h]
    case isFalse h => exact ⟨nofun, fun hc => absurd hc.1 h⟩

theorem checkRun_iff (ps : List Page) (newest : Nat) :
    checkRun ps newest = .ok () ↔
      (∀ i ∈ inUse ps, i ∈ runOf ps newest) ∧
      (∀ i, i < ps.length → (ps.getD i .nothing).state = .sending → (runOf ps newest).head? = some i) ∧
      badSequence ps (runOf ps newest) = none := by
  unfold checkRun
  simp only [toShapeFault_bind, toShapeFault_ok, List.find?_eq_none, List.mem_range]
  refine and_congr ⟨fun h i hi => ?_, fun h i hi => ?_⟩ (and_congr (forall_congr' fun i => forall_congr' fun hi => ?_) Iff.rfl)
  · obtain ⟨hlt, hs⟩ := mem_inUse.mp hi
    have found := h i hlt
    rwa [bne_iff_ne.mpr hs, Bool.true_and, Bool.not_eq_true, Bool.not_eq_false', List.contains_iff_mem] at found
  · rw [Bool.not_eq_true, Bool.and_eq_false_imp, bne_iff_ne, Bool.not_eq_false', List.contains_iff_mem]
    exact fun hs => h i (mem_inUse.mpr ⟨hi, hs⟩)
  · rw [Bool.not_eq_true, Bool.and_eq_false_imp, beq_iff_eq, bne_eq_false_iff_eq]

/-! ## The newest page (check 5) -/

/-- What makes page `i` the newest: it is the FILLING page; or, with none, the page before the next on a full ring, else the
last before a FREE one. -/
structure Newest (ps : List Page) (next i : Nat) : Prop where
  lt : i < ps.length
  inUse : (ps.getD i .nothing).state ≠ .free
  full : (∀ j, j < ps.length → (ps.getD j .nothing).state ≠ .free ∧ (ps.getD j .nothing).state ≠ .filling) →
    i = (next + ps.length - 1) % ps.length
  free : ∀ j, j < ps.length → (ps.getD j .nothing).state = .free →
    (∀ j, j < ps.length → (ps.getD j .nothing).state ≠ .filling) → (ps.getD ((i + 1) % ps.length) .nothing).state = .free
  filling : (∃ j, j < ps.length ∧ (ps.getD j .nothing).state = .filling) → (ps.getD i .nothing).state = .filling

theorem all_iff_getD {ps : List Page} {p : Page → Bool} :
    ps.all p = true ↔ ∀ i, i < ps.length → p (ps.getD i .nothing) = true := by
  conv_lhs => rw [← map_getD_range ps]
  simp [List.all_map, List.all_eq_true, List.mem_range, Function.comp]

theorem findIdx?_filling_none {ps : List Page} :
    ps.findIdx? (fun p => p.state == .filling) = none ↔ ∀ i, i < ps.length → (ps.getD i .nothing).state ≠ .filling := by
  have each := all_iff_getD (ps := ps) (p := fun p => !(p.state == .filling))
  rw [List.all_eq_true] at each
  simpa only [List.findIdx?_eq_none_iff, Bool.not_eq_true', beq_eq_false_iff_ne] using each

theorem all_free_iff {ps : List Page} :
    (ps.all fun p => p.state == .free) = true ↔ ∀ i, i < ps.length → (ps.getD i .nothing).state = .free := by
  rw [all_iff_getD]
  simp only [beq_iff_eq]

theorem all_inUse_iff {ps : List Page} :
    (ps.all fun p => p.state != .free) = true ↔ ∀ i, i < ps.length → (ps.getD i .nothing).state ≠ .free := by
  rw [all_iff_getD]
  simp only [bne_iff_ne]

theorem findIdx?_filling_some {ps : List Page} {i : Nat} (hi : i < ps.length) (hs : (ps.getD i .nothing).state = .filling)
    (hu : ∀ j, j < ps.length → (ps.getD j .nothing).state = .filling → j = i) :
    ps.findIdx? (fun p => p.state == .filling) = some i := by
  refine List.findIdx?_eq_some_iff_getElem.mpr ⟨hi, ?_, fun j hj hf => ?_⟩
  · rwa [beq_iff_eq, ← List.getD_eq_getElem _ .nothing]
  · rw [beq_iff_eq, ← List.getD_eq_getElem _ .nothing] at hf
    exact absurd (hu j (by omega) hf) (by omega)

theorem newestPage_filling {ps : List Page} {i : Nat} (hi : i < ps.length) (hs : (ps.getD i .nothing).state = .filling)
    (hu : ∀ j, j < ps.length → (ps.getD j .nothing).state = .filling → j = i) (next : Nat) : newestPage ps next = some i := by
  rw [newestPage, findIdx?_filling_some hi hs hu]

/-- The place of the newest page when no page is FILLING. -/
theorem newestPage_unfilled {ps : List Page} (hf : ∀ i, i < ps.length → (ps.getD i .nothing).state ≠ .filling) (next : Nat) :
    newestPage ps next =
      if ps.all fun p => p.state == .free then none
      else if ps.all fun p => p.state != .free then some ((next + ps.length - 1) % ps.length)
      else (List.range ps.length).find? fun i =>
        (ps.getD i .nothing).state != .free && (ps.getD ((i + 1) % ps.length) .nothing).state == .free := by
  rw [newestPage, findIdx?_filling_none.mpr hf]

theorem newestPage_some {ps : List Page} {next i : Nat} (h : newestPage ps next = some i) : Newest ps next i := by
  by_cases hf : ∀ i, i < ps.length → (ps.getD i .nothing).state ≠ .filling
  · rw [newestPage_unfilled hf] at h
    have unfilled : ¬ ∃ j, j < ps.length ∧ (ps.getD j .nothing).state = .filling := fun ⟨j, hj, hs⟩ => hf j hj hs
    split at h
    case isTrue => cases h
    case isFalse hsome =>
      rw [all_free_iff] at hsome
      have pos : 0 < ps.length := Nat.pos_of_ne_zero fun h0 => hsome fun i hi => by omega
      split at h
      case isTrue hall =>
        cases h
        rw [all_inUse_iff] at hall
        have lt := Nat.mod_lt (next + ps.length - 1) pos
        exact ⟨lt, hall _ lt, fun _ => rfl, fun j hj hs _ => absurd hs (hall j hj), fun he => absurd he unfilled⟩
      case isFalse hfree =>
        have lt := List.mem_range.mp (List.mem_of_find?_eq_some h)
        have last := List.find?_some h
        rw [Bool.and_eq_true, bne_iff_ne, beq_iff_eq] at last
        rw [all_inUse_iff] at hfree
        exact ⟨lt, last.1, fun ha => absurd (fun j hj => (ha j hj).1) hfree, fun _ _ _ _ => last.2,
          fun he => absurd he unfilled⟩
  · cases hj : ps.findIdx? fun p => p.state == .filling with
    | none => exact absurd (findIdx?_filling_none.mp hj) hf
    | some j =>
      rw [newestPage, hj] at h
      cases h
      obtain ⟨hlt, hs, _⟩ := List.findIdx?_eq_some_iff_getElem.mp hj
      have filling : (ps.getD i .nothing).state = .filling := by rwa [List.getD_eq_getElem _ _ hlt, ← beq_iff_eq]
      exact ⟨hlt, by rw [filling]; decide, fun ha => absurd filling (ha i hlt).2, fun _ _ _ hn => absurd filling (hn i hlt),
        fun _ => filling⟩

/-- Walking a ring from a page in use, whose every page in use has the next in use, meets no FREE page. -/
theorem inUse_everywhere {ps : List Page} (hstep : ∀ i, i < ps.length → (ps.getD i .nothing).state ≠ .free →
      (ps.getD ((i + 1) % ps.length) .nothing).state ≠ .free) {i : Nat} (hi : i < ps.length)
    (hs : (ps.getD i .nothing).state ≠ .free) (x : Nat) : (ps.getD ((i + x) % ps.length) .nothing).state ≠ .free := by
  induction x with
  | zero => rwa [Nat.add_zero, Nat.mod_eq_of_lt hi]
  | succ x ih =>
    have := hstep _ (Nat.mod_lt (i + x) (by omega)) ih
    rwa [Nat.mod_add_mod] at this

theorem newestPage_none {ps : List Page} {next : Nat} :
    newestPage ps next = none ↔ ∀ i, i < ps.length → (ps.getD i .nothing).state = .free := by
  constructor
  · intro h
    by_cases hf : ∀ i, i < ps.length → (ps.getD i .nothing).state ≠ .filling
    · rw [newestPage_unfilled hf] at h
      split at h
      case isTrue hall => exact all_free_iff.mp hall
      case isFalse hsome =>
        split at h
        case isTrue => cases h
        case isFalse hfree =>
          have hstep : ∀ i, i < ps.length → (ps.getD i .nothing).state ≠ .free →
              (ps.getD ((i + 1) % ps.length) .nothing).state ≠ .free := fun i hi hs hn => by
            refine List.find?_eq_none.mp h i (List.mem_range.mpr hi) ?_
            rw [Bool.and_eq_true, bne_iff_ne, beq_iff_eq]
            exact ⟨hs, hn⟩
          intro i hi
          by_contra hs
          refine hfree (all_inUse_iff.mpr fun j hj => ?_)
          have reached := inUse_everywhere hstep hi hs (ps.length - i + j)
          rwa [show i + (ps.length - i + j) = ps.length + j by omega, Nat.add_mod_left, Nat.mod_eq_of_lt hj] at reached
    · cases hj : ps.findIdx? fun p => p.state == .filling with
      | none => exact absurd (findIdx?_filling_none.mp hj) hf
      | some j => rw [newestPage, hj] at h; cases h
  · intro h
    rw [newestPage_unfilled fun i hi => by rw [h i hi]; decide, if_pos (all_free_iff.mpr h)]

/-- With no page FILLING and some page FREE, the newest page is the only page in use whose next is FREE. -/
theorem newestPage_partial {ps : List Page} {next i : Nat}
    (hf : ∀ j, j < ps.length → (ps.getD j .nothing).state ≠ .filling)
    (hfree : ∃ j, j < ps.length ∧ (ps.getD j .nothing).state = .free) (hi : i < ps.length)
    (hs : (ps.getD i .nothing).state ≠ .free) (hn : (ps.getD ((i + 1) % ps.length) .nothing).state = .free)
    (hu : ∀ j, j < ps.length → (ps.getD j .nothing).state ≠ .free →
      (ps.getD ((j + 1) % ps.length) .nothing).state = .free → j = i) : newestPage ps next = some i := by
  obtain ⟨j, hj, hjf⟩ := hfree
  rw [newestPage_unfilled hf, if_neg fun h => hs (all_free_iff.mp h i hi), if_neg fun h => all_inUse_iff.mp h j hj hjf]
  cases h : (List.range ps.length).find? fun i =>
      (ps.getD i .nothing).state != .free && (ps.getD ((i + 1) % ps.length) .nothing).state == .free with
  | none =>
    refine absurd ?_ (List.find?_eq_none.mp h i (List.mem_range.mpr hi))
    rw [Bool.and_eq_true, bne_iff_ne, beq_iff_eq]
    exact ⟨hs, hn⟩
  | some k =>
    have last := List.find?_some h
    rw [Bool.and_eq_true, bne_iff_ne, beq_iff_eq] at last
    rw [hu k (List.mem_range.mp (List.mem_of_find?_eq_some h)) last.1 last.2]

theorem newestPage_full {ps : List Page} {next : Nat} (hpos : 0 < ps.length)
    (hf : ∀ j, j < ps.length → (ps.getD j .nothing).state ≠ .free ∧ (ps.getD j .nothing).state ≠ .filling) :
    newestPage ps next = some ((next + ps.length - 1) % ps.length) := by
  rw [newestPage_unfilled fun j hj => (hf j hj).2, if_neg fun h => (hf 0 hpos).1 (all_free_iff.mp h 0 hpos),
    if_pos (all_inUse_iff.mpr fun j hj => (hf j hj).1)]

/-! ## Checks 5 to 7, of a page table that is not all FREE -/

/-- The pages in use are a run of `k` pages that ends with `newest`, as checks 5 to 7 of R159 have it. -/
structure RunHolds (ps : List Page) (next newest k : Nat) : Prop where
  pos : 1 ≤ k
  le : k ≤ ps.length
  inUse : ∀ i, i < ps.length → ((ps.getD i .nothing).state ≠ .free ↔ ∃ x, x < k ∧ i = runPage ps.length newest k x)
  filling : ∀ i, i < ps.length → (ps.getD i .nothing).state = .filling → i = newest
  full : (∀ i, i < ps.length → (ps.getD i .nothing).state ≠ .free ∧ (ps.getD i .nothing).state ≠ .filling) →
    newest = (next + ps.length - 1) % ps.length
  sending : ∀ i, i < ps.length → (ps.getD i .nothing).state = .sending → i = runPage ps.length newest k 0
  sequence : ∀ x, x + 1 < k → (ps.getD (runPage ps.length newest k (x + 1)) .nothing).first
    = wrap32 ((ps.getD (runPage ps.length newest k x) .nothing).first + (ps.getD (runPage ps.length newest k x) .nothing).count)

theorem run_head? {ps : List Page} {newest : Nat} (h : 0 < (inUse ps).length) :
    (runOf ps newest).head? = some (runPage ps.length newest (inUse ps).length 0) := by
  rw [runOf_eq]
  obtain ⟨k, hk⟩ := Nat.exists_eq_succ_of_ne_zero (Nat.ne_of_gt h)
  rw [hk, List.range_succ_eq_map]
  rfl

theorem run_chain_iff (ps : List Page) (newest : Nat) :
    badSequence ps (runOf ps newest) = none ↔ ∀ x, x + 1 < (inUse ps).length →
      (ps.getD (runPage ps.length newest (inUse ps).length (x + 1)) .nothing).first
        = wrap32 ((ps.getD (runPage ps.length newest (inUse ps).length x) .nothing).first
            + (ps.getD (runPage ps.length newest (inUse ps).length x) .nothing).count) := by
  rw [badSequence_none_iff, List.isChain_iff_getElem, runOf_eq]
  simp only [List.getElem_map, List.getElem_range, List.length_map, List.length_range, eq_comm]

theorem mem_run {ps : List Page} {newest i : Nat} :
    i ∈ runOf ps newest ↔ ∃ x, x < (inUse ps).length ∧ i = runPage ps.length newest (inUse ps).length x := by
  rw [runOf_eq, List.mem_map]
  simp only [List.mem_range, eq_comm]

theorem runHolds_of_checks {ps : List Page} {next newest : Nat} (hn : Newest ps next newest)
    (hsingle : ∀ i j, i < ps.length → j < ps.length → (ps.getD i .nothing).state = .filling →
      (ps.getD j .nothing).state = .filling → i = j) (hc : checkRun ps newest = .ok ()) :
    RunHolds ps next newest (inUse ps).length := by
  obtain ⟨held, sending, sequence⟩ := (checkRun_iff ps newest).mp hc
  have pos := inUse_length_pos hn.lt hn.inUse
  refine ⟨pos, inUse_length_le ps, fun i hi => ?_, fun i hi hs => ?_, hn.full, fun i hi hs => ?_,
    (run_chain_iff ps newest).mp sequence⟩
  · rw [← mem_run, mem_run_iff held, mem_inUse, and_iff_right hi]
  · exact hsingle i newest hi hn.lt hs (hn.filling ⟨i, hi, hs⟩)
  · exact (Option.some.inj ((run_head? pos).symm.trans (sending i hi hs))).symm

namespace RunHolds

variable {ps : List Page} {next newest k : Nat} (h : RunHolds ps next newest k) (hn : newest < ps.length)
include h

theorem length_eq : (Machine.inUse ps).length = k := by
  have pos : 0 < ps.length := Nat.lt_of_lt_of_le h.pos h.le
  refine length_of_mem_run (newest := newest) h.le fun i => ?_
  rw [mem_inUse, List.mem_map]
  constructor
  · rintro ⟨hi, hs⟩
    obtain ⟨x, hx, rfl⟩ := (h.inUse i hi).mp hs
    exact ⟨x, List.mem_range.mpr hx, rfl⟩
  · rintro ⟨x, hx, rfl⟩
    have lt : runPage ps.length newest k x < ps.length := Nat.mod_lt _ pos
    exact ⟨lt, (h.inUse _ lt).mpr ⟨x, List.mem_range.mp hx, rfl⟩⟩

theorem checkRun : Machine.checkRun ps newest = .ok () := by
  have length := h.length_eq
  refine (checkRun_iff ps newest).mpr ⟨fun i hi => ?_, fun i hi hs => ?_, (run_chain_iff ps newest).mpr ?_⟩
  · obtain ⟨hi, hs⟩ := mem_inUse.mp hi
    rw [mem_run, length]
    exact (h.inUse i hi).mp hs
  · rw [run_head? (length ▸ h.pos), length, h.sending i hi hs]
  · rw [length]
    exact h.sequence

include hn

theorem newest_inUse : (ps.getD newest .nothing).state ≠ .free :=
  (h.inUse newest hn).mpr ⟨k - 1, Nat.sub_lt h.pos Nat.one_pos, (runPage_last h.le hn h.pos).symm⟩

/-- Of a page of the run that is not the newest, the next is in use too. -/
theorem next_inUse {i : Nat} (hi : i < ps.length) (hs : (ps.getD i .nothing).state ≠ .free) (hne : i ≠ newest) :
    (ps.getD ((i + 1) % ps.length) .nothing).state ≠ .free := by
  obtain ⟨x, hx, rfl⟩ := (h.inUse i hi).mp hs
  have notLast : x ≠ k - 1 := fun hx => hne (hx ▸ runPage_last h.le hn h.pos)
  rw [← runPage_next h.le]
  exact (h.inUse _ (Nat.mod_lt _ (by omega))).mpr ⟨x + 1, by omega, rfl⟩

theorem newestPage : Machine.newestPage ps next = some newest := by
  by_cases hf : ∃ j, j < ps.length ∧ (ps.getD j .nothing).state = .filling
  · obtain ⟨j, hj, hs⟩ := hf
    obtain rfl := h.filling j hj hs
    exact newestPage_filling hj hs h.filling next
  · have unfilled : ∀ j, j < ps.length → (ps.getD j .nothing).state ≠ .filling := fun j hj hs => hf ⟨j, hj, hs⟩
    by_cases hfree : ∃ j, j < ps.length ∧ (ps.getD j .nothing).state = .free
    · refine newestPage_partial unfilled hfree hn (h.newest_inUse hn) ?_ fun j hj hs hnext => ?_
      · by_contra hnext
        obtain ⟨j, hj, hs⟩ := hfree
        have reached := inUse_everywhere (fun i hi hs => if he : i = newest then he ▸ hnext else h.next_inUse hn hi hs he) hn
          (h.newest_inUse hn) (ps.length - newest + j)
        rw [show newest + (ps.length - newest + j) = ps.length + j by omega, Nat.add_mod_left, Nat.mod_eq_of_lt hj] at reached
        exact reached hs
      · by_contra hne
        exact h.next_inUse hn hj hs hne hnext
    · have full : ∀ j, j < ps.length → (ps.getD j .nothing).state ≠ .free ∧ (ps.getD j .nothing).state ≠ .filling :=
        fun j hj => ⟨fun hs => hfree ⟨j, hj, hs⟩, unfilled j hj⟩
      rw [newestPage_full (by omega) full, ← h.full full]

end RunHolds

end Sys2Proof.Machine
end

section
/-! PROOF. The checks of the journal (R159), as the page table in desk memory meets them. -/

namespace Sys2Proof.Machine

/-! ## The run, by the words of the page table -/

section Codes

variable {g : Geometry} {m : Memory} {ps : List Page} (h : PagesRead g m ps)
include h

theorem PagesRead.code_iff {i : Nat} (hi : i < g.pageCount) (st : PageState) :
    m.read16 (descriptorAddress g i + 4) = st.code ↔ (ps.getD i .nothing).state = st := by
  rw [← (h.page i hi).2.1]
  exact ⟨PageState.code_inj, congrArg _⟩

theorem PagesRead.single_iff :
    (∀ i j, i < g.pageCount → j < g.pageCount →
        m.read16 (descriptorAddress g i + 4) = m.read16 (descriptorAddress g j + 4) →
        m.read16 (descriptorAddress g i + 4) = 1 ∨ m.read16 (descriptorAddress g i + 4) = 3 → i = j) →
      ∀ i j, i < ps.length → j < ps.length → (ps.getD i .nothing).state = .filling →
        (ps.getD j .nothing).state = .filling → i = j := by
  intro hs i j hi hj hfi hfj
  rw [h.length] at hi hj
  have ci := (h.code_iff hi .filling).mpr hfi
  exact hs i j hi hj (ci.trans ((h.code_iff hj .filling).mpr hfj).symm) (.inl ci)

/-- Checks 5 to 7 in the words of the descriptors. -/
theorem PagesRead.runHolds_iff {next newest k : Nat} :
    RunHolds ps next newest k ↔ 1 ≤ k ∧ k ≤ g.pageCount ∧
      (∀ i, i < g.pageCount → (m.read16 (descriptorAddress g i + 4) ≠ 0 ↔
        ∃ x, x < k ∧ i = (newest + g.pageCount + 1 + x - k) % g.pageCount)) ∧
      (∀ i, i < g.pageCount → m.read16 (descriptorAddress g i + 4) = 1 → i = newest) ∧
      ((∀ i, i < g.pageCount → m.read16 (descriptorAddress g i + 4) ≠ 0 ∧ m.read16 (descriptorAddress g i + 4) ≠ 1) →
        newest = (next + g.pageCount - 1) % g.pageCount) ∧
      (∀ i, i < g.pageCount → m.read16 (descriptorAddress g i + 4) = 3 →
        i = (newest + g.pageCount + 1 + 0 - k) % g.pageCount) ∧
      (∀ x, x + 1 < k → m.read32 (descriptorAddress g ((newest + g.pageCount + 1 + (x + 1) - k) % g.pageCount) + 8)
        = (m.read32 (descriptorAddress g ((newest + g.pageCount + 1 + x - k) % g.pageCount) + 8)
            + m.read16 (descriptorAddress g ((newest + g.pageCount + 1 + x - k) % g.pageCount) + 6)) % 4294967296) := by
  have free : ∀ i, i < g.pageCount → (m.read16 (descriptorAddress g i + 4) = 0 ↔ (ps.getD i .nothing).state = .free) :=
    fun i hi => h.code_iff hi .free
  have filling : ∀ i, i < g.pageCount → (m.read16 (descriptorAddress g i + 4) = 1 ↔ (ps.getD i .nothing).state = .filling) :=
    fun i hi => h.code_iff hi .filling
  have sending : ∀ i, i < g.pageCount → (m.read16 (descriptorAddress g i + 4) = 3 ↔ (ps.getD i .nothing).state = .sending) :=
    fun i hi => h.code_iff hi .sending
  have used : (∀ i, i < g.pageCount → (ps.getD i .nothing).state ≠ .free ∧ (ps.getD i .nothing).state ≠ .filling) ↔
      ∀ i, i < g.pageCount → m.read16 (descriptorAddress g i + 4) ≠ 0 ∧ m.read16 (descriptorAddress g i + 4) ≠ 1 :=
    forall_congr' fun i => forall_congr' fun hi => and_congr (not_congr (free i hi).symm) (not_congr (filling i hi).symm)
  have fields : ∀ x, 0 < g.pageCount → (ps.getD (runPage ps.length newest k x) .nothing).first
        = m.read32 (descriptorAddress g (runPage g.pageCount newest k x) + 8) ∧
      (ps.getD (runPage ps.length newest k x) .nothing).count
        = m.read16 (descriptorAddress g (runPage g.pageCount newest k x) + 6) := fun x hpos => by
    obtain ⟨_, _, hc, hf⟩ := h.page _ (Nat.mod_lt (newest + g.pageCount + 1 + x - k) hpos)
    rw [h.length]
    exact ⟨hf, hc⟩
  constructor
  · intro hr
    have pos : 0 < g.pageCount := h.length ▸ Nat.lt_of_lt_of_le hr.pos hr.le
    have length := h.length
    refine ⟨hr.pos, length ▸ hr.le, fun i hi => ?_, fun i hi hs => ?_, fun hu => ?_, fun i hi hs => ?_, fun x hx => ?_⟩
    · rw [Ne, free i hi, ← Ne, hr.inUse i (length ▸ hi), length]
      rfl
    · exact hr.filling i (length ▸ hi) ((filling i hi).mp hs)
    · rw [← length]
      exact hr.full (length ▸ used.mpr hu)
    · rw [hr.sending i (length ▸ hi) ((sending i hi).mp hs), length]
      rfl
    · have chain := hr.sequence x hx
      rwa [(fields x pos).1, (fields x pos).2, (fields (x + 1) pos).1] at chain
  · rintro ⟨hpos, hle, hinUse, hfilling, hfull, hsending, hsequence⟩
    have pos : 0 < g.pageCount := by omega
    have length := h.length
    refine ⟨hpos, length ▸ hle, fun i hi => ?_, fun i hi hs => ?_, fun hu => ?_, fun i hi hs => ?_, fun x hx => ?_⟩
    · rw [length] at hi ⊢
      rw [Ne, ← free i hi]
      exact hinUse i hi
    · rw [length] at hi
      exact hfilling i hi ((filling i hi).mpr hs)
    · rw [length] at hu ⊢
      exact hfull (used.mp hu)
    · rw [length] at hi ⊢
      exact hsending i hi ((sending i hi).mpr hs)
    · rw [(fields x pos).1, (fields x pos).2, (fields (x + 1) pos).1]
      exact hsequence x hx

end Codes

/-- Checks 5 to 7 as the newest page they find gives them. -/
def runPasses (ps : List Page) (next : Nat) : Option Nat → Prop
  | none => ∀ i, i < ps.length → (ps.getD i .nothing).state = .free
  | some newest => newest < ps.length ∧ ∃ k, RunHolds ps next newest k

theorem checkJournal_ok_iff_shape (g : Geometry) (m : Memory) (group : Nat) (sh : JournalShape) :
    checkJournal g m group = .ok sh ↔
      PagesRead g m sh.pages ∧ firstBad (badPlace g) [] 0 sh.pages = none ∧ firstBad badCount [] 0 sh.pages = none ∧
        firstBad badSecond [] 0 sh.pages = none ∧ runPasses sh.pages (m.read16 (group + 2)) sh.newest ∧
        m.read16 (group + 2) < g.pageCount := by
  rw [checkJournal_ok_iff]
  constructor
  · rintro ⟨hread, hplace, hcount, hsecond, hrun, hnext, rfl⟩
    have read : PagesRead g m (readPages g m) := (pagesRead_iff g m _).mpr ⟨hread, rfl⟩
    refine ⟨read, hplace, hcount, hsecond, ?_, hnext⟩
    cases hnew : newestPage (readPages g m) (m.read16 (group + 2)) with
    | none => exact newestPage_none.mp hnew
    | some i =>
      have newest := newestPage_some hnew
      exact ⟨newest.lt, _, runHolds_of_checks newest (read.single_iff ((badSecond_none_iff read).mp hsecond)) (hrun i hnew)⟩
  · rintro ⟨read, hplace, hcount, hsecond, hrun, hnext⟩
    obtain ⟨ps, newest⟩ := sh
    obtain ⟨hread, rfl⟩ := (pagesRead_iff g m ps).mp read
    refine ⟨hread, hplace, hcount, hsecond, ?_, hnext, ?_⟩
    · intro i hi
      cases newest with
      | none => rw [newestPage_none.mpr hrun] at hi; cases hi
      | some j =>
        obtain ⟨hlt, k, hk⟩ := hrun
        obtain rfl := Option.some.inj (hi.symm.trans (hk.newestPage hlt))
        exact hk.checkRun
    · cases newest with
      | none => rw [newestPage_none.mpr hrun]
      | some j =>
        obtain ⟨hlt, k, hk⟩ := hrun
        rw [hk.newestPage hlt]

end Sys2Proof.Machine
end

section
/-! PROOF. Normalization (R160): the page table it writes, and the view it leaves. -/

namespace Sys2Proof.Machine

/-! ## Descriptors under writes -/

/-- The descriptor at `a` holds page `p` (R206). -/
def describes (m : Memory) (a : Nat) (p : Page) : Prop :=
  p.address = m.read32 a ∧ p.state.code = m.read16 (a + 4) ∧ p.count = m.read16 (a + 6) ∧ p.first = m.read32 (a + 8)

theorem pagesRead_iff_describes (g : Geometry) (m : Memory) (ps : List Page) :
    PagesRead g m ps ↔ ps.length = g.pageCount ∧
      ∀ i, i < g.pageCount → describes m (descriptorAddress g i) (ps.getD i .nothing) :=
  ⟨fun h => ⟨h.length, h.page⟩, fun h => ⟨h.1, h.2⟩⟩

/-- Writes that change no word of a descriptor but its state word change its state alone. -/
theorem describes.withState {m m' : Memory} {a : Nat} {p : Page} (h : describes m a p) {st : PageState}
    (same : ∀ k, k ≤ 10 → k % 2 = 0 → k ≠ 4 → m'.read16 (a + k) = m.read16 (a + k)) (hs : m'.read16 (a + 4) = st.code) :
    describes m' a { p with state := st } := by
  obtain ⟨ha, _, hc, hf⟩ := h
  refine ⟨ha.trans ?_, hs.symm, hc.trans (same 6 (by omega) rfl (by omega)).symm, hf.trans ?_⟩
  · exact congrArg₂ (fun x y => x + 65536 * y) (same 0 (by omega) rfl (by omega)).symm (same 2 (by omega) rfl (by omega)).symm
  · exact congrArg₂ (fun x y => x + 65536 * y) (same 8 (by omega) rfl (by omega)).symm (same 10 (by omega) rfl (by omega)).symm

theorem describes.keep {m m' : Memory} {a : Nat} {p : Page} (h : describes m a p)
    (same : ∀ k, k ≤ 10 → k % 2 = 0 → m'.read16 (a + k) = m.read16 (a + k)) : describes m' a p :=
  h.withState (fun k hk he _ => same k hk he) ((same 4 (by omega) rfl).trans h.2.1.symm)

/-- The words of descriptor `i` after writes into another descriptor. -/
theorem read16_descriptor_other {m : Memory} {g : Geometry} {i q : Nat} {ws : List WordWrite}
    (hw : within (descriptorAddress g q) (descriptorAddress g q + 12) ws) (h : i ≠ q) {k : Nat} (hk : k ≤ 10) :
    (m.apply ws).read16 (descriptorAddress g i + k) = m.read16 (descriptorAddress g i + k) := by
  refine Memory.read16_within m hw ?_
  unfold descriptorAddress
  omega

theorem PagesRead.apply_within {g : Geometry} {m : Memory} {ps : List Page} (h : PagesRead g m ps) {lo hi : Nat}
    {ws : List WordWrite} (hw : within lo hi ws) (hd : g.pageTable + 12 * g.pageCount ≤ lo ∨ hi ≤ g.pageTable) :
    PagesRead g (m.apply ws) ps := by
  rw [pagesRead_iff_describes] at h ⊢
  refine ⟨h.1, fun i hi => (h.2 i hi).keep fun k hk _ => Memory.read16_within m hw ?_⟩
  unfold descriptorAddress
  omega

/-! ## Step 1 of R160 -/

theorem PageState.code_lt (st : PageState) : st.code < 65536 := by cases st <;> decide

theorem within_stateWord (g : Geometry) (q : Nat) (st : PageState) :
    within (descriptorAddress g q + 4) (descriptorAddress g q + 6) [stateWord g q st] :=
  within_cons.2 ⟨⟨le_rfl, le_rfl⟩, within_nil _ _⟩

theorem read16_stateWord_self {m : Memory} (hm : m.wf = true) (g : Geometry) (q : Nat) (st : PageState) :
    (m.apply [stateWord g q st]).read16 (descriptorAddress g q + 4) = st.code :=
  (Memory.read16_writeWord_self m (stateWord g q st) hm).trans (Nat.mod_eq_of_lt st.code_lt)

/-- State words of several pages: each has its state, and no other word of the page table changes. -/
theorem read16_stateWords {m : Memory} (hm : m.wf = true) (g : Geometry) (st : PageState) (l : List Nat) (i : Nat) {k : Nat}
    (hk : k ≤ 10) (he : k % 2 = 0) :
    (m.apply (l.map fun q => stateWord g q st)).read16 (descriptorAddress g i + k)
      = if k = 4 ∧ i ∈ l then st.code else m.read16 (descriptorAddress g i + k) := by
  induction l generalizing m with
  | nil => simp
  | cons q l ih =>
    change ((m.apply [stateWord g q st]).apply _).read16 _ = _
    rw [ih (Memory.apply_wf m _ hm)]
    by_cases hq : k = 4 ∧ i = q
    · obtain ⟨rfl, rfl⟩ := hq
      rw [read16_stateWord_self hm, ite_self, if_pos ⟨rfl, List.mem_cons_self⟩]
    · rw [Memory.read16_within m (within_stateWord g q st) (by unfold descriptorAddress; omega)]
      refine if_congr (and_congr_right fun h4 => ?_) rfl rfl
      rw [List.mem_cons, or_iff_right fun hi => hq ⟨h4, hi⟩]

/-- A page after step 1 of R160. -/
def Page.settled (p : Page) : Page := if p.state = .sending then { p with state := .full } else p

/-- The SENDING pages. -/
def sendingPages (ps : List Page) : List Nat :=
  (List.range ps.length).filter fun i => (ps.getD i .nothing).state == .sending

theorem mem_sendingPages {ps : List Page} {i : Nat} (hi : i < ps.length) :
    i ∈ sendingPages ps ↔ (ps.getD i .nothing).state = .sending := by
  rw [sendingPages, List.mem_filter, List.mem_range, beq_iff_eq, and_iff_right hi]

theorem getD_settled (ps : List Page) (i : Nat) :
    (ps.map Page.settled).getD i .nothing = (ps.getD i .nothing).settled :=
  List.getD_map ps .nothing Page.settled

theorem PagesRead.settle {g : Geometry} {m : Memory} {ps : List Page} (h : PagesRead g m ps) (hm : m.wf = true) :
    PagesRead g (m.apply ((sendingPages ps).map fun p => stateWord g p .full)) (ps.map Page.settled) := by
  rw [pagesRead_iff_describes] at h ⊢
  refine ⟨(List.length_map ..).trans h.1, fun i hi => ?_⟩
  have word := fun k hk he => read16_stateWords hm g .full (sendingPages ps) i (k := k) hk he
  have others : ∀ k, k ≤ 10 → k % 2 = 0 → k ≠ 4 → _ := fun k hk he h4 => (word k hk he).trans (if_neg fun h => h4 h.1)
  have state := word 4 (by omega) rfl
  have sending := mem_sendingPages (ps := ps) (h.1.symm ▸ hi)
  rw [getD_settled, Page.settled]
  split
  case isTrue hs => exact (h.2 i hi).withState others (state.trans (if_pos ⟨rfl, sending.mpr hs⟩))
  case isFalse hs =>
    exact (h.2 i hi).withState others ((state.trans (if_neg fun hc => hs (sending.mp hc.2))).trans (h.2 i hi).2.1.symm)

/-! ## Step 2 of R160 -/

/-- A page that becomes FILLING, empty, with its first sequence. -/
def Page.begun (p : Page) (sequence : Nat) : Page := { p with state := .filling, first := sequence, count := 0 }

/-- The writes that make page `q` FILLING. -/
def beginWrites (g : Geometry) (q sequence : Nat) : List WordWrite :=
  putWords (descriptorAddress g q + 8) (words32 sequence) ++ [{ addr := descriptorAddress g q + 6, word := 0 }]
    ++ [stateWord g q .filling]

theorem within_beginWrites (g : Geometry) (q sequence : Nat) :
    within (descriptorAddress g q + 4) (descriptorAddress g q + 12) (beginWrites g q sequence) :=
  within_append.2 ⟨within_append.2 ⟨(within_putWords _ _).mono (by omega) (by simp [words32]),
    within_cons.2 ⟨⟨by simp, by simp⟩, within_nil _ _⟩⟩, (within_stateWord g q .filling).mono le_rfl (by omega)⟩

theorem describes_begun {m : Memory} (hm : m.wf = true) {g : Geometry} {q sequence : Nat} {p : Page}
    (h : describes m (descriptorAddress g q) p) (hs : sequence < 4294967296) :
    describes (m.apply (beginWrites g q sequence)) (descriptorAddress g q) (p.begun sequence) := by
  have before : ∀ a, a + 2 ≤ descriptorAddress g q + 4 → (m.apply (beginWrites g q sequence)).read16 a = m.read16 a :=
    fun a ha => Memory.read16_within m (within_beginWrites g q sequence) (.inl ha)
  refine ⟨h.1.trans ?_, ?_, ?_, ?_⟩
  · exact congrArg₂ (fun x y => x + 65536 * y) (before _ (by omega)).symm (before _ (by omega)).symm
  · rw [beginWrites, Memory.apply_append, read16_stateWord_self (Memory.apply_wf _ _ hm)]
    rfl
  · rw [beginWrites, Memory.apply_append, Memory.read16_within _ (within_stateWord g q .filling) (by omega),
      Memory.apply_append]
    exact (Memory.read16_writeWord_self _ { addr := descriptorAddress g q + 6, word := 0 } (Memory.apply_wf _ _ hm)).symm
  · refine (Memory.read32_words hs fun k hk => ?_).symm
    have written := Memory.read16_written m hm [] ([{ addr := descriptorAddress g q + 6, word := 0 }] ++ [stateWord g q .filling])
      (descriptorAddress g q + 8) (words32 sequence) (k := k) hk fun w hw => by
        rcases List.mem_cons.mp hw with rfl | hw
        · simp
          omega
        · rw [List.mem_singleton.mp hw, stateWord]
          simp
          omega
    rwa [List.nil_append, ← List.append_assoc] at written

theorem PagesRead.begin {g : Geometry} {m : Memory} {ps : List Page} (h : PagesRead g m ps) (hm : m.wf = true) {q sequence : Nat}
    (hq : q < g.pageCount) (hs : sequence < 4294967296) :
    PagesRead g (m.apply (beginWrites g q sequence)) (ps.set q ((ps.getD q .nothing).begun sequence)) := by
  rw [pagesRead_iff_describes] at h ⊢
  refine ⟨List.length_set.trans h.1, fun i hi => ?_⟩
  rw [List.getD_eq_getElem _ _ (by rwa [List.length_set, h.1]), List.getElem_set]
  split
  case isTrue hqi =>
    subst hqi
    exact describes_begun hm (h.2 _ hq) hs
  case isFalse hqi =>
    rw [← List.getD_eq_getElem _ .nothing]
    exact (h.2 i hi).keep fun k hk _ =>
      read16_descriptor_other ((within_beginWrites g q sequence).mono (by omega) le_rfl) (Ne.symm hqi) hk

/-! ## The view (R160) -/

theorem settled_begun (p : Page) (sequence : Nat) : p.settled.begun sequence = p.begun sequence := by
  unfold Page.settled
  split <;> rfl

theorem Page.settled_fields (p : Page) : p.settled.first = p.first ∧ p.settled.count = p.count := by
  unfold Page.settled
  split <;> exact ⟨rfl, rfl⟩

theorem Page.settled_state (p : Page) {st : PageState} (h : st = .free ∨ st = .filling) :
    p.settled.state = st ↔ p.state = st := by
  unfold Page.settled
  split
  case isTrue hs =>
    rw [hs]
    rcases h with rfl | rfl <;> simp
  case isFalse => rfl

/-- The pages with page `q` made FILLING. -/
def begunPages (ps : List Page) (q sequence : Nat) : List Page :=
  (ps.map Page.settled).set q ((ps.getD q .nothing).begun sequence)

section View

variable {sh : JournalShape} {m : Memory} {group : Nat}

/-- No page is made FILLING: one is already, or no page follows the newest FREE. -/
structure Standing (sh : JournalShape) (m : Memory) (group i : Nat) : Prop where
  fresh : freshPage sh (m.read16 (group + 2)) (m.read32 (group + 4)) = none
  newest : sh.newest = some i

theorem Standing.view {i : Nat} (h : Standing sh m group i) :
    (normalizedView sh m group).pages = sh.pages.map Page.settled ∧
      (normalizedView sh m group).filling = (sh.pages.map Page.settled).findIdx? (fun p => p.state == .filling) ∧
      (normalizedView sh m group).nextSequence
        = ((sh.pages.getD i .nothing).first + (sh.pages.getD i .nothing).count) % 4294967296 ∧
      (normalizedView sh m group).nextPage = (i + 1) % sh.pages.length := by
  have pages : normalizedPages sh none = sh.pages.map Page.settled := rfl
  simp only [normalizedView, h.fresh, h.newest, pages, getD_settled, Page.settled_fields, List.length_map, wrap32, and_self]

/-- Page `q` is made FILLING. -/
structure Begins (sh : JournalShape) (m : Memory) (group q sequence : Nat) : Prop where
  fresh : freshPage sh (m.read16 (group + 2)) (m.read32 (group + 4)) = some (q, sequence)
  lt : q < sh.pages.length
  sequence : sequence < 4294967296

theorem normalizedPages_begun (q sequence : Nat) :
    normalizedPages sh (some (q, sequence)) = begunPages sh.pages q sequence := by
  rw [begunPages, ← settled_begun, ← getD_settled]
  rfl

theorem begunPages_length (ps : List Page) (q sequence : Nat) : (begunPages ps q sequence).length = ps.length := by
  rw [begunPages, List.length_set, List.length_map]

theorem begunPages_self {ps : List Page} {q : Nat} (hq : q < ps.length) (sequence : Nat) :
    (begunPages ps q sequence).getD q .nothing = (ps.getD q .nothing).begun sequence := by
  rw [List.getD_eq_getElem _ _ (by rwa [begunPages_length])]
  exact List.getElem_set_self _

theorem begunPages_other {ps : List Page} {q i : Nat} (h : q ≠ i) (sequence : Nat) :
    (begunPages ps q sequence).getD i .nothing = (ps.getD i .nothing).settled := by
  rw [← getD_settled, begunPages, List.getD_eq_getElem?_getD, List.getElem?_set_ne h, ← List.getD_eq_getElem?_getD]

theorem Begins.view {q sequence : Nat} (h : Begins sh m group q sequence) :
    (normalizedView sh m group).pages = begunPages sh.pages q sequence ∧
      (normalizedView sh m group).filling = (begunPages sh.pages q sequence).findIdx? (fun p => p.state == .filling) ∧
      (normalizedView sh m group).nextSequence = sequence ∧
      (normalizedView sh m group).nextPage = (q + 1) % sh.pages.length := by
  have next : wrap32 (((sh.pages.getD q .nothing).begun sequence).first + ((sh.pages.getD q .nothing).begun sequence).count)
      = sequence := Nat.mod_eq_of_lt h.sequence
  simp only [normalizedView, h.fresh, normalizedPages_begun, begunPages_self h.lt, begunPages_length, next, and_self]

end View

end Sys2Proof.Machine
end

section
/-! PROOF. Normalization (R160) of a page table that passes R159: the page made FILLING, and what desk memory holds after it. -/

namespace Sys2Proof.Machine

/-! ## The page made FILLING -/

theorem any_filling_iff {ps : List Page} :
    (ps.any fun p => p.state == .filling) = true ↔ ∃ i, i < ps.length ∧ (ps.getD i .nothing).state = .filling := by
  have none := findIdx?_filling_none (ps := ps)
  rw [List.findIdx?_eq_none_iff] at none
  rw [← not_iff_not, Bool.not_eq_true, List.any_eq_false]
  push Not
  simpa only [Bool.not_eq_true] using none

section Fresh

variable {sh : JournalShape} {next sequence : Nat}

theorem freshPage_filling {i : Nat} (hi : i < sh.pages.length) (hs : (sh.pages.getD i .nothing).state = .filling) :
    freshPage sh next sequence = none := if_pos (any_filling_iff.mpr ⟨i, hi, hs⟩)

variable (hf : ∀ i, i < sh.pages.length → (sh.pages.getD i .nothing).state ≠ .filling)
include hf

theorem freshPage_empty (hn : sh.newest = none) : freshPage sh next sequence = some (next % sh.pages.length, sequence) := by
  rw [freshPage, if_neg fun h => (any_filling_iff.mp h).elim fun i hi => hf i hi.1 hi.2, hn]

theorem freshPage_newest {i : Nat} (hn : sh.newest = some i) :
    freshPage sh next sequence
      = if (sh.pages.getD ((i + 1) % sh.pages.length) .nothing).state = .free then
          some ((i + 1) % sh.pages.length,
            ((sh.pages.getD i .nothing).first + (sh.pages.getD i .nothing).count) % 4294967296)
        else none := by
  rw [freshPage, if_neg fun h => (any_filling_iff.mp h).elim fun i hi => hf i hi.1 hi.2, hn]
  rfl

end Fresh

/-! ## The view of a page table that passes its checks -/

/-- What a page table that passes the checks of R159 gives to normalization. -/
structure Checked (g : Geometry) (m : Memory) (group : Nat) (sh : JournalShape) : Prop where
  read : PagesRead g m sh.pages
  single : ∀ i j, i < sh.pages.length → j < sh.pages.length → (sh.pages.getD i .nothing).state = .filling →
    (sh.pages.getD j .nothing).state = .filling → i = j
  newest : sh.newest = newestPage sh.pages (m.read16 (group + 2))
  next : m.read16 (group + 2) < sh.pages.length

theorem checked_of_checkJournal {g : Geometry} {m : Memory} {group : Nat} {sh : JournalShape}
    (h : checkJournal g m group = .ok sh) : Checked g m group sh := by
  obtain ⟨hread, _, _, hsecond, _, hnext, rfl⟩ := (checkJournal_ok_iff g m group sh).mp h
  have read : PagesRead g m (readPages g m) := (pagesRead_iff g m _).mpr ⟨hread, rfl⟩
  exact ⟨read, read.single_iff ((badSecond_none_iff read).mp hsecond), rfl, by rwa [read.length]⟩

theorem Memory.read32_lt (m : Memory) (a : Nat) : m.read32 a < 4294967296 := by
  have low := m.read16_lt a
  have high := m.read16_lt (a + 2)
  rw [Memory.read32]
  omega

namespace Checked

variable {g : Geometry} {m : Memory} {group : Nat} {sh : JournalShape} (h : Checked g m group sh)
include h

theorem standing_of_filling {p : Nat} (hp : p < sh.pages.length) (hs : (sh.pages.getD p .nothing).state = .filling) :
    Standing sh m group p :=
  ⟨freshPage_filling hp hs, h.newest.trans (newestPage_filling hp hs (fun j hj hj' => h.single j p hj hp hj' hs) _)⟩

section Unfilled

variable (hf : ∀ i, i < sh.pages.length → (sh.pages.getD i .nothing).state ≠ .filling)
include hf

theorem begins_of_empty (he : ∀ i, i < sh.pages.length → (sh.pages.getD i .nothing).state = .free) :
    Begins sh m group (m.read16 (group + 2)) (m.read32 (group + 4)) := by
  refine ⟨?_, h.next, m.read32_lt _⟩
  rw [freshPage_empty hf (h.newest.trans (newestPage_none.mpr he)), Nat.mod_eq_of_lt h.next]

theorem begins_of_newest {i : Nat} (hn : sh.newest = some i)
    (hfree : (sh.pages.getD ((i + 1) % sh.pages.length) .nothing).state = .free) :
    Begins sh m group ((i + 1) % sh.pages.length)
      (((sh.pages.getD i .nothing).first + (sh.pages.getD i .nothing).count) % 4294967296) := by
  have pos : 0 < sh.pages.length := Nat.lt_of_le_of_lt (Nat.zero_le _) h.next
  refine ⟨?_, Nat.mod_lt _ pos, Nat.mod_lt _ (by decide)⟩
  rw [freshPage_newest hf hn, if_pos hfree]

theorem standing_of_full (hu : ∀ i, i < sh.pages.length → (sh.pages.getD i .nothing).state ≠ .free) :
    Standing sh m group ((m.read16 (group + 2) + sh.pages.length - 1) % sh.pages.length) := by
  have pos : 0 < sh.pages.length := Nat.lt_of_le_of_lt (Nat.zero_le _) h.next
  have newest := h.newest.trans (newestPage_full pos fun j hj => ⟨hu j hj, hf j hj⟩)
  exact ⟨by rw [freshPage_newest hf newest, if_neg (hu _ (Nat.mod_lt _ pos))], newest⟩

end Unfilled

/-- Normalization leaves the pages standing or makes one FILLING. -/
theorem standing_or_begins : (∃ i, Standing sh m group i) ∨ ∃ q sequence, Begins sh m group q sequence := by
  by_cases hf : ∃ i, i < sh.pages.length ∧ (sh.pages.getD i .nothing).state = .filling
  · obtain ⟨i, hi, hs⟩ := hf
    exact .inl ⟨i, h.standing_of_filling hi hs⟩
  · have unfilled : ∀ i, i < sh.pages.length → (sh.pages.getD i .nothing).state ≠ .filling :=
      fun i hi hs => hf ⟨i, hi, hs⟩
    cases hn : sh.newest with
    | none => exact .inr ⟨_, _, h.begins_of_empty unfilled (newestPage_none.mp (h.newest.symm.trans hn))⟩
    | some i =>
      by_cases hfree : (sh.pages.getD ((i + 1) % sh.pages.length) .nothing).state = .free
      · exact .inr ⟨_, _, h.begins_of_newest unfilled hn hfree⟩
      · exact .inl ⟨i, by rw [freshPage_newest unfilled hn, if_neg hfree], hn⟩

/-- The page that the view names FILLING. -/
theorem filling_of_filling {p : Nat} (hp : p < sh.pages.length) (hs : (sh.pages.getD p .nothing).state = .filling) :
    (sh.pages.map Page.settled).findIdx? (fun p => p.state == .filling) = some p := by
  refine findIdx?_filling_some (by rwa [List.length_map]) ?_ fun j hj hj' => ?_
  · rw [getD_settled, Page.settled_state _ (.inr rfl)]
    exact hs
  · rw [getD_settled, Page.settled_state _ (.inr rfl)] at hj'
    rw [List.length_map] at hj
    exact h.single j p hj hp hj' hs

end Checked

theorem filling_of_unfilled {ps : List Page} (hf : ∀ i, i < ps.length → (ps.getD i .nothing).state ≠ .filling) :
    (ps.map Page.settled).findIdx? (fun p => p.state == .filling) = none := by
  refine findIdx?_filling_none.mpr fun i hi => ?_
  rw [List.length_map] at hi
  rw [getD_settled, Ne, Page.settled_state _ (.inr rfl)]
  exact hf i hi

theorem filling_of_begun {ps : List Page} (hf : ∀ i, i < ps.length → (ps.getD i .nothing).state ≠ .filling) {q : Nat}
    (hq : q < ps.length) (sequence : Nat) :
    (begunPages ps q sequence).findIdx? (fun p => p.state == .filling) = some q := by
  refine findIdx?_filling_some (by rwa [begunPages_length]) (by rw [begunPages_self hq]; rfl) fun j hj hs => ?_
  by_contra hne
  rw [begunPages_other (Ne.symm hne), Page.settled_state _ (.inr rfl)] at hs
  rw [begunPages_length] at hj
  exact hf j hj hs

/-! ## Desk memory after normalization -/

section Memory

variable {g : Geometry} {m : Memory} {group : Nat} {sh : JournalShape}

theorem normalizationWrites_standing {i : Nat} (h : Standing sh m group i) :
    normalizationWrites g m group sh = (sendingPages sh.pages).map (fun p => stateWord g p .full)
      ++ groupWrites m group (journalGroupBody group (normalizedView sh m group).nextPage
          (normalizedView sh m group).nextSequence) := by
  simp only [normalizationWrites, h.fresh, List.append_nil]
  rfl

theorem normalizationWrites_begins {q sequence : Nat} (h : Begins sh m group q sequence) :
    normalizationWrites g m group sh = (sendingPages sh.pages).map (fun p => stateWord g p .full)
      ++ beginWrites g q sequence
      ++ groupWrites m group (journalGroupBody group (normalizedView sh m group).nextPage
          (normalizedView sh m group).nextSequence) := by
  simp only [normalizationWrites, h.fresh]
  rfl

theorem within_journalGroup (m : Memory) (group nextPage nextSequence : Nat) :
    within group (group + 8) (groupWrites m group (journalGroupBody group nextPage nextSequence)) :=
  within_groupWrites m ((within_putWords _ _).mono (by omega) (by simp [words32])) le_rfl (by omega)

theorem Checked.normalized_table (h : Checked g m group sh) (hm : m.wf = true)
    (hd : g.pageTable + 12 * g.pageCount ≤ group ∨ group + 8 ≤ g.pageTable) :
    PagesRead g (m.apply (normalizationWrites g m group sh)) (normalizedView sh m group).pages := by
  have settled := h.read.settle hm
  obtain ⟨i, hst⟩ | ⟨q, sequence, hbegin⟩ := h.standing_or_begins
  · rw [normalizationWrites_standing hst, hst.view.1, Memory.apply_append]
    exact settled.apply_within (within_journalGroup _ _ _ _) hd
  · have begun := settled.begin (Memory.apply_wf _ _ hm) (h.read.length ▸ hbegin.lt) hbegin.sequence
    rw [getD_settled, settled_begun] at begun
    rw [normalizationWrites_begins hbegin, hbegin.view.1, Memory.apply_append, Memory.apply_append]
    exact begun.apply_within (within_journalGroup _ _ _ _) hd

/-- The journal counter group after its writes, which are the last of normalization. -/
theorem groupWrites_words {m0 : Memory} (hm : m0.wf = true) (m : Memory) (group : Nat) {nextPage nextSequence : Nat}
    (hp : nextPage < 65536) (hs : nextSequence < 4294967296) :
    let m1 := m0.apply (groupWrites m group (journalGroupBody group nextPage nextSequence))
    m1.read16 (group + 2) = nextPage ∧ m1.read32 (group + 4) = nextSequence ∧ m1.read16 group % 2 = 0 := by
  have run : groupWrites m group (journalGroupBody group nextPage nextSequence)
      = putWords group (openingCount (m.read16 group) :: nextPage :: words32 nextSequence)
        ++ [{ addr := group, word := (openingCount (m.read16 group) + 1) % 65536 }] := groupWrites_run m group _
  dsimp only
  rw [run]
  have word : ∀ k (hk : k < 4), 1 ≤ k → _ := fun k hk h1 => Memory.read16_written m0 hm []
    [{ addr := group, word := (openingCount (m.read16 group) + 1) % 65536 }] group
    (openingCount (m.read16 group) :: nextPage :: words32 nextSequence) (k := k) hk fun w hw => by
      rw [List.mem_singleton.mp hw]
      dsimp only
      omega
  refine ⟨(word 1 (by omega) le_rfl).trans (Nat.mod_eq_of_lt hp), Memory.read32_words hs fun k hk => ?_, ?_⟩
  · rw [Nat.add_assoc, show 4 + 2 * k = 2 * (k + 2) by omega]
    exact word (k + 2) (by omega) (by omega)
  · rw [Memory.apply_append]
    refine (congrArg (· % 2) (Memory.read16_writeWord_self _
      { addr := group, word := (openingCount (m.read16 group) + 1) % 65536 } (Memory.apply_wf _ _ hm))).trans ?_
    have := m.read16_lt group
    dsimp only
    unfold openingCount
    split <;> omega

theorem Checked.nextPage_lt (h : Checked g m group sh) : (normalizedView sh m group).nextPage < sh.pages.length := by
  have pos : 0 < sh.pages.length := Nat.lt_of_le_of_lt (Nat.zero_le _) h.next
  obtain ⟨i, hst⟩ | ⟨q, sequence, hbegin⟩ := h.standing_or_begins
  · rw [hst.view.2.2.2]
    exact Nat.mod_lt _ pos
  · rw [hbegin.view.2.2.2]
    exact Nat.mod_lt _ pos

theorem Checked.nextSequence_lt (h : Checked g m group sh) : (normalizedView sh m group).nextSequence < 4294967296 := by
  obtain ⟨i, hst⟩ | ⟨q, sequence, hbegin⟩ := h.standing_or_begins
  · rw [hst.view.2.2.1]
    exact Nat.mod_lt _ (by decide)
  · rw [hbegin.view.2.2.1]
    exact hbegin.sequence

theorem Checked.normalized_group (h : Checked g m group sh) (hm : m.wf = true) (hn : g.pageCount ≤ 128) :
    let m1 := m.apply (normalizationWrites g m group sh)
    m1.read16 (group + 2) = (normalizedView sh m group).nextPage ∧
      m1.read32 (group + 4) = (normalizedView sh m group).nextSequence ∧ m1.read16 group % 2 = 0 := by
  have page : (normalizedView sh m group).nextPage < 65536 := by
    have lt := h.nextPage_lt
    have length := h.read.length
    omega
  dsimp only
  obtain ⟨i, hst⟩ | ⟨q, sequence, hbegin⟩ := h.standing_or_begins
  · rw [normalizationWrites_standing hst, Memory.apply_append]
    exact groupWrites_words (Memory.apply_wf _ _ hm) m group page h.nextSequence_lt
  · rw [normalizationWrites_begins hbegin, Memory.apply_append]
    exact groupWrites_words (Memory.apply_wf _ _ hm) m group page h.nextSequence_lt

end Memory

theorem roomOf_eq (ps : List Page) :
    roomOf ps = (ps.map fun p => if p.state = .free then 32 else if p.state = .filling then 32 - p.count else 0).sum := by
  refine congrArg List.sum (List.map_congr_left fun p _ => ?_)
  cases p.state <;> rfl

end Sys2Proof.Machine
end

section
/-! PROOF. ANCHORING_END (R196): the checks of the anchor block in their order, and where each ends. -/

namespace Sys2Proof.Machine
open Config

/-! ## The anchor block -/

theorem Geometry.windowOk_iff (g : Geometry) :
    g.windowOk = true ↔ g.windowBase % 65536 = 0 ∧ 1 ≤ g.windowUnits ∧ g.windowUnits ≤ 256 ∧
      g.windowBase + 65536 * g.windowUnits ≤ 16777216 := by
  rw [Nat.mul_comm 65536]
  simp only [Geometry.windowOk, Bool.and_eq_true, beq_iff_eq, decide_eq_true_eq, and_assoc]
  rfl

theorem Geometry.placesInside_iff (g : Geometry) (a : Nat) :
    let inside : Nat → Nat → Prop := fun x n => g.windowBase ≤ x ∧ x + n ≤ g.windowBase + 65536 * g.windowUnits
    g.placesInside a = true ↔ inside a 792 ∧ inside g.itemTable 16 ∧ inside g.borrowerTable 16 ∧
      inside g.pageTable (12 * g.pageCount) ∧ inside g.rulesArea 1810 ∧ inside g.settingsBlock 100 ∧
      inside g.slateArea 192 ∧ inside g.font 4608 := by
  simp only [Geometry.placesInside, Bool.and_eq_true, Geometry.inWindow_iff, and_assoc, Nat.mul_comm 12]

theorem Geometry.aligned_iff (g : Geometry) (a : Nat) :
    g.aligned a = true ↔ a % 16 = 0 ∧ g.itemTable % 16 = 0 ∧ g.borrowerTable % 16 = 0 ∧ g.slateArea % 16 = 0 ∧
      g.pageTable % 2 = 0 ∧ g.rulesArea % 2 = 0 ∧ g.settingsBlock % 2 = 0 ∧ g.font % 2 = 0 := by
  simp only [Geometry.aligned, Bool.and_eq_true, beq_iff_eq, and_assoc]

section Checks

variable {m : Memory} {a : Nat} {g : Geometry}

theorem anchorCheck_magic (h : ¬ (a % 16 = 0 ∧ m.read32 a = anchorMagic)) : anchorCheck m a g = some .badMagic :=
  if_pos (by rwa [← not_and_or])

variable (hm : a % 16 = 0 ∧ m.read32 a = anchorMagic)
include hm

theorem anchorCheck_of_magic :
    anchorCheck m a g = if m.read16 (a + 4) ≠ 1 then some .badVersion
      else if !g.windowOk then some .badWindow
      else if g.pageCount < 1 ∨ 128 < g.pageCount then some .badPageCount
      else if !g.placesInside a then some .outsideWindow
      else if !g.aligned a then some .misaligned
      else none := if_neg (by rw [← not_and_or, not_not]; exact hm)

theorem anchorCheck_version (hv : m.read16 (a + 4) ≠ 1) : anchorCheck m a g = some .badVersion := by
  rw [anchorCheck_of_magic hm, if_pos hv]

variable (hv : m.read16 (a + 4) = 1)
include hv

theorem anchorCheck_window (hw : g.windowOk = false) : anchorCheck m a g = some .badWindow := by
  rw [anchorCheck_of_magic hm, if_neg (not_not.mpr hv), hw]
  rfl

variable (hw : g.windowOk = true)
include hw

theorem anchorCheck_of_window :
    anchorCheck m a g = if g.pageCount < 1 ∨ 128 < g.pageCount then some .badPageCount
      else if !g.placesInside a then some .outsideWindow
      else if !g.aligned a then some .misaligned
      else none := by
  rw [anchorCheck_of_magic hm, if_neg (not_not.mpr hv), hw]
  rfl

theorem anchorCheck_pages (hp : ¬ (1 ≤ g.pageCount ∧ g.pageCount ≤ 128)) : anchorCheck m a g = some .badPageCount := by
  rw [anchorCheck_of_window hm hv hw, if_pos (by omega)]

variable (hp : 1 ≤ g.pageCount ∧ g.pageCount ≤ 128)
include hp

theorem anchorCheck_places (hi : g.placesInside a = false) : anchorCheck m a g = some .outsideWindow := by
  rw [anchorCheck_of_window hm hv hw, if_neg (by omega), hi]
  rfl

theorem anchorCheck_aligned (hi : g.placesInside a = true) (ha : g.aligned a = false) :
    anchorCheck m a g = some .misaligned := by
  rw [anchorCheck_of_window hm hv hw, if_neg (by omega), hi, ha]
  rfl

theorem anchorCheck_passes (hi : g.placesInside a = true) (ha : g.aligned a = true) : anchorCheck m a g = none := by
  rw [anchorCheck_of_window hm hv hw, if_neg (by omega), hi, ha]
  rfl

end Checks

/-! ## How far anchoring goes -/

section Run

variable {m : Memory} {a : Nat} (hc : anchorCheck m a (Geometry.read m a) = none)
include hc

theorem anchorRun_slot (hr : replayWrites (Geometry.read m a) m (a + offSlot) = .error ()) :
    anchorRun m a = { writes := [], ending := .halted (anchorFault .commitSlot none none (a + offSlot)) } := by
  simp only [anchorRun, hc, hr]

theorem anchorRun_replayed {ws : List WordWrite} (hr : replayWrites (Geometry.read m a) m (a + offSlot) = .ok ws) :
    anchorRun m a = anchorHeaders (Geometry.read m a) (m.apply ws) a ws := by
  simp only [anchorRun, hc, hr]

end Run

section Headers

variable {g : Geometry} {m : Memory} {a : Nat} {ws : List WordWrite}

theorem anchorHeaders_item (h : headerOk g m .item (Header.read m g.itemTable) = false) :
    anchorHeaders g m a ws
      = { writes := ws, ending := .halted (anchorFault .tableHeader (some .item) none g.itemTable) } :=
  if_pos (by rw [h]; rfl)

variable (hi : headerOk g m .item (Header.read m g.itemTable) = true)
include hi

theorem anchorHeaders_borrower (h : headerOk g m .borrower (Header.read m g.borrowerTable) = false) :
    anchorHeaders g m a ws
      = { writes := ws, ending := .halted (anchorFault .tableHeader (some .borrower) none g.borrowerTable) } := by
  rw [anchorHeaders, hi, h]
  rfl

variable (hb : headerOk g m .borrower (Header.read m g.borrowerTable) = true)
include hb

theorem anchorHeaders_journal {f : ShapeFault} (h : checkJournal g m (a + offJournal) = .error f) :
    anchorHeaders g m a ws = { writes := ws, ending := .halted (shapeNote g (a + offJournal) f) } := by
  rw [anchorHeaders, hi, hb]
  simp only [Bool.not_true, Bool.false_eq_true, if_false, anchorJournal, h]

theorem anchorHeaders_opens {sh : JournalShape} (h : checkJournal g m (a + offJournal) = .ok sh) :
    anchorHeaders g m a ws
      = anchorCopies g (m.apply (normalizationWrites g m (a + offJournal) sh)) a
          (ws ++ normalizationWrites g m (a + offJournal) sh) (normalizedView sh m (a + offJournal)) := by
  rw [anchorHeaders, hi, hb]
  simp only [Bool.not_true, Bool.false_eq_true, if_false, anchorJournal, h]

end Headers

/-! ## The end of an abandoned list (R201) -/

/-- ABANDONED into the outcome word of the first unfinished order, when that word has a place in the window. -/
def AbandonedList.told (l : AbandonedList) (g : Geometry) : List WordWrite :=
  match l.address with
  | none => []
  | some x => if g.inWindow x 32 then [{ addr := x, word := 8 }] else []

/-- The desk after the close of an abandoned list, its writes written out. -/
def State.closedList (s : State) (g : Geometry) (a : Nat) : State :=
  match s.executor.abandoned with
  | none => s
  | some l =>
    let b := a + 0x40
    let m1 := s.mem.apply (l.told g)
    let c := m1.read16 b
    let odd := if c % 2 = 0 then (c + 1) % 65536 else c
    let completed := (m1.read32 (b + 8) + 1) % 4294967296
    ((s.writeAll (l.told g ++
        [{ addr := b, word := odd }, { addr := b + 2, word := 3 }, { addr := b + 4, word := l.start % 65536 },
         { addr := b + 6, word := l.start / 65536 % 65536 }, { addr := b + 8, word := completed % 65536 },
         { addr := b + 10, word := completed / 65536 }, { addr := b + 12, word := 0 }, { addr := b + 14, word := 0 },
         { addr := b, word := (odd + 1) % 65536 }])).raise .listDone).withExecutor
      { s.executor with abandoned := none }

theorem State.abandonedWrites_eq (s : State) (l : AbandonedList) :
    s.abandonedWrites l = l.told s.geometry ++ (s.writeAll (l.told s.geometry)).listWrites l.start .abandoned := by
  obtain ⟨_, address⟩ := l
  cases address <;> rfl

theorem listWrites_abandoned (s : State) (start : Nat) :
    let b := s.desk.anchor + 0x40
    let c := s.mem.read16 b
    let odd := if c % 2 = 0 then (c + 1) % 65536 else c
    let completed := (s.mem.read32 (b + 8) + 1) % 4294967296
    s.listWrites start .abandoned
      = [{ addr := b, word := odd }, { addr := b + 2, word := 3 }, { addr := b + 4, word := start % 65536 },
         { addr := b + 6, word := start / 65536 % 65536 }, { addr := b + 8, word := completed % 65536 },
         { addr := b + 10, word := completed / 65536 }, { addr := b + 12, word := 0 }, { addr := b + 14, word := 0 },
         { addr := b, word := (odd + 1) % 65536 }] := by
  simp only [State.listWrites, State.groupWrites, groupWrites, closingCount, openingCount, putWords, words32, ListStatus.code,
    State.anchor32, wrap32, offList, List.cons_append, List.nil_append, Nat.add_assoc, Nat.mod_mod]
  have high : (s.mem.read32 (s.desk.anchor + (64 + 8)) + 1) % 4294967296 / 65536 < 65536 := by omega
  rw [Nat.mod_eq_of_lt high]
  rfl

theorem State.closeAbandoned_eq (s : State) {g : Geometry} {a : Nat} (hg : s.geometry = g) (ha : s.desk.anchor = a) :
    s.closeAbandoned = s.closedList g a := by
  subst hg ha
  unfold State.closeAbandoned State.closedList
  cases s.executor.abandoned with
  | none => rfl
  | some l =>
    dsimp only
    rw [State.abandonedWrites_eq, listWrites_abandoned]
    rfl

/-! ## Where ANCHORING_END leaves the desk -/

section Ends

variable {s : State} (hd : s.desk.state = .anchoring)
include hd

theorem anchoringEnd_next : ∃ t, exec .anchoringEnd s = .next t := by
  change ∃ t, execAnchoringEnd s = _
  rw [execAnchoringEnd, if_pos hd]
  dsimp only
  split <;> exact ⟨_, rfl⟩

theorem anchoringEnd_fails {r : StateReason}
    (hc : anchorCheck s.mem s.desk.anchor (Geometry.read s.mem s.desk.anchor) = some r) :
    exec .anchoringEnd s = .next (s.anchorFails r) := by
  change execAnchoringEnd s = _
  simp only [execAnchoringEnd, hd, if_true, anchorRun, hc]

theorem anchoringEnd_halts {ws : List WordWrite} {n : FaultNote}
    (hr : anchorRun s.mem s.desk.anchor = { writes := ws, ending := .halted n }) :
    exec .anchoringEnd s
      = .next ((((s.withGeometry (Geometry.read s.mem s.desk.anchor)).withMem (s.mem.apply ws)).enterHalted n).closedList
          (Geometry.read s.mem s.desk.anchor) s.desk.anchor) := by
  change execAnchoringEnd s = _
  simp only [execAnchoringEnd, hd, if_true, hr]
  obtain ⟨_, geometry, anchor⟩ := State.enterHalted_keeps
    ((s.withGeometry (Geometry.read s.mem s.desk.anchor)).withMem (s.mem.apply ws)) n
  exact congrArg _ (State.closeAbandoned_eq _ geometry anchor)

/-- The desk OPEN (steps 5 to 8 of R196), the abandoned list apart. -/
def State.openedWith (s : State) (g : Geometry) (m : Memory) (view : Journal) (rules : Rules) (settings : Settings) : State :=
  ((((((((s.withGeometry g).withMem m).withJournal view).withRules rules).withSettings settings).withLine
    (if s.settings.parity = settings.parity then s.line
      else { s.line with pastParity := s.settings.parity :: s.line.pastParity })).raiseIf
    (decide (view.room ≤ 64)) .journalLow).withDesk { state := .opened, reason := .none, anchor := s.desk.anchor })

omit hd in
theorem State.openDesk_eq (s : State) (g : Geometry) (m : Memory) (view : Journal) (rules : Rules) (settings : Settings) :
    ((s.withGeometry g).withMem m).openDesk view rules settings
      = if s.clock.isSet then
          (s.openedWith g m view rules settings).withSweep
            (if s.sweep.state = .idle then { s.sweep with state := .running, changed := false }
              else { s.sweep with state := .running })
        else s.openedWith g m view rules settings := by
  rw [← Sweep.start_eq]
  simp only [State.openDesk, State.raiseIf_desk, State.withDesk_clock, State.raiseIf_clock, State.withDesk_sweep,
    State.raiseIf_sweep]
  rfl

omit hd in
theorem State.openDesk_keeps (s : State) (g : Geometry) (m : Memory) (view : Journal) (rules : Rules) (settings : Settings) :
    let u := ((s.withGeometry g).withMem m).openDesk view rules settings
    u.geometry = g ∧ u.desk.anchor = s.desk.anchor := by
  dsimp only
  rw [State.openDesk_eq]
  split <;> simp [State.openedWith]

theorem anchoringEnd_opens {ws : List WordWrite} {view : Journal} {rules : Rules} {settings : Settings}
    (hr : anchorRun s.mem s.desk.anchor = { writes := ws, ending := .opened view rules settings }) :
    exec .anchoringEnd s
      = .next ((((s.withGeometry (Geometry.read s.mem s.desk.anchor)).withMem (s.mem.apply ws)).openDesk view rules
          settings).closedList (Geometry.read s.mem s.desk.anchor) s.desk.anchor) := by
  change execAnchoringEnd s = _
  simp only [execAnchoringEnd, hd, if_true, hr]
  obtain ⟨geometry, anchor⟩ := s.openDesk_keeps (Geometry.read s.mem s.desk.anchor) (s.mem.apply ws) view rules settings
  exact congrArg _ (State.closeAbandoned_eq _ geometry anchor)

end Ends

end Sys2Proof.Machine
end

section
/-! PROOF. How anchoring ends, assembled. -/

namespace Sys2Proof.Machine
open Config

/-- Settles O28. -/
theorem anchoringEnds : Obligations.AnchoringEnds := by
  refine ⟨fun s hd => ?_, fun g m group sh hm hn hd hc => ?_, fun g m t => ?_, fun g m group sh => ?_,
    fun g m slot => ⟨fun ha => if_pos ha, fun ha hp => ?_, fun ha hp => ?_⟩⟩
  · intro m a g inside magic version windowed pages placed alignment fails closes halts checked
    have window : g.windowOk = true ↔ windowed := g.windowOk_iff
    have places : g.placesInside a = true ↔ placed := g.placesInside_iff a
    have aligned : g.aligned a = true ↔ a % 16 = 0 ∧ alignment := g.aligned_iff a
    have closes_eq : ∀ u, closes u = u.closedList g a := fun u => rfl
    have halts_of_run : ∀ ws n, anchorRun m a = { writes := ws, ending := .halted n } →
        exec .anchoringEnd s = .next (closes (((s.withGeometry g).withMem (m.apply ws)).enterHalted n)) := fun ws n hr => by
      rw [closes_eq]
      exact anchoringEnd_halts hd hr
    refine ⟨anchoringEnd_next hd, fun hm => ?_, fun hm hv => ?_, fun hm hv hw => ?_, fun hm hv hw hp => ?_,
      fun hm hv hw hp hi => ?_, fun hm hv hw hp hi ha => ?_, fun ⟨hm, hv, hw, hp, hi, ha⟩ => ?_⟩
    · exact anchoringEnd_fails hd (anchorCheck_magic hm)
    · exact anchoringEnd_fails hd (anchorCheck_version hm hv)
    · exact anchoringEnd_fails hd (anchorCheck_window hm hv (Bool.eq_false_iff.mpr fun h => hw (window.mp h)))
    · exact anchoringEnd_fails hd (anchorCheck_pages hm hv (window.mpr hw) hp)
    · exact anchoringEnd_fails hd
        (anchorCheck_places hm hv (window.mpr hw) hp (Bool.eq_false_iff.mpr fun h => hi (places.mp h)))
    · exact anchoringEnd_fails hd (anchorCheck_aligned hm hv (window.mpr hw) hp (places.mpr hi)
        (Bool.eq_false_iff.mpr fun h => ha (aligned.mp h).2))
    · have check : anchorCheck m a g = none :=
        anchorCheck_passes hm hv (window.mpr hw) hp (places.mpr hi) (aligned.mpr ⟨hm.1, ha⟩)
      refine ⟨fun hr => halts_of_run [] _ (anchorRun_slot check hr), fun ws hr => ?_⟩
      have run := anchorRun_replayed check hr
      refine ⟨fun h => ?_, fun hi hb => ?_, fun p hi hb hj => ?_, fun hi hb hj => ?_, fun sh hi hb hj => ?_⟩
      · exact halts_of_run ws _ (run.trans (anchorHeaders_item h))
      · exact halts_of_run ws _ (run.trans (anchorHeaders_borrower hi hb))
      · exact halts_of_run ws _ (run.trans (anchorHeaders_journal hi hb hj))
      · exact halts_of_run ws _ (run.trans (anchorHeaders_journal hi hb hj))
      · have opens := anchoringEnd_opens hd (run.trans (anchorHeaders_opens hi hb hj))
        rw [State.openDesk_eq, Memory.apply_append, Memory.apply_append] at opens
        dsimp only
        rw [closes_eq]
        exact opens
  · have h := checked_of_checkJournal hc
    have length := h.read.length
    refine ⟨fun p hp hs => ?_, fun hf he => ?_, fun i hf hfree hi => ?_, fun hf hu => ?_, rfl, roomOf_eq _, fun i hi => ?_,
      h.normalized_group hm hn⟩
    · obtain ⟨pages, filling, sequence, next⟩ := (h.standing_of_filling (length ▸ hp) hs).view
      exact ⟨pages, filling.trans (h.filling_of_filling (length ▸ hp) hs), sequence, length ▸ next⟩
    · have unfilled := fun i hi => hf i (length ▸ hi)
      have begins := h.begins_of_empty unfilled fun i hi => he i (length ▸ hi)
      obtain ⟨pages, filling, sequence, next⟩ := begins.view
      exact ⟨pages, filling.trans (filling_of_begun unfilled begins.lt _), sequence, length ▸ next⟩
    · have unfilled := fun i hi => hf i (length ▸ hi)
      obtain ⟨j, hj, hjf⟩ := hfree
      have newest := newestPage_some (h.newest.symm.trans hi)
      have free := newest.free j (length ▸ hj) hjf unfilled
      have begins := h.begins_of_newest unfilled hi free
      obtain ⟨pages, filling, sequence, next⟩ := begins.view
      rw [length] at free pages filling next
      exact ⟨newest.inUse, free, pages, filling.trans (filling_of_begun unfilled (length ▸ begins.lt) _), sequence, next⟩
    · have unfilled := fun i hi => hf i (length ▸ hi)
      obtain ⟨pages, filling, sequence, next⟩ := (h.standing_of_full unfilled fun i hi => hu i (length ▸ hi)).view
      rw [length] at sequence next
      refine ⟨pages, filling.trans (filling_of_unfilled unfilled), sequence, next.trans ?_⟩
      have lt := h.next
      rw [length] at lt
      rw [Nat.mod_add_mod, show m.read16 (group + 2) + g.pageCount - 1 + 1 = m.read16 (group + 2) + g.pageCount by omega,
        Nat.add_mod_right, Nat.mod_eq_of_lt lt]
    · obtain ⟨address, state, count, first⟩ := (h.normalized_table hm hd).page i hi
      exact ⟨address.symm, state.symm, count.symm, first.symm⟩
  · cases t with
    | item =>
      refine ⟨rfl, (headerOk_iff g m .item _).trans ?_⟩
      dsimp only
      rw [Header.sized_iff, Header.sized_iff, Header.shelfOk_iff, Header.extent_end, Header.extent_end]
      rfl
    | borrower =>
      refine ⟨rfl, (headerOk_iff g m .borrower _).trans ?_⟩
      dsimp only
      rw [Header.sized_iff, Header.sized_iff, Header.extent_end, Header.extent_end]
      simp only [reduceCtorEq, false_implies]
      rfl
  · refine (checkJournal_ok_iff_shape g m group sh).trans ⟨?_, ?_⟩
    · rintro ⟨read, hplace, hcount, hsecond, hrun, hnext⟩
      refine ⟨⟨read.length, read.page⟩, (badPlace_none_iff read).mp hplace, (badCount_none_iff read).mp hcount,
        (badSecond_none_iff read).mp hsecond, ?_, hnext⟩
      cases hnew : sh.newest with
      | none =>
        rw [hnew] at hrun
        exact fun i hi => (read.code_iff hi .free).mpr (hrun i (read.length.symm ▸ hi))
      | some newest =>
        rw [hnew] at hrun
        obtain ⟨hlt, k, hk⟩ := hrun
        exact ⟨read.length ▸ hlt, k, read.runHolds_iff.mp hk⟩
    · rintro ⟨⟨length, page⟩, hplace, hcount, hsecond, hrun, hnext⟩
      have read : PagesRead g m sh.pages := ⟨length, page⟩
      refine ⟨read, (badPlace_none_iff read).mpr hplace, (badCount_none_iff read).mpr hcount,
        (badSecond_none_iff read).mpr hsecond, ?_, hnext⟩
      cases hnew : sh.newest with
      | none =>
        rw [hnew] at hrun
        exact fun i hi => (read.code_iff (length ▸ hi) .free).mp (hrun i (length ▸ hi))
      | some newest =>
        rw [hnew] at hrun
        obtain ⟨hlt, k, hk⟩ := hrun
        exact ⟨length.symm ▸ hlt, k, read.runHolds_iff.mpr hk⟩
  · exact SlotReplay.replayWrites_fails ha
      (Bool.eq_false_iff.mpr fun h => hp ((SlotReplay.slotOk_iff m slot g).mp h))
  · exact SlotReplay.replayWrites_passes ha ((SlotReplay.slotOk_iff m slot g).mpr hp)

end Sys2Proof.Machine
end

section
/-! SUPPORT. The order of a transaction that passes its gates (R70, R90), and what a read phase finds of the borrower it names. -/

namespace Sys2Proof.Machine

/-! ## A step of an admitted order -/

theorem Txn.order_eq {t : Txn} {o : Order} (h : t.kind = .order o) : t.order = o := by simp only [Txn.order, h]

/-- Past its gates an order ends LIMIT by its operands, and does what its read phase answers otherwise (R70). -/
theorem State.runTxn_order {s : State} {t : Txn} {o : Order} {k : Nat} {plan : State → Txn → Plan} {c : RoomClass}
    {clock limit : Bool} {outside : Prop} {read : Except TableFault Plan} (hengaged : s.engaged t) (hk : t.kind = .order o)
    (hkind : o.kind = k) (hgate : t.gate c clock = none) (hplan : plan s t = t.orderPlan c clock limit read)
    (hlimit : limit = true ↔ outside) :
    (outside → s.runTxn (isOrder k) plan = .next (s.conclude t orderLimit)) ∧
    (¬ outside → ∀ p, read = .ok p → p.fault = none → s.runTxn (isOrder k) plan = .next (s.conclude t p)) := by
  have hwant : isOrder k t.kind = true := by simp [hk, isOrder, hkind]
  refine ⟨fun hout => ?_, fun hin p hread hfault => ?_⟩
  · refine State.runTxn_plan hengaged _ plan _ hwant ?_ rfl
    simp only [hplan, Txn.orderPlan, hgate, hlimit.2 hout]
    rfl
  · refine State.runTxn_plan hengaged _ plan p hwant ?_ hfault
    simp only [hplan, Txn.orderPlan, hgate, hread, Bool.eq_false_iff.2 (mt hlimit.1 hin)]
    rfl

/-- The commit of an admitted order carries the stamp it was admitted with (R70). -/
theorem Plan.commits_admitted {t : Txn} {st : Stamp} {room : Nat} (h : t.admitted st room) (images : List Image)
    (k : EntryKind) (borrower item value1 value2 : Nat) (count : Int) :
    Plan.commits images (t.orderEntry k borrower item value1 value2) count
      = orderCommit images k st borrower item value1 value2 count := by
  rw [Txn.orderEntry, Txn.at_admitted h]
  rfl

/-! ## The borrower an order names -/

/-- A header that is good is a transaction's first access to its table (R63). -/
theorem State.headerGood.touch {s : State} {t : TableName} (h : s.headerGood t) :
    (Draft.start s.mem s.geometry).touch t = .ok s.tables := h

theorem State.headerGood.touch_tables {s : State} {t : TableName} (h : s.headerGood t) : s.tables.touch t = .ok s.tables := h

theorem withBorrower_absent {s : State} {n : Nat} (hh : s.headerGood .borrower)
    (hj : s.tables.lookup .borrower n = .ok none) (f : Draft → Nat → BorrowerRecord → Except TableFault Plan) :
    withBorrower s n f = .ok (orderRefused .notFound) := by
  simp only [withBorrower, hh.touch, Except.ok_bind', hj]
  rfl

theorem withBorrower_found {s : State} {n j : Nat} (hh : s.headerGood .borrower)
    (hj : s.tables.lookup .borrower n = .ok (some j)) (f : Draft → Nat → BorrowerRecord → Except TableFault Plan) :
    withBorrower s n f = f s.tables j (s.tables.borrower j) := by
  simp only [withBorrower, hh.touch, Except.ok_bind', hj]

end Sys2Proof.Machine
end

section
/-! PROOF. The effective block set (R67), field by field. -/

namespace Sys2Proof.Machine

/-- EXPIRED needs a stamp, and a day past the expiry day (R67). -/
theorem BorrowerRecord.blocks_expired_iff (b : BorrowerRecord) (rules : Rules) (stamp : Option Stamp) :
    (b.blocks rules stamp).expired = true ↔ ∃ st, stamp = some st ∧ b.expiry < st.day := by
  cases stamp with
  | none => simp [BorrowerRecord.blocks]
  | some st => simp [BorrowerRecord.blocks]

/-- Settles O19. -/
theorem blocksFollowTheRecord : Obligations.BlocksFollowTheRecord := by
  intro b rules stamp limit
  refine ⟨Option.isSome_iff_ne_none, Option.isSome_iff_ne_none, decide_eq_true_iff, ?_, b.blocks_expired_iff rules stamp⟩
  have hfines : (b.blocks rules stamp).fines = (decide (0 < limit) && decide (limit ≤ b.fines)) := rfl
  rw [hfines, Bool.and_eq_true, decide_eq_true_iff, decide_eq_true_iff]

end Sys2Proof.Machine
end

section
/-! PROOF. Registration (R70 to R73): ADD_BORROWER, UPDATE_BORROWER and REMOVE_BORROWER. -/

namespace Sys2Proof.Machine

theorem registrationLimit_iff (o : Order) :
    registrationLimit o = true ↔ ¬ (1 ≤ o.borrower ∧ o.borrower ≤ 99999999) ∨ 65535 < o.b := by
  rw [registrationLimit, Bool.or_eq_true, Bool.not_eq_true', Bool.eq_false_iff, ne_eq, borrowerInRange_iff,
    decide_eq_true_iff]

section Read

variable {s : State} (hh : s.headerGood .borrower) (t : Txn) {n : Nat} (cls expiry : Nat)
include hh

/-! ## ADD_BORROWER (R71) -/

theorem addBorrowerRead_duplicate {j : Nat} (hj : s.tables.lookup .borrower n = .ok (some j)) :
    addBorrowerRead s t n cls expiry = .ok (orderRefused .duplicate) := by
  simp only [addBorrowerRead, hh.touch, Except.ok_bind', hj]
  rfl

theorem addBorrowerRead_tableFull (hj : s.tables.lookup .borrower n = .ok none)
    (hfree : s.tables.takeFree .borrower = .ok none) :
    addBorrowerRead s t n cls expiry = .ok (orderRefused .tableFull) := by
  simp only [addBorrowerRead, hh.touch, Except.ok_bind', hj, hfree]
  rfl

theorem addBorrowerRead_inserts {st : Stamp} {room j next : Nat} (ha : t.admitted st room)
    (hj : s.tables.lookup .borrower n = .ok none) (hfree : s.tables.takeFree .borrower = .ok (some (j, next))) :
    addBorrowerRead s t n cls expiry
      = .ok (orderCommit (s.tables.insertBorrower j next (.fresh n cls expiry)).images .borrowerAdded st n 0 0
          (cls * 100000 + expiry) j) := by
  simp only [addBorrowerRead, hh.touch, Except.ok_bind', hj, hfree, Plan.commits_admitted ha]
  rfl

/-! ## UPDATE_BORROWER (R72) -/

theorem updateBorrowerRead_same {j : Nat} (hj : s.tables.lookup .borrower n = .ok (some j))
    (h : cls = (s.tables.borrower j).cls ∧ expiry = (s.tables.borrower j).expiry) :
    updateBorrowerRead s t n cls expiry = .ok (orderDone 0) := by
  rw [updateBorrowerRead, withBorrower_found hh hj, if_pos h]
  rfl

theorem updateBorrowerRead_changes {st : Stamp} {room j : Nat} (ha : t.admitted st room)
    (hj : s.tables.lookup .borrower n = .ok (some j))
    (h : ¬ (cls = (s.tables.borrower j).cls ∧ expiry = (s.tables.borrower j).expiry)) :
    let b := s.tables.borrower j
    updateBorrowerRead s t n cls expiry
      = .ok (orderCommit (s.tables.putBorrower j { b with cls := cls, expiry := expiry }).images .borrowerChanged st n 0
          (b.cls * 100000 + b.expiry) (cls * 100000 + expiry) 1) := by
  rw [updateBorrowerRead, withBorrower_found hh hj, if_neg h, Plan.commits_admitted ha]
  rfl

/-! ## REMOVE_BORROWER (R73) -/

theorem removeBorrowerRead_keeps {j : Nat} {r : Reason} (hj : s.tables.lookup .borrower n = .ok (some j))
    (h : (s.tables.borrower j).keeps = some r) : removeBorrowerRead s t n = .ok (orderRefused r) := by
  simp only [removeBorrowerRead, withBorrower_found hh hj, h]
  rfl

theorem removeBorrowerRead_removes {st : Stamp} {room j : Nat} {d : Draft} (ha : t.admitted st room)
    (hj : s.tables.lookup .borrower n = .ok (some j)) (h : (s.tables.borrower j).keeps = none)
    (hd : s.tables.removeBorrower j = .ok d) :
    let b := s.tables.borrower j
    removeBorrowerRead s t n
      = .ok (orderCommit d.images .borrowerRemoved st n 0 (b.cls * 100000 + b.expiry) b.activity j) := by
  simp only [removeBorrowerRead, withBorrower_found hh hj, h, hd, Except.ok_bind', Plan.commits_admitted ha]
  rfl

end Read

/-- The checks of R73, in order: loans, holds, lost items, fines. -/
theorem BorrowerRecord.keeps_cases (b : BorrowerRecord) :
    (0 < b.loans → b.keeps = some .hasLoans) ∧
    (b.loans = 0 → 0 < b.holds → b.keeps = some .hasHolds) ∧
    (b.loans = 0 → b.holds = 0 → 0 < b.lost → b.keeps = some .hasLost) ∧
    (b.loans = 0 → b.holds = 0 → b.lost = 0 → 0 < b.fines → b.keeps = some .hasFines) ∧
    (b.loans = 0 → b.holds = 0 → b.lost = 0 → b.fines = 0 → b.keeps = none) := by
  refine ⟨fun hloans => if_pos hloans, fun h1 hholds => ?_, fun h1 h2 hlost => ?_, fun h1 h2 h3 hfines => ?_,
    fun h1 h2 h3 h4 => ?_⟩
  · simp only [BorrowerRecord.keeps, h1, hholds, Nat.lt_irrefl, if_true, if_false]
  · simp only [BorrowerRecord.keeps, h1, h2, hlost, Nat.lt_irrefl, if_true, if_false]
  · simp only [BorrowerRecord.keeps, h1, h2, h3, hfines, Nat.lt_irrefl, if_true, if_false]
  · simp only [BorrowerRecord.keeps, h1, h2, h3, h4, Nat.lt_irrefl, if_false]

/-- Settles O20. -/
theorem registrationOrders : Obligations.RegistrationOrders := by
  intro s t o st hengaged hk hh d cls inRange does
  have horder := Txn.order_eq hk
  refine ⟨fun hkind ha => ?_, fun hkind ha => ?_, fun hkind ha => ?_⟩
  · obtain ⟨limited, reads⟩ := State.runTxn_order (plan := planAddBorrower) hengaged hk hkind
      (Txn.gate_aboveReserve ha true) (by rw [planAddBorrower, horder]) (registrationLimit_iff o)
    refine ⟨limited, fun hin hb => ?_⟩
    have does_read := reads (not_or.2 ⟨not_not_intro hin, Nat.not_lt.2 hb⟩)
    exact ⟨fun j hj => does_read _ (addBorrowerRead_duplicate hh t cls o.b hj) rfl, fun hj =>
      ⟨fun hfree => does_read _ (addBorrowerRead_tableFull hh t cls o.b hj hfree) rfl,
        fun j next hfree => does_read _ (addBorrowerRead_inserts hh t cls o.b ha hj hfree) rfl⟩⟩
  · obtain ⟨limited, reads⟩ := State.runTxn_order (plan := planUpdateBorrower) hengaged hk hkind
      (Txn.gate_aboveReserve ha true) (by rw [planUpdateBorrower, horder]) (registrationLimit_iff o)
    refine ⟨limited, fun hin hb => ?_⟩
    have does_read := reads (not_or.2 ⟨not_not_intro hin, Nat.not_lt.2 hb⟩)
    exact ⟨fun hj => does_read _ (withBorrower_absent hh hj _) rfl, fun j hj =>
      ⟨fun hsame => does_read _ (updateBorrowerRead_same hh t cls o.b hj hsame) rfl,
        fun hnew => does_read _ (updateBorrowerRead_changes hh t cls o.b ha hj hnew) rfl⟩⟩
  · obtain ⟨limited, reads⟩ := State.runTxn_order (plan := planRemoveBorrower) (outside := ¬ inRange) hengaged hk hkind
      (Txn.gate_one ha true) (by rw [planRemoveBorrower, horder])
      (by rw [Bool.not_eq_true', Bool.eq_false_iff, ne_eq, borrowerInRange_iff])
    refine ⟨limited, fun hin => ?_⟩
    have does_read := reads (not_not_intro hin)
    refine ⟨fun hj => does_read _ (withBorrower_absent hh hj _) rfl, fun j hj => ?_⟩
    obtain ⟨hloans, hholds, hlost, hfines, hclean⟩ := (d.borrower j).keeps_cases
    have refuses {r : Reason} (h : (d.borrower j).keeps = some r) : does .removeBorrower (orderRefused r) :=
      does_read _ (removeBorrowerRead_keeps hh t hj h) rfl
    exact ⟨fun h => refuses (hloans h), fun h1 h => refuses (hholds h1 h), fun h1 h2 h => refuses (hlost h1 h2 h),
      fun h1 h2 h3 h => refuses (hfines h1 h2 h3 h), fun d1 h1 h2 h3 h4 hd =>
        does_read _ (removeBorrowerRead_removes hh t ha hj (hclean h1 h2 h3 h4) hd) rfl⟩

end Sys2Proof.Machine
end

section
/-! PROOF. Stored blocks (R74, R75) and fines owed (R76 to R78): SET_BLOCK, CLEAR_BLOCK, PAY_FINE and ADJUST_FINE. -/

namespace Sys2Proof.Machine

/-! ## Operands (R75, R77, R78) -/

theorem selectorLimit_iff (n : Nat) : (n != 1 && n != 2) = true ↔ n ≠ 1 ∧ n ≠ 2 := by
  rw [Bool.and_eq_true, bne_iff_ne, bne_iff_ne]

theorem paymentLimit_iff (n : Nat) : (n == 0 || decide (Config.maxFines < n)) = true ↔ n = 0 ∨ 999999 < n := by
  rw [Bool.or_eq_true, beq_iff_eq, decide_eq_true_iff, Config.maxFines]

theorem adjustLimit_iff (amount : Int) :
    adjustLimit amount = true ↔ amount = 0 ∨ amount < -999999 ∨ 999999 < amount := by
  rw [adjustLimit, Bool.or_eq_true, Bool.or_eq_true, beq_iff_eq, decide_eq_true_iff, decide_eq_true_iff, or_assoc]

/-- Fines after an adjustment stay between 0 and the bound of R51 (R78). -/
theorem adjustedFines_cast (owed : Nat) (amount : Int) :
    (adjustedFines owed amount : Int) = max 0 (min 999999 ((owed : Int) + amount)) := by
  rw [adjustedFines, Config.maxFines]
  omega

section Read

variable {s : State} {t : Txn} {st : Stamp} {room n j : Nat} (hh : s.headerGood .borrower)
  (hj : s.tables.lookup .borrower n = .ok (some j))
include hh hj

/-! ## SET_BLOCK (R74) -/

/-- The note code replaced is reported as 256 when there was none. -/
theorem setBlockRead_sets (ha : t.admitted st room) (note : Nat) :
    let b := s.tables.borrower j
    setBlockRead s t n note
      = .ok (orderCommit (s.tables.putBorrower j { b with manual := some note }).images .blockSet st n 0
          (b.manual.getD 256) note (if b.manual.isNone then 1 else 0)) := by
  simp only [setBlockRead, withBorrower_found hh hj, Plan.commits_admitted ha]
  rfl

/-! ## CLEAR_BLOCK (R75) -/

theorem clearBlockRead_noManual (hb : (s.tables.borrower j).manual = none) :
    clearBlockRead s t n 1 = .ok (orderDone 0) := by
  simp only [clearBlockRead, withBorrower_found hh hj, if_true, hb]
  rfl

theorem clearBlockRead_manual (ha : t.admitted st room) {note : Nat} (hb : (s.tables.borrower j).manual = some note) :
    clearBlockRead s t n 1
      = .ok (orderCommit (s.tables.putBorrower j { s.tables.borrower j with manual := none }).images .blockCleared st n 0 1
          note 1) := by
  simp only [clearBlockRead, withBorrower_found hh hj, if_true, hb, Plan.commits_admitted ha]
  rfl

theorem clearBlockRead_noCenter (hb : (s.tables.borrower j).center = none) :
    clearBlockRead s t n 2 = .ok (orderDone 0) := by
  simp only [clearBlockRead, withBorrower_found hh hj, OfNat.ofNat_ne_one, if_false, hb]
  rfl

theorem clearBlockRead_center (ha : t.admitted st room) {origin day : Nat}
    (hb : (s.tables.borrower j).center = some (origin, day)) :
    clearBlockRead s t n 2
      = .ok (orderCommit (s.tables.putBorrower j { s.tables.borrower j with center := none }).images .blockCleared st n 0 2
          origin 1) := by
  simp only [clearBlockRead, withBorrower_found hh hj, OfNat.ofNat_ne_one, if_false, hb, Plan.commits_admitted ha]
  rfl

/-! ## PAY_FINE and ADJUST_FINE (R77, R78) -/

/-- What is applied of a payment, and what is left over. -/
theorem payFineRead_applies (ha : t.admitted st room) {amount applied : Nat}
    (happlied : min amount (s.tables.borrower j).fines = applied) :
    let b := s.tables.borrower j
    let owed := min 999999 (b.fines - applied)
    payFineRead s t n amount
      = .ok (orderCommit (finesImages s.tables j b owed (applied != 0)) .pay st n 0 applied owed
          ((amount - applied : Nat) : Int)) := by
  simp only [payFineRead, withBorrower_found hh hj, Plan.commits_admitted ha, happlied]
  rfl

/-- The fines owed after an adjustment, and by how much they have changed. -/
theorem adjustFineRead_adjusts (ha : t.admitted st room) {amount : Int} {owed : Nat}
    (howed : adjustedFines (s.tables.borrower j).fines amount = owed) :
    let b := s.tables.borrower j
    let change : Int := (owed : Int) - b.fines
    adjustFineRead s t n amount
      = .ok (orderCommit (finesImages s.tables j b owed (change != 0)) .fineAdjust st n 0 (signed32 change) owed change) := by
  simp only [adjustFineRead, withBorrower_found hh hj, Plan.commits_admitted ha, howed]
  rfl

end Read

/-- Settles O21. -/
theorem accountOrders : Obligations.AccountOrders := by
  refine ⟨fun s t o st hengaged hk hh => ?_, fun s t o st hengaged hk hh ha => ?_⟩
  all_goals
    intro d does
    have horder := Txn.order_eq hk
    refine ⟨fun hkind => ?_, fun hkind => ?_⟩
  · intro ha
    obtain ⟨limited, reads⟩ := State.runTxn_order (plan := planSetBlock) hengaged hk hkind
      (Txn.gate_aboveReserve ha true) (by rw [planSetBlock, horder]) decide_eq_true_iff
    refine ⟨limited, fun hin hj => reads (Nat.not_lt.2 hin) _ (withBorrower_absent hh hj _) rfl, fun j hin hj => ?_⟩
    have sets := reads (Nat.not_lt.2 hin) _ (setBlockRead_sets hh hj ha o.a) rfl
    refine ⟨fun hnone => ?_, fun old hsome => ?_⟩
    · rwa [hnone] at sets
    · rwa [hsome] at sets
  · intro ha
    obtain ⟨limited, reads⟩ := State.runTxn_order (plan := planClearBlock) hengaged hk hkind
      (Txn.gate_one ha true) (by rw [planClearBlock, horder]) (selectorLimit_iff o.a)
    have inside (h : o.a = 1 ∨ o.a = 2) : ¬ (o.a ≠ 1 ∧ o.a ≠ 2) := by omega
    refine ⟨fun h1 h2 => limited ⟨h1, h2⟩, fun h hj => reads (inside h) _ (withBorrower_absent hh hj _) rfl,
      fun j hj => ⟨fun h hb => ?_, fun note h hb => ?_, fun h hb => ?_, fun origin day h hb => ?_⟩⟩
    · exact reads (inside (.inl h)) _ (h ▸ clearBlockRead_noManual hh hj hb) rfl
    · exact reads (inside (.inl h)) _ (h ▸ clearBlockRead_manual hh hj ha hb) rfl
    · exact reads (inside (.inr h)) _ (h ▸ clearBlockRead_noCenter hh hj hb) rfl
    · exact reads (inside (.inr h)) _ (h ▸ clearBlockRead_center hh hj ha hb) rfl
  · obtain ⟨limited, reads⟩ := State.runTxn_order (plan := planPayFine) hengaged hk hkind
      (Txn.gate_one ha true) (by rw [planPayFine, horder]) (paymentLimit_iff o.a)
    have inside (hlo : 1 ≤ o.a) (hhi : o.a ≤ 999999) : ¬ (o.a = 0 ∨ 999999 < o.a) := by omega
    refine ⟨limited, fun hlo hhi hj => reads (inside hlo hhi) _ (withBorrower_absent hh hj _) rfl,
      fun j hlo hhi hj => ?_⟩
    have pays {applied : Nat} (h : min o.a (d.borrower j).fines = applied) :=
      reads (inside hlo hhi) _ (payFineRead_applies hh hj ha h) rfl
    refine ⟨fun hzero => ?_, fun howes hall => ?_, fun howes hmore => ?_⟩
    · have := pays (applied := 0) (by omega)
      rwa [hzero] at this
    · have := pays (Nat.min_eq_left hall)
      rwa [finesImages, bne_iff_ne.2 (by omega), if_pos rfl, Nat.sub_self] at this
    · have := pays (Nat.min_eq_right hmore.le)
      rwa [finesImages, bne_iff_ne.2 (by omega), if_pos rfl, Nat.sub_self] at this
  · intro amount
    obtain ⟨limited, reads⟩ := State.runTxn_order (plan := planAdjustFine) hengaged hk hkind
      (Txn.gate_one ha true) (by rw [planAdjustFine, horder]) (adjustLimit_iff amount)
    refine ⟨limited, fun hne hlo hhi => ?_⟩
    have does_read := reads (by omega)
    refine ⟨fun hj => does_read _ (withBorrower_absent hh hj _) rfl, fun j hj => ?_⟩
    intro b owed
    have hcast : owed = adjustedFines b.fines amount := (adjustedFines_cast b.fines amount).symm
    have adjusts := does_read _ (adjustFineRead_adjusts hh hj ha rfl) rfl
    rw [hcast, Int.toNat_natCast]
    refine ⟨fun hsame => ?_, fun hnew => ?_⟩
    · rwa [hsame, Int.sub_self, finesImages, bne_self_eq_false, if_neg Bool.false_ne_true, Int.ofNat_inj.1 hsame] at adjusts
    · rwa [finesImages, bne_iff_ne.2 (sub_ne_zero.2 hnew), if_pos rfl] at adjusts

end Sys2Proof.Machine
end

section
/-! PROOF. Center notices (R79 to R81). -/

namespace Sys2Proof.Machine

theorem noticeMalformed_iff (n : CenterNotice) :
    noticeMalformed n = true ↔ (n.action ≠ 1 ∧ n.action ≠ 2) ∨ ¬ (1 ≤ n.borrower ∧ n.borrower ≤ 99999999) := by
  rw [noticeMalformed, Bool.or_eq_true, selectorLimit_iff, Bool.not_eq_true', Bool.eq_false_iff, ← borrowerInRange_iff]

/-- A malformed notice is ignored, whatever the gates say (step 2 of R79). -/
theorem planNotice_malformed (s : State) (t : Txn) {n : CenterNotice} (h : noticeMalformed n = true) :
    planNotice s t n = .notice false := by
  cases hgate : t.gate .one true with
  | some r => exact planNotice_refused hgate n
  | none => simp only [planNotice, hgate, h, if_true]

/-- A well-formed notice that passes its gates does what its read phase answers (step 3 of R79). -/
theorem planNotice_reads {s : State} {t : Txn} {n : CenterNotice} {st : Stamp} (ha : t.admitted st 1)
    (h : noticeMalformed n = false) {p : Plan} (hp : noticeRead s t n = .ok p) : planNotice s t n = p := by
  simp only [planNotice, Txn.gate_one ha, h, hp, Bool.false_eq_true, if_false, planOf_ok]

section Read

variable {s : State} (hh : s.headerGood .borrower) (t : Txn) {n : CenterNotice}
include hh

theorem noticeRead_absent (hj : s.tables.lookup .borrower n.borrower = .ok none) :
    noticeRead s t n = .ok (.notice false) := by
  simp only [noticeRead, hh.touch, Except.ok_bind', hj]
  rfl

variable {j : Nat} (hj : s.tables.lookup .borrower n.borrower = .ok (some j))
include hj

/-- SET makes the CENTER block present with the notice's origin and day (R80). -/
theorem noticeRead_set (h : n.action = 1) :
    noticeRead s t n
      = .ok (noticePlan t (s.tables.putBorrower j { s.tables.borrower j with center := some (n.origin, n.day) }).images
          .centerBlock n.borrower n.origin n.day) := by
  simp only [noticeRead, hh.touch, Except.ok_bind', hj, h, if_true]
  rfl

/-- CLEAR of an absent CENTER block changes nothing (R81). -/
theorem noticeRead_clearAbsent (h : n.action = 2) (hb : (s.tables.borrower j).center = none) :
    noticeRead s t n = .ok (.notice true) := by
  simp only [noticeRead, hh.touch, Except.ok_bind', hj, h, OfNat.ofNat_ne_one, if_false, hb]
  rfl

/-- CLEAR removes the CENTER block and records its origin and day (R81). -/
theorem noticeRead_clear (h : n.action = 2) {origin day : Nat}
    (hb : (s.tables.borrower j).center = some (origin, day)) :
    noticeRead s t n
      = .ok (noticePlan t (s.tables.putBorrower j { s.tables.borrower j with center := none }).images .centerClear
          n.borrower origin day) := by
  simp only [noticeRead, hh.touch, Except.ok_bind', hj, h, OfNat.ofNat_ne_one, if_false, hb]
  rfl

end Read

/-- Settles O22. The gates' refusal is that of O14. -/
theorem noticesAreApplied : Obligations.NoticesAreApplied := by
  intro s t n hengaged hk d does inRange committed
  have hplan : planTxn s t = planNotice s t n := by rw [planTxn, hk]
  have does_plan {p : Plan} (hp : planNotice s t n = p) (hfault : p.fault = none) : does p := by
    have hnotice : t.notice = n := by rw [Txn.notice, hk]
    change execCenterNotice s = _
    exact State.runTxn_plan hengaged _ _ p (by rw [hk]) (by rw [hnotice, hp]) hfault
  refine ⟨fun hrefused => ?_, fun hbad => ?_, fun st ha haction hin hh => ?_⟩
  · obtain ⟨-, -, notices⟩ := gatesRefuseInOrder s t
    exact does_plan (hplan.symm.trans (notices n hk hrefused)) rfl
  · exact does_plan (planNotice_malformed s t ((noticeMalformed_iff n).2 hbad)) rfl
  · have hformed : noticeMalformed n = false := by
      rw [Bool.eq_false_iff, ne_eq, noticeMalformed_iff]
      exact not_or.2 ⟨by omega, not_not_intro hin⟩
    have does_read {p : Plan} (hp : noticeRead s t n = .ok p) (hfault : p.fault = none) : does p :=
      does_plan (planNotice_reads ha hformed hp) hfault
    have hcommitted (b : BorrowerRecord) (j : Nat) (k : EntryKind) (origin day : Nat) :
        noticePlan t (d.putBorrower j b).images k n.borrower origin day = committed b j st k origin day := by
      rw [noticePlan, Txn.at_admitted ha]
    refine ⟨fun hj => does_read (noticeRead_absent hh t hj) rfl, fun j hj =>
      ⟨fun hset => ?_, fun hclear hb => ?_, fun origin day hclear hb => ?_⟩⟩
    · exact hcommitted _ _ _ _ _ ▸ does_read (noticeRead_set hh t hj hset) rfl
    · exact does_read (noticeRead_clearAbsent hh t hj hclear hb) rfl
    · exact hcommitted _ _ _ _ _ ▸ does_read (noticeRead_clear hh t hj hclear hb) rfl

end Sys2Proof.Machine
end

section
/-! PROOF. PLACE_HOLD (R68, R130, R131). -/

namespace Sys2Proof.Machine

theorem holdLimits_iff (o : Order) :
    holdLimits o = true ↔
      ¬ (1 ≤ o.item ∧ o.item ≤ 9999999999 ∧ 1 ≤ o.borrower ∧ o.borrower ≤ 99999999) := by
  have hin : holdLimits o = !(itemInRange o.item && borrowerInRange o.borrower) := (Bool.not_and _ _).symm
  rw [hin, Bool.not_eq_true', Bool.eq_false_iff, ne_eq, Bool.and_eq_true, itemInRange_iff, borrowerInRange_iff, and_assoc]

/-- Checks 4 to 7 of R130, in order: the item's state, the borrower's own loan, a hold of the borrower's, a queue of six. -/
theorem ItemRecord.refusesHold_cases (r : ItemRecord) (j : Nat) :
    let queued := ∃ e ∈ r.queue, e.borrower = j
    let open_ := r.state ≠ some .lost ∧ r.state ≠ some .withdrawn ∧ ¬ (r.state = some .onLoan ∧ r.borrower = j)
    (r.state = some .lost → r.refusesHold j = some .itemLost) ∧
    (r.state = some .withdrawn → r.refusesHold j = some .itemWithdrawn) ∧
    (r.state = some .onLoan → r.borrower = j → r.refusesHold j = some .holdingOwnLoan) ∧
    (open_ → queued → r.refusesHold j = some .duplicate) ∧
    (open_ → ¬ queued → 6 ≤ r.queue.length → r.refusesHold j = some .holdLimit) ∧
    (open_ → ¬ queued → r.queue.length < 6 → r.refusesHold j = none) := by
  intro queued open_
  have hqueued : (r.queue.any fun e => e.borrower == j) = true ↔ queued := by
    simp only [List.any_eq_true, beq_iff_eq, queued]
  have behind (ho : open_) : r.refusesHold j
      = if queued then some .duplicate else if 6 ≤ r.queue.length then some .holdLimit else none := by
    obtain ⟨hlost, hwithdrawn, hloan⟩ := ho
    simp only [ItemRecord.refusesHold, if_neg hlost, if_neg hwithdrawn, if_neg hloan, hqueued]
  refine ⟨fun h => if_pos h, fun h => ?_, fun h hj => ?_, fun ho hq => ?_, fun ho hq hl => ?_, fun ho hq hl => ?_⟩
  · simp [ItemRecord.refusesHold, h]
  · simp [ItemRecord.refusesHold, h, hj]
  · rw [behind ho, if_pos hq]
  · rw [behind ho, if_neg hq, if_pos hl]
  · rw [behind ho, if_neg hq, if_neg (Nat.not_le.2 hl)]

theorem atHoldLimit_iff (rules : Rules) (b : BorrowerRecord) :
    atHoldLimit rules b = true ↔ (rules.borrowerClass b.cls).holdLimit ≤ b.holds := decide_eq_true_iff

/-! ## The item of the order -/

section Item

variable {t : Txn} {d : Draft} {j : Nat} {b : BorrowerRecord} {item : Nat}

/-- Checks 4 to 7 refuse before the borrower's holds are looked at. -/
theorem placeHoldItem_refused {i : Nat} {r : Reason} (h : (d.item i).refusesHold j = some r) :
    placeHoldItem t d j b item (some i) = .ok (orderRefused r) := by
  simp only [placeHoldItem, h]
  rfl

/-- Check 8 of R130, with a record and without. -/
theorem placeHoldItem_holdLimit {found : Option Nat} (hfull : atHoldLimit t.rules b = true)
    (h : ∀ i, found = some i → (d.item i).refusesHold j = none) :
    placeHoldItem t d j b item found = .ok (orderRefused .holdLimit) := by
  cases found with
  | none =>
    simp only [placeHoldItem, hfull, if_true]
    rfl
  | some i =>
    simp only [placeHoldItem, h i rfl, hfull, if_true]
    rfl

/-- The queue of an item with a record grows by one entry (R131). -/
theorem placeHoldItem_queues {i : Nat} (h : (d.item i).refusesHold j = none) (hfull : atHoldLimit t.rules b = false) :
    let r := d.item i
    placeHoldItem t d j b item (some i)
      = .ok (placeHoldPlan t (d.putItem i { r with queue := r.queue ++ [{ borrower := j, placed := t.at.day }] }) j b item
          (r.queue.length + 1)) := by
  simp only [placeHoldItem, h, hfull]
  rfl

theorem placeHoldItem_tableFull (hfull : atHoldLimit t.rules b = false) (hfree : d.takeFree .item = .ok none) :
    placeHoldItem t d j b item none = .ok (orderRefused .tableFull) := by
  simp only [placeHoldItem, hfull, hfree, Except.ok_bind']
  rfl

/-- An item without a record gets one, ON_SHELF with the one entry (R131). -/
theorem placeHoldItem_inserts {i next : Nat} (hfull : atHoldLimit t.rules b = false)
    (hfree : d.takeFree .item = .ok (some (i, next))) :
    placeHoldItem t d j b item none
      = .ok (placeHoldPlan t (d.insertItem i next
          { ItemRecord.fresh item (t.rules.classOfNumber item) .onShelf with
            queue := [{ borrower := j, placed := t.at.day }] }) j b item 1) := by
  simp only [placeHoldItem, hfull, hfree, Except.ok_bind']
  rfl

end Item

/-! ## The read phase -/

section Read

variable {s : State} (hb : s.headerGood .borrower) {t : Txn} {item number j : Nat}
  (hj : s.tables.lookup .borrower number = .ok (some j))
include hb hj

/-- A block set that is not empty refuses with the whole set (R68). -/
theorem placeHoldRead_blocked {set : Blocks} (hset : (s.tables.borrower j).blocks t.rules t.stamp = set)
    (hany : set.any = true) :
    placeHoldRead s t item number
      = .ok { result := .order { outcome := .refused, reason := some .borrowerBlocked, blocks := set } } := by
  simp only [placeHoldRead, withBorrower_found hb hj, hset, hany, if_true]
  rfl

variable (hi : s.headerGood .item) (hany : ((s.tables.borrower j).blocks t.rules t.stamp).any = false) {found : Option Nat}
  (hfound : s.tables.lookup .item item = .ok found)
include hi hany hfound

/-- Check 3 of R130: the item's class allows no holds. -/
theorem placeHoldRead_notAllowed (h : t.rules.allowsHolds (s.tables.classOf t.rules item found) = false) :
    placeHoldRead s t item number = .ok (orderRefused .holdsNotAllowed) := by
  simp only [placeHoldRead, withBorrower_found hb hj, Bool.false_eq_true, if_false, hany, hi.touch_tables, Except.ok_bind',
    hfound, h]
  rfl

theorem placeHoldRead_allowed (h : t.rules.allowsHolds (s.tables.classOf t.rules item found) = true) :
    placeHoldRead s t item number = placeHoldItem t s.tables j (s.tables.borrower j) item found := by
  simp only [placeHoldRead, withBorrower_found hb hj, Bool.false_eq_true, if_false, hany, hi.touch_tables, Except.ok_bind',
    hfound, h, if_true]

end Read

/-- Settles O36. -/
theorem holdsArePlaced : Obligations.HoldsArePlaced := by
  intro s t o st hengaged hk hkind ha hhb hhi d does inRange
  obtain ⟨limited, reads⟩ := State.runTxn_order (plan := planPlaceHold) hengaged hk hkind (Txn.gate_aboveReserve ha true)
    (by rw [planPlaceHold, Txn.order_eq hk]) (holdLimits_iff o)
  refine ⟨limited, fun hin hj => reads (not_not_intro hin) _ (withBorrower_absent hhb hj _) rfl, fun j hin hj => ?_⟩
  intro b set entry full placed
  have does_read := reads (not_not_intro hin)
  have hstamp : t.stamp = some st := ha.2.1
  have hset : b.blocks t.rules t.stamp = set := by rw [hstamp]
  have hfull : atHoldLimit t.rules b = true ↔ full := atHoldLimit_iff t.rules b
  have hplaced (d1 : Draft) (position : Nat) : placeHoldPlan t d1 j b o.item position = placed d1 position :=
    Plan.commits_admitted ha _ _ _ _ _ _ _
  refine ⟨fun hany => does_read _ (placeHoldRead_blocked hhb hj hset hany) rfl, fun found hany hfound => ?_⟩
  intro cls
  have hcls : d.classOf t.rules o.item found = cls := by cases found <;> rfl
  refine ⟨fun hno => does_read _ (placeHoldRead_notAllowed hhb hj hhi (hset ▸ hany) hfound (hcls ▸ hno)) rfl,
    fun hyes hnone => ?_, fun i hyes hsome => ?_⟩
  all_goals
    have hread := placeHoldRead_allowed hhb hj hhi (hset ▸ hany) hfound (hcls ▸ hyes)
    have notFull (h : ¬ full) : atHoldLimit t.rules b = false := Bool.eq_false_iff.2 (mt hfull.1 h)
  · subst hnone
    refine ⟨fun hf => ?_, fun hf hfree => ?_, fun i next hf hfree => ?_⟩
    · exact does_read _ (hread.trans (placeHoldItem_holdLimit (hfull.2 hf) nofun)) rfl
    · exact does_read _ (hread.trans (placeHoldItem_tableFull (notFull hf) hfree)) rfl
    · have inserts := does_read _ (hread.trans (placeHoldItem_inserts (notFull hf) hfree)) rfl
      rwa [hplaced, Txn.at_admitted ha] at inserts
  · subst hsome
    intro r queued open_
    obtain ⟨hlost, hwithdrawn, hloan, hqueued, hlong, hpasses⟩ := r.refusesHold_cases j
    have refuses {x : Reason} (h : r.refusesHold j = some x) : does (orderRefused x) :=
      does_read _ (hread.trans (placeHoldItem_refused h)) rfl
    refine ⟨fun h => refuses (hlost h), fun h => refuses (hwithdrawn h), fun h hown => refuses (hloan h hown),
      fun ho hq => refuses (hqueued ho hq), fun ho hq hlimit => ?_, fun ho hq hl hf => ?_⟩
    · by_cases hl : 6 ≤ r.queue.length
      · exact refuses (hlong ho hq hl)
      · have passes (k : Nat) (hk : some i = some k) : (d.item k).refusesHold j = none :=
          Option.some.inj hk ▸ hpasses ho hq (Nat.not_le.1 hl)
        exact does_read _ (hread.trans (placeHoldItem_holdLimit (hfull.2 (hlimit.resolve_left hl)) passes)) rfl
    · have queues := does_read _ (hread.trans (placeHoldItem_queues (hpasses ho hq hl) (notFull hf))) rfl
      rwa [hplaced, Txn.at_admitted ha] at queues

end Sys2Proof.Machine
end

section
/-! SUPPORT. The desk (R194) under every operation the blocks share: each leaves its state, its reason and the ANCHOR register as
they are; only the entry to HALTED, a restart and the end of anchoring write them. -/

namespace Sys2Proof.Machine

/-- What a label's completion may change leaves the desk. -/
theorem State.LabelFrame.desk {i : Fin 4} {s u : State} (h : s.LabelFrame i u) : u.desk = s.desk :=
  (congrArg State.desk h.rest :)

section Operations

variable (s : State)

/-! ## Groups, slips and lists -/

theorem State.writeField_desk (group off v : Nat) : (s.writeField group off v).desk = s.desk := by
  unfold State.writeField
  split <;> rfl

theorem State.requestSlip_desk (x : Slip) : (s.requestSlip x).desk = s.desk := by
  obtain ⟨m, p, h⟩ := s.requestSlip_eq x
  rw [h]
  rfl

theorem State.closeList_desk (status : ListStatus) : (s.closeList status).desk = s.desk := by
  unfold State.closeList
  split
  · rfl
  · simp [State.writeListClose]

theorem State.closeAbandoned_desk : s.closeAbandoned.desk = s.desk := by
  unfold State.closeAbandoned
  split
  · rfl
  · simp

theorem State.takeUp_desk (l : RunningList) (o : Order) : (s.takeUp l o).desk = s.desk := by
  unfold State.takeUp
  dsimp only
  split
  · exact State.finishOrder_desk _ _
  · rfl

theorem State.listFault_desk (r : StateReason) (a : Nat) : (s.listFault r a).desk = s.desk := by
  simp [State.listFault, State.writeFault]

theorem State.post_desk (a : Nat) : (s.post a).desk = s.desk := by
  unfold State.post
  split
  · split
    · exact s.listFault_desk _ _
    · rfl
  · split <;> rfl

theorem State.movePointer_desk (v : Option Nat) : (s.movePointer v).desk = s.desk := by rw [State.movePointer_eq]; rfl

theorem State.reportHalted_desk (o : Order) (stamp : Option Stamp) : (s.reportHalted o stamp).desk = s.desk := by
  unfold State.reportHalted
  split
  · exact s.finishOrder_desk _
  · exact (State.finishOrder_desk _ _).trans (s.movePointer_desk _)
  · exact (State.finishOrder_desk _ _).trans (State.movePointer_desk _ _)

/-! ## Stations -/

theorem State.wandArrival_desk (i : Fin 4) (l : Label) : (s.wandArrival i l).desk = s.desk := by
  unfold State.wandArrival
  dsimp only
  split
  · rfl
  · split <;> rfl

theorem State.repeatCheck_desk (i : Fin 4) (l : Label) : (s.repeatCheck i l).desk = s.desk := by
  unfold State.repeatCheck
  dsimp only
  split
  · rfl
  · exact State.wandArrival_desk _ i l

theorem State.closeWithOutcome_desk (i : Fin 4) (p : Producer) : (s.closeWithOutcome i p).desk = s.desk :=
  (s.closeSession_frame i).desk

theorem State.setMode_desk (i : Fin 4) (m : Mode) (count : Nat) : (s.setMode i m count).desk = s.desk :=
  State.finishOrder_desk _ _

theorem State.changeMode_desk (i : Fin 4) (m : Mode) : (s.changeMode i m).desk = s.desk := by
  unfold State.changeMode
  dsimp only
  split
  · exact State.setMode_desk _ i m 0
  · split
    · exact (State.setMode_desk _ i m _).trans (State.closeWithOutcome_desk _ i _)
    · simp [State.orderWaits, State.closeWithOutcome_desk]

theorem State.produceOn_desk (i : Fin 4) (p : Producer) : (s.produceOn i p).desk = s.desk := by
  cases p with
  | completion => rfl
  | idleClose => rfl
  | modeChange count mode =>
    simp only [State.produceOn]
    split
    · exact State.finishOrder_desk _ _
    · exact s.setMode_desk i mode count
  | keyedClosed => exact s.finishOrder_desk _

theorem State.keyedArrival_desk (i : Fin 4) (l : Label) : (s.keyedArrival i l).desk = s.desk := by
  unfold State.keyedArrival
  dsimp only
  split
  · split
    · exact State.finishOrder_desk _ _
    · rfl
  · split <;> rfl

theorem State.writeOutcome_desk (i : Fin 4) (o : SlateOutcome) : (s.writeOutcome i o).desk = s.desk := by
  unfold State.writeOutcome
  dsimp only
  split
  · simp [State.finishOrder_desk]
  · simp

/-! ## The center line -/

theorem State.beginOctet_desk : s.beginOctet.desk = s.desk := by
  unfold State.beginOctet
  split
  · rfl
  · split
    · rfl
    · split <;> rfl

theorem State.transmitBit_desk : s.transmitBit.desk = s.desk := by
  unfold State.transmitBit
  split
  · rfl
  · exact State.beginOctet_desk _

theorem State.nextPage_desk : s.nextPage.desk = s.desk := by
  unfold State.nextPage
  split
  · exact State.writeField_desk _ _ _ _
  · rfl

theorem State.askPage_desk : s.askPage.desk = s.desk := by
  unfold State.askPage
  dsimp only
  split
  · rfl
  · exact State.nextPage_desk _

theorem State.tick_desk : s.tick.desk = s.desk := by
  unfold State.tick
  dsimp only
  split
  · exact (State.nextPage_desk _).trans s.transmitBit_desk
  · exact s.transmitBit_desk

theorem State.freeOldestPage_desk : s.freeOldestPage.desk = s.desk := by
  unfold State.freeOldestPage
  split
  · rfl
  · dsimp only
    split <;> rfl

theorem State.freePages_desk (n : Nat) : (s.freePages n).desk = s.desk := by
  induction n generalizing s with
  | zero => rfl
  | succ n ih => exact (ih _).trans s.freeOldestPage_desk

theorem State.uploadIdle_desk : s.uploadIdle.desk = s.desk := by
  unfold State.uploadIdle
  dsimp only
  split
  · exact State.finishOrder_desk _ _
  · rfl

theorem State.finishEnding_desk : s.finishEnding.desk = s.desk := by
  unfold State.finishEnding
  split
  · exact s.writeField_desk _ _ _
  · exact s.uploadIdle_desk

theorem State.stopUpload_desk (r : EndReason) : (s.stopUpload r).desk = s.desk := by
  unfold State.stopUpload
  dsimp only
  split <;> rfl

theorem State.endUpload_desk (r : EndReason) : (s.endUpload r).desk = s.desk := by
  unfold State.endUpload
  split
  · rfl
  · dsimp only
    have stopped := s.stopUpload_desk r
    have dropped := ((s.stopUpload r).writeField_desk offReport offDropped ((s.stopUpload r).raised16 offDropped)).trans stopped
    split
    · split
      · exact dropped
      · exact (State.finishEnding_desk _).trans dropped
    · split
      · exact stopped
      · exact (State.finishEnding_desk _).trans stopped

theorem State.uploadMinute_desk : s.uploadMinute.desk = s.desk := by
  unfold State.uploadMinute
  split
  · rfl
  · exact s.writeField_desk _ _ _

theorem State.frameTaken_desk (f : PartFrame) (timeout : Nat) : (s.frameTaken f timeout).desk = s.desk := by
  cases f with
  | opening => exact State.askPage_desk _
  | page => exact (State.askPage_desk _).trans ((State.writeField_desk _ _ _ _).trans s.freeOldestPage_desk)
  | closing => rfl

theorem State.replyExpired_desk (f : PartFrame) : (s.replyExpired f).desk = s.desk := by
  unfold State.replyExpired
  split
  · exact s.writeField_desk _ _ _
  · exact s.endUpload_desk _

theorem State.takeNotice_desk (n : CenterNotice) : (s.takeNotice n).desk = s.desk := by
  unfold State.takeNotice
  dsimp only
  split
  · rfl
  · exact State.writeField_desk _ _ _ _

theorem State.discardFrame_desk : s.discardFrame.desk = s.desk := s.writeField_desk _ _ _

/-! ## The clock -/

theorem State.dayChange_desk : s.dayChange.desk = s.desk := by
  unfold State.dayChange
  dsimp only
  split <;> rfl

theorem State.clockEvents_desk (old : Clock) : (s.clockEvents old).desk = s.desk := by
  have changed : (if s.clock.day = old.day then s else s.dayChange).desk = s.desk := by
    split
    · rfl
    · exact s.dayChange_desk
  unfold State.clockEvents
  dsimp only
  split
  · exact (State.uploadMinute_desk _).trans changed
  · exact changed

/-! ## Transactions -/

theorem State.passGrant_desk (g : Grant) : (s.passGrant g).desk = s.desk := by
  unfold State.passGrant
  split <;> rfl

theorem State.handSweep_desk (e : SweepEnd) (changed : Bool) : (s.handSweep e changed).desk = s.desk := by
  cases e with
  | goesOn => rfl
  | done => exact State.raiseIf_desk _ _ _
  | journalFull => rfl

theorem State.handNotice_desk (applied : Bool) : (s.handNotice applied).desk = s.desk := by
  have counted := s.writeField_desk offReport (if applied then offApplied else offIgnored)
    (s.raised16 (if applied then offApplied else offIgnored))
  unfold State.handNotice
  dsimp only
  split
  · exact (State.finishEnding_desk _).trans counted
  · split
    · exact (State.endUpload_desk _ _).trans counted
    · exact counted

theorem State.handStarted_desk (stamp : Stamp) (refusal : Option Reason) : (s.handStarted stamp refusal).desk = s.desk := by
  unfold State.handStarted
  dsimp only
  split
  · split
    · simp [State.finishEnding_desk, State.finishOrder_desk, State.writeReport]
    · simp [State.sendFrame, State.finishOrder_desk, State.writeReport]
  · split
    · simp [State.finishEnding_desk, State.writeReport]
    · simp [State.sendFrame, State.writeReport]

theorem State.handOver_desk (t : Txn) (r : TxnResult) (lost committed : Bool) :
    (s.handOver t r lost committed).desk = s.desk := by
  unfold State.handOver
  split
  · exact (s.completeLabel_frame _ _ _ _).desk
  · exact s.finishOrder_desk _
  · exact s.handSweep_desk _ _
  · exact s.handNotice_desk _
  · exact s.finishOrder_desk _
  · exact s.handStarted_desk _ _
  · exact State.uploadIdle_desk _
  · rfl

theorem State.conclude_desk (t : Txn) (p : Plan) : (s.conclude t p).desk = s.desk := by
  rw [State.conclude_eq, State.raiseIf_desk, State.handOver_desk]
  exact (congrArg State.desk (s.concluded_rest p) :)

/-- The entry to HALTED gives the desk its state and its reason (R194). -/
theorem State.enterHalted_desk (n : FaultNote) :
    (s.enterHalted n).desk = { s.desk with state := .halted, reason := n.reason } :=
  (State.refuseStart_keeps _).2.2.trans (State.endUpload_desk _ _)

end Operations

end Sys2Proof.Machine
end

section
/-! SUPPORT. A desk that is OPEN or HALTED stays so until a restart (R65, R194): every other command leaves the desk as it is, or
halts it for a fault of its transaction. -/

namespace Sys2Proof.Machine

/-- The next state of an outcome, if it has one, has the desk of `s`. -/
def KeepsDesk (s : State) (x : Host.Outcome State Fault Refusal) : Prop := ∀ t, x = .next t → t.desk = s.desk

theorem KeepsDesk.next {s t : State} (h : t.desk = s.desk) : KeepsDesk s (.next t) := by
  intro u hu
  cases hu
  exact h

theorem KeepsDesk.ite {s : State} {c : Prop} [Decidable c] {x y : Host.Outcome State Fault Refusal} (hx : KeepsDesk s x)
    (hy : KeepsDesk s y) : KeepsDesk s (if c then x else y) := by
  split
  · exact hx
  · exact hy

section Commands

variable (s : State)

/-! ## Wands and stations -/

theorem execDecodeComplete_desk (wand : Fin 4) : KeepsDesk s (execDecodeComplete wand s) := by
  unfold execDecodeComplete
  dsimp only
  split
  · split
    · exact .next rfl
    · exact .next (State.repeatCheck_desk _ wand _)
  · exact .next rfl

theorem execCounterMirrorWrite_desk : KeepsDesk s (execCounterMirrorWrite s) := by
  unfold execCounterMirrorWrite
  split
  · split
    · exact .next rfl
    · exact .next (by simp)
  · exact .next rfl

theorem execSlateOutcomeWrite_desk : KeepsDesk s (execSlateOutcomeWrite s) := by
  unfold execSlateOutcomeWrite
  split
  · split
    · exact .next rfl
    · split
      · exact .next rfl
      · exact .next (s.writeOutcome_desk _ _)
  · exact .next rfl

theorem execOutcomeBufferEnter_desk (i : Fin 4) : KeepsDesk s (execOutcomeBufferEnter i s) := by
  unfold execOutcomeBufferEnter
  dsimp only
  split
  · exact .next rfl
  · exact .ite (.next (State.produceOn_desk _ i _)) (.next rfl)

theorem execIdleDeadlineExpire_desk (i : Fin 4) : KeepsDesk s (execIdleDeadlineExpire i s) :=
  .ite (.next rfl) (.ite (.next rfl) (.next (State.closeWithOutcome_desk _ i _)))

theorem execToneStepEnd_desk (i : Fin 4) : KeepsDesk s (execToneStepEnd i s) := by
  unfold execToneStepEnd
  dsimp only
  split <;> exact .next rfl

/-! ## The engine and the executor -/

theorem execEngineGrant_desk : KeepsDesk s (execEngineGrant s) := by
  unfold execEngineGrant
  split
  · split
    · exact .next rfl
    · exact .next (s.passGrant_desk _)
  · exact .next rfl

theorem execListStart_desk : KeepsDesk s (execListStart s) := by
  unfold execListStart
  split
  · exact .ite (.ite (.next rfl) (.next (State.listFault_desk _ _ _))) (.next rfl)
  · exact .next rfl

theorem execOrderTakeUp_desk : KeepsDesk s (execOrderTakeUp s) := by
  unfold execOrderTakeUp
  split
  · exact .next rfl
  · exact .ite (.next rfl) (.ite (.next ((State.closeList_desk _ _).trans (s.listFault_desk _ _)))
      (.ite (.next (s.closeList_desk _)) (.next (s.takeUp_desk _ _))))

theorem execEndList_desk : KeepsDesk s (execEndList s) := by
  unfold execEndList
  split
  · exact .next rfl
  · exact .next ((State.closeList_desk _ _).trans (s.finishOrder_desk _))

theorem execSetStationMode_desk : KeepsDesk s (execSetStationMode s) := by
  unfold execSetStationMode
  split
  · exact .next rfl
  · split
    · exact .next rfl
    · exact .next (s.finishOrder_desk _)

theorem execModeChangeFinish_desk : KeepsDesk s (execModeChangeFinish s) := by
  unfold execModeChangeFinish
  split
  · exact .next rfl
  · split
    · exact .ite (.next rfl) (.ite (.next (State.finishOrder_desk _ _)) (.next (s.changeMode_desk _ _)))
    · exact .next rfl

theorem execKeyedLabel_desk : KeepsDesk s (execKeyedLabel s) := by
  unfold execKeyedLabel
  split
  · exact .next rfl
  · split
    · exact .next (s.keyedArrival_desk _ _)
    · exact .next (s.finishOrder_desk _)

theorem execKeyedLabelEnter_desk : KeepsDesk s (execKeyedLabelEnter s) := by
  unfold execKeyedLabelEnter
  split
  · exact .next rfl
  · split
    · exact .ite (.next rfl) (.next (s.keyedArrival_desk _ _))
    · exact .next rfl

theorem execReloadRules_desk : KeepsDesk s (execReloadRules s) := by
  unfold execReloadRules
  split
  · exact .ite (.next rfl) (.next (State.finishOrder_desk _ _))
  · exact .ite (.next rfl) (.next (State.finishOrder_desk _ _))
  · exact .next rfl

theorem execReloadSettings_desk : KeepsDesk s (execReloadSettings s) := by
  unfold execReloadSettings
  split
  · exact .next rfl
  · exact .next (State.finishOrder_desk _ _)

theorem execReleasePages_desk : KeepsDesk s (execReleasePages s) := by
  unfold execReleasePages
  split
  · exact .next rfl
  · exact .ite (.next (s.finishOrder_desk _)) (.next (s.freePages_desk _))

theorem execPrintText_desk : KeepsDesk s (execPrintText s) := by
  unfold execPrintText
  split
  · exact .next rfl
  · exact .ite (.next (s.finishOrder_desk _)) (.next ((State.finishOrder_desk _ _).trans (s.requestSlip_desk _)))

/-! ## Upload, line and clock -/

theorem execStartUpload_desk : KeepsDesk s (execStartUpload s) := by
  unfold execStartUpload
  split
  · exact .next rfl
  · exact .ite (.next (s.finishOrder_desk _)) (.ite (.next (s.finishOrder_desk _))
      (.ite (.next rfl) (.next (s.finishOrder_desk _))))

theorem execAbortUpload_desk : KeepsDesk s (execAbortUpload s) := by
  unfold execAbortUpload
  split
  · exact .next rfl
  · split
    · exact .next (s.finishOrder_desk _)
    · exact .next rfl
    · exact .next (State.endUpload_desk _ _)

theorem execFrameSent_desk : KeepsDesk s (execFrameSent s) := by
  unfold execFrameSent
  split
  · exact .next rfl
  · exact .ite (.next rfl) (.next rfl)

theorem execTakenFrame_desk : KeepsDesk s (execTakenFrame s) := by
  unfold execTakenFrame
  split
  · exact .next (State.frameTaken_desk _ _ _)
  · exact .next rfl

theorem execRefusedFrame_desk : KeepsDesk s (execRefusedFrame s) := by
  unfold execRefusedFrame
  split
  · exact .next (State.replyExpired_desk _ _)
  · exact .next rfl

theorem execNoticeFrame_desk : KeepsDesk s (execNoticeFrame s) := by
  unfold execNoticeFrame
  split
  · exact .next (State.takeNotice_desk _ _)
  · exact .next rfl

theorem execFinishedFrame_desk : KeepsDesk s (execFinishedFrame s) := by
  unfold execFinishedFrame
  split
  · split
    · exact .next (State.endUpload_desk _ _)
    · exact .next rfl
  · exact .next rfl

theorem execStrayFrame_desk : KeepsDesk s (execStrayFrame s) := by
  unfold execStrayFrame
  split
  · exact .ite (.next (s.writeField_desk _ _ _)) (.next rfl)
  · exact .next rfl

theorem execFrameDiscard_desk : KeepsDesk s (execFrameDiscard s) := by
  unfold execFrameDiscard
  split
  · exact .next s.discardFrame_desk
  · exact .next rfl

theorem execFrameGapTimeout_desk : KeepsDesk s (execFrameGapTimeout s) := by
  unfold execFrameGapTimeout
  split
  · exact .next s.discardFrame_desk
  · exact .next rfl

theorem execReplyTimeout_desk : KeepsDesk s (execReplyTimeout s) := by
  unfold execReplyTimeout
  split
  · exact .next (State.replyExpired_desk _ _)
  · exact .next rfl

/-! ## The printer -/

theorem execDotLineRendered_desk : KeepsDesk s (execDotLineRendered s) := by
  unfold execDotLineRendered
  split
  · exact .next rfl
  · exact .ite (.next rfl) (.next rfl)

theorem State.completeSlip_desk : s.completeSlip.desk = s.desk := by
  obtain ⟨m, h⟩ := s.countPrinter_eq offSlipsPrinted
  rw [State.completeSlip, h]
  rfl

theorem execDotLineFed_desk : KeepsDesk s (execDotLineFed s) := by
  unfold execDotLineFed
  split
  · dsimp only
    split
    · exact .next rfl
    · exact .ite (.next rfl) (.next (State.completeSlip_desk _))
  · exact .next rfl

end Commands

/-! ## Attached desks -/

/-- The next state of an outcome, if it has one, is attached. -/
def AttachedNext (x : Host.Outcome State Fault Refusal) : Prop := ∀ t, x = .next t → t.attached = true

section Attached

variable {s : State} (h : s.attached = true)
include h

theorem State.attached_of_desk {t : State} (ht : t.desk = s.desk) : t.attached = true := by
  rw [State.attached, ht]
  exact h

theorem KeepsDesk.attached {x : Host.Outcome State Fault Refusal} (hx : KeepsDesk s x) : AttachedNext x :=
  fun t ht => State.attached_of_desk h (hx t ht)

omit h in
theorem State.enterHalted_attached (s : State) (n : FaultNote) : (s.enterHalted n).attached = true := by
  rw [State.attached, s.enterHalted_desk]
  rfl

/-- A transaction leaves the desk as it is, or finds a fault and halts it (R65). -/
theorem State.carryOut_attached (t : Txn) (p : Plan) : (s.carryOut t p).attached = true := by
  unfold State.carryOut
  split
  · exact State.attached_of_desk h (s.conclude_desk t p)
  · exact State.attached_of_desk (State.enterHalted_attached _ _) (State.handOver_desk _ t p.result false false)

theorem State.runTxn_attached (want : TxnKind → Bool) (plan : State → Txn → Plan) : AttachedNext (s.runTxn want plan) := by
  unfold State.runTxn
  split
  · exact KeepsDesk.attached h (.next rfl)
  · intro u hu
    cases hu
    exact State.carryOut_attached h _ _

theorem State.runReport_attached (kind : Nat) : AttachedNext (s.runReport kind) := by
  unfold State.runReport
  split
  · exact (KeepsDesk.next (s.reportHalted_desk _ _)).attached h
  · exact State.runTxn_attached h _ _

theorem execUploadStarted_attached : AttachedNext (execUploadStarted s) := by
  unfold execUploadStarted
  split
  · exact KeepsDesk.attached h (.next rfl)
  · intro u hu
    cases hu
    have after (v : Upload) : (s.withUpload v).attached = true := h
    exact State.carryOut_attached (after _) _ _

theorem execAnchoringEnd_attached : AttachedNext (execAnchoringEnd s) := by
  have away : s.desk.state ≠ .anchoring := by
    rcases s.attached_iff.1 h with h | h <;> rw [h] <;> decide
  rw [execAnchoringEnd, if_neg away]
  exact KeepsDesk.attached h (.next rfl)

end Attached

/-- The two events that restart the part (R41, R195). -/
def restarts : Instr → Prop
  | .powerOn _ => True
  | .anchorWrite _ _ => True
  | _ => False

/-- OPEN and HALTED are left by a restart alone (R194). -/
theorem exec_attached (c : Instr) {s : State} (h : s.attached = true) (hc : ¬ restarts c) : AttachedNext (exec c s) := by
  have keeps {x} : KeepsDesk s x → AttachedNext x := KeepsDesk.attached h
  cases c with
  | powerOn _ => exact absurd trivial hc
  | anchorWrite _ _ => exact absurd trivial hc
  | anchoringEnd => exact execAnchoringEnd_attached h
  | worklistWrite _ => exact keeps (.ite (.next rfl) (.ite (.next rfl) (.next (s.post_desk _))))
  | noticeWrite _ => exact keeps (.ite (.next rfl) (.next rfl))
  | ceilingWrite _ => exact keeps (.next rfl)
  | stateWrite _ => exact keeps (.next rfl)
  | elementEnd _ _ => exact keeps (.next rfl)
  | quietZoneBegin _ _ => exact keeps (.next rfl)
  | decodeComplete wand => exact keeps (execDecodeComplete_desk s wand)
  | repeatTimerExpire _ => exact keeps (.next rfl)
  | counterMirrorWrite => exact keeps (execCounterMirrorWrite_desk s)
  | slateOutcomeWrite => exact keeps (execSlateOutcomeWrite_desk s)
  | outcomeBufferEnter i => exact keeps (execOutcomeBufferEnter_desk s i)
  | idleDeadlineExpire i => exact keeps (execIdleDeadlineExpire_desk s i)
  | toneStepEnd i => exact keeps (execToneStepEnd_desk s i)
  | tonePeriodEnd _ => exact keeps (.ite (.next rfl) (.next rfl))
  | engineGrant => exact keeps (execEngineGrant_desk s)
  | listStart => exact keeps (execListStart_desk s)
  | orderTakeUp => exact keeps (execOrderTakeUp_desk s)
  | endList => exact keeps (execEndList_desk s)
  | setStationMode => exact keeps (execSetStationMode_desk s)
  | modeChangeFinish => exact keeps (execModeChangeFinish_desk s)
  | keyedLabel => exact keeps (execKeyedLabel_desk s)
  | keyedLabelEnter => exact keeps (execKeyedLabelEnter_desk s)
  | reloadRules => exact keeps (execReloadRules_desk s)
  | reloadSettings => exact keeps (execReloadSettings_desk s)
  | releasePages => exact keeps (execReleasePages_desk s)
  | printText => exact keeps (execPrintText_desk s)
  | startUpload => exact keeps (execStartUpload_desk s)
  | abortUpload => exact keeps (execAbortUpload_desk s)
  | clockSecond => exact keeps (.ite (.next (State.clockEvents_desk _ _)) (.next rfl))
  | centerNotice => exact State.runTxn_attached h _ fun s t => planNotice s t t.notice
  | uploadStarted => exact execUploadStarted_attached h
  | frameSent => exact keeps (execFrameSent_desk s)
  | takenFrame => exact keeps (execTakenFrame_desk s)
  | refusedFrame => exact keeps (execRefusedFrame_desk s)
  | noticeFrame => exact keeps (execNoticeFrame_desk s)
  | finishedFrame => exact keeps (execFinishedFrame_desk s)
  | strayFrame => exact keeps (execStrayFrame_desk s)
  | frameDiscard => exact keeps (execFrameDiscard_desk s)
  | frameGapTimeout => exact keeps (execFrameGapTimeout_desk s)
  | receiveQueueOverrun => exact keeps (.ite (.next rfl) (.next rfl))
  | replyTimeout => exact keeps (execReplyTimeout_desk s)
  | noticeTimeout => exact keeps (.ite (.next (s.endUpload_desk _)) (.next rfl))
  | lineRdyChange _ => exact keeps (.ite (.next rfl) (.next rfl))
  | lineDownTimeout => exact keeps (.ite (.next (s.endUpload_desk _)) (.next rfl))
  | dotLineRendered => exact keeps (execDotLineRendered_desk s)
  | dotLineStart => exact keeps (.ite (.ite (.next rfl) (.next rfl)) (.next rfl))
  | dotLineFed => exact keeps (execDotLineFed_desk s)
  | paperSensorChange _ => exact keeps (.ite (.next rfl) (.next rfl))
  | paperTimerExpire => exact keeps (.ite (.next rfl) (.next rfl))
  | octetReceived _ _ => exact keeps (.next rfl)
  | reportOverdue => exact State.runReport_attached h _
  | reportBorrowerLoans => exact State.runReport_attached h _
  | reportHoldShelf => exact State.runReport_attached h _
  | sessionOpen | sessionRefresh | noBorrower | wrongLabel | checkout | renewal | returnItem | borrowerInquiry | itemInquiry
  | formatTables | addBorrower | updateBorrower | removeBorrower | setBlock | clearBlock | payFine | adjustFine
  | declareLost | withdraw | release | setClock | placeHold | cancelHold | pagesReleased | daySweepStep
  | uploadEnded => exact State.runTxn_attached h _ _

end Sys2Proof.Machine
end

section
/-! PROOF. A desk that is not attached stays quiet (R84, R147, R168, R178, R194, R195): the commands that work on desk memory's
structures find nothing to do, and the others touch only what a restart leaves running: wands, closed scans, tones, the receiver,
the paper sensor, the clock, the notice unit and, while ANCHORING, the slot. -/

namespace Sys2Proof.Machine

/-- A quiet state whose desk is UNANCHORED or ANCHORING. -/
def State.still (s : State) : Prop := s.attached = false ∧ s.quiet

/-- The next state of an outcome, if it has one, is still. -/
def StillNext (x : Host.Outcome State Fault Refusal) : Prop := ∀ t, x = .next t → t.still

/-- The next state of an outcome, if it has one, is quiet. -/
def QuietNext (x : Host.Outcome State Fault Refusal) : Prop := ∀ t, x = .next t → t.quiet

theorem StillNext.next {t : State} (h : t.still) : StillNext (.next t) := by
  intro u hu
  cases hu
  exact h

theorem QuietNext.next {t : State} (h : t.quiet) : QuietNext (.next t) := by
  intro u hu
  cases hu
  exact h

theorem StillNext.ite {c : Prop} [Decidable c] {x y : Host.Outcome State Fault Refusal} (hx : StillNext x) (hy : StillNext y) :
    StillNext (if c then x else y) := by
  split
  · exact hx
  · exact hy

theorem StillNext.quiet {x : Host.Outcome State Fault Refusal} (h : StillNext x) : QuietNext x := fun t ht => (h t ht).2

theorem State.detached_iff (s : State) : s.attached = false ↔ s.desk.state = .unanchored ∨ s.desk.state = .anchoring := by
  unfold State.attached
  cases s.desk.state <;> decide

/-- An OPEN or HALTED desk is under no demand. -/
theorem State.quiet_of_attached {s : State} (h : s.attached = true) : s.quiet := by
  have off : ¬ (s.desk.state = .unanchored ∨ s.desk.state = .anchoring) := fun d => by
    rw [s.detached_iff.2 d] at h
    cases h
  exact ⟨fun d => absurd d off, fun d => absurd (Or.inl d) off⟩

/-! ## The line: only the transmitter and a restart touch the frame in transmission -/

theorem Line.takeOctets_transmission (l : Line) (n : Nat) : (l.takeOctets n).transmission = l.transmission := rfl

theorem Line.resume_transmission (l : Line) : l.resume.transmission = l.transmission := rfl

theorem Line.lose_transmission (l : Line) : l.lose.transmission = l.transmission := by
  unfold Line.lose
  split <;> rfl

theorem Line.push_transmission (l : Line) (o : RxOctet) : (l.push o).transmission = l.transmission := by
  unfold Line.push
  split
  · rfl
  · exact l.lose_transmission

theorem Line.receive_transmission (l : Line) (p : Parity) (bits : List (BitVec 3)) :
    (l.receive p bits).transmission = l.transmission := by
  unfold Line.receive
  split
  · rfl
  · exact Line.push_transmission _ _

namespace State.still

variable {s : State} (h : s.still)
include h

/-! ## What is still -/

theorem detached : s.desk.state = .unanchored ∨ s.desk.state = .anchoring := s.detached_iff.1 h.1

theorem engine : s.engine = .reset := (h.2.1 h.detached).1

theorem running : s.executor.running = none := by
  obtain ⟨_, _, _, running, _⟩ := h.2.1 h.detached
  exact running

theorem upload : s.upload = .reset := by
  obtain ⟨_, _, _, _, upload, _⟩ := h.2.1 h.detached
  exact upload

theorem transmission : s.line.transmission = none := by
  obtain ⟨_, _, _, _, _, transmission, _⟩ := h.2.1 h.detached
  exact transmission

theorem queue : s.printer.queue = [] := by
  obtain ⟨_, _, _, _, _, _, queue, _⟩ := h.2.1 h.detached
  exact queue

theorem printer : s.printer.state = .idle := by
  obtain ⟨_, _, _, _, _, _, _, printer, _⟩ := h.2.1 h.detached
  exact printer

theorem station (i : Fin 4) : (s.station i).quiet := by
  obtain ⟨_, _, _, _, _, _, _, _, station⟩ := h.2.1 h.detached
  exact station i

theorem slot (d : s.desk.state = .unanchored) : s.executor.slot = none := (h.2.2 d).1

/-! ## Changes that keep a state still: to channels, the clock, the notices, choices and the queue of commands by definition -/

theorem setStation (i : Fin 4) {t : Station} (ht : t.quiet) : (s.setStation i t).still := by
  obtain ⟨engine, sweep, journal, running, upload, transmission, queue, printer, station⟩ := h.2.1 h.detached
  refine ⟨h.1, fun _ => ⟨engine, sweep, journal, running, upload, transmission, queue, printer, fun j => ?_⟩, h.2.2⟩
  by_cases hij : i = j
  · subst hij
    rwa [State.setStation_station_self]
  · rw [State.setStation_station_other s i j t hij]
    exact station j

theorem withLine {l : Line} (hl : l.transmission = s.line.transmission) : (s.withLine l).still := by
  obtain ⟨engine, sweep, journal, running, upload, transmission, printer⟩ := h.2.1 h.detached
  exact ⟨h.1, fun _ => ⟨engine, sweep, journal, running, upload, hl.trans transmission, printer⟩, h.2.2⟩

/-- A post while ANCHORING. -/
theorem posted (d : s.desk.state ≠ .unanchored) (a : Nat) : (s.withExecutor { s.executor with slot := some a }).still :=
  ⟨h.1, h.2.1, fun u => absurd u d⟩

theorem raise (c : Cause) : (s.raise c).still := h

/-! ## Nothing to do: no transaction, no order, no frame -/

theorem same : StillNext (.next s) := .next h

theorem busyWith (want : TxnKind → Bool) : s.busyWith want = none := by
  rw [State.busyWith, h.engine]
  rfl

theorem runTxn (want : TxnKind → Bool) (plan : State → Txn → Plan) : StillNext (s.runTxn want plan) := by
  rw [State.runTxn, h.busyWith]
  exact h.same

theorem orderAt (k : Nat) (w : OrderWait) : s.orderAt k w = none := by
  simp only [State.orderAt, State.currentOrder, Executor.current, h.running, Option.bind_none]

theorem runReport (kind : Nat) : StillNext (s.runReport kind) := by
  rw [State.runReport, h.orderAt]
  exact h.runTxn _ _

theorem acceptedFrame : s.acceptedFrame = none := by
  have deaf (f : CenterFrame) : Upload.reset.accepts f = false := by cases f <;> rfl
  unfold State.acceptedFrame
  split
  · rw [Option.filter_eq_none_iff, h.upload]
    exact fun f _ => by rw [deaf f]; exact Bool.false_ne_true
  · rfl

theorem writeField (group off v : Nat) : s.writeField group off v = s := by
  rw [State.writeField, h.1]
  rfl

/-- What a label does at a CLOSED station: it is counted. -/
theorem wandArrival (i : Fin 4) (l : Label) : (s.wandArrival i l).still := by
  have closed : (s.station i).mode = .closed := (h.station i).1
  rw [State.wandArrival, if_pos closed]
  exact h.setStation i (h.station i)

theorem repeatCheck (i : Fin 4) (l : Label) : (s.repeatCheck i l).still := by
  unfold State.repeatCheck
  dsimp only
  split
  · exact h.setStation i (h.station i)
  · refine State.still.wandArrival (h.setStation i ?_) i l
    exact h.station i

theorem discardFrame : s.discardFrame.still := by
  rw [State.discardFrame, State.count16, h.writeField]
  exact (h.raise .lineError).withLine s.line.resume_transmission

theorem dayChange : s.dayChange.still := by
  rw [State.dayChange, if_neg (by rw [h.1]; exact Bool.false_ne_true)]
  exact h.raise .dayChanged

theorem uploadMinute : s.uploadMinute = s := by
  have away : s.desk.state ≠ .opened := by
    rcases h.detached with d | d <;> rw [d] <;> decide
  rw [State.uploadMinute, if_neg fun x => away x.1]
  exact h.writeField _ _ _

theorem clockEvents (old : Clock) : (s.clockEvents old).still := by
  have changed : (if s.clock.day = old.day then s else s.dayChange).still := by
    split
    · exact h
    · exact h.dayChange
  unfold State.clockEvents
  dsimp only
  split
  · rw [changed.uploadMinute]
    exact changed
  · exact changed

theorem beginOctet : s.beginOctet = s := by rw [State.beginOctet, h.transmission]

theorem transmitBit : s.transmitBit.still := by
  unfold State.transmitBit
  split
  · exact h.withLine rfl
  · have ended : (s.withLine { s.line with octet := [] }).still := h.withLine rfl
    rw [ended.beginOctet]
    exact ended

theorem tick : s.tick.still := by
  have idle : s.transmitBit.upload.asking = false := by rw [h.transmitBit.upload]; rfl
  rw [State.tick, idle]
  exact h.transmitBit

/-! ## The commands with a step of their own -/

theorem execDecodeComplete (wand : Fin 4) : StillNext (execDecodeComplete wand s) := by
  unfold Machine.execDecodeComplete
  dsimp only
  split
  · split
    · exact .next h
    · exact .next (State.still.repeatCheck (s := s.setChannel wand _) h wand _)
  · exact h.same

theorem execOutcomeBufferEnter (i : Fin 4) : StillNext (execOutcomeBufferEnter i s) := by
  have none_waits : (s.station i).waiting = [] := by
    obtain ⟨_, _, _, _, _, _, _, waiting, _⟩ := h.station i
    exact waiting
  rw [Machine.execOutcomeBufferEnter, none_waits]
  exact h.same

theorem execIdleDeadlineExpire (i : Fin 4) : StillNext (execIdleDeadlineExpire i s) := by
  have unarmed : (s.station i).deadline = none := by
    obtain ⟨_, _, _, _, _, deadline, _⟩ := h.station i
    exact deadline
  rw [Machine.execIdleDeadlineExpire, unarmed]
  exact h.same

theorem execToneStepEnd (i : Fin 4) : StillNext (execToneStepEnd i s) := by
  unfold Machine.execToneStepEnd
  dsimp only
  split
  · exact h.same
  · exact .next (h.setStation i (h.station i))

theorem execListStart : StillNext (execListStart s) := by
  unfold Machine.execListStart
  rw [h.running, h.1]
  split
  · exact h.same
  · exact h.same

theorem execWorklistWrite (value : RegWord) : StillNext (execWorklistWrite value s) := by
  have posts (d : s.desk.state ≠ .unanchored) : (s.post value.toNat).still := by
    rw [State.post, h.1, if_neg Bool.false_ne_true]
    split
    · exact h.raise .memoryFault
    · exact h.posted d _
  unfold Machine.execWorklistWrite
  split
  · exact h.same
  · split
    · exact .next (h.raise .postLost)
    · next free => exact .next (posts fun d => free (.inl d))

theorem execStrayFrame : StillNext (execStrayFrame s) := by
  unfold Machine.execStrayFrame
  split
  · rw [State.countReport, State.count16, h.writeField]
    exact .ite (.next (h.withLine s.line.resume_transmission)) h.same
  · exact h.same

theorem execFrameDiscard : StillNext (execFrameDiscard s) := by
  unfold Machine.execFrameDiscard
  split
  · exact .next h.discardFrame
  · exact h.same

theorem execFrameGapTimeout : StillNext (execFrameGapTimeout s) := by
  unfold Machine.execFrameGapTimeout
  split
  · exact .next h.discardFrame
  · exact h.same

theorem execLineRdyChange (high : Bool) : StillNext (execLineRdyChange high s) := by
  have unwatched : { s.upload with watch := !high && s.upload.state != .idle } = s.upload := by
    rw [h.upload]
    cases high <;> rfl
  rw [Machine.execLineRdyChange, unwatched]
  exact .ite h.same (.next (h.withLine rfl))

/-! ## Every command -/

/-- Each command finds nothing to do in a still state, or leaves it still; ANCHORING_END and a restart apart. -/
theorem exec (c : Instr) (hc : ¬ restarts c) (ha : c ≠ .anchoringEnd) : StillNext (exec c s) := by
  have undone {x} (hx : x = .next s) : StillNext x := hx ▸ h.same
  cases c with
  | powerOn _ => exact absurd trivial hc
  | anchorWrite _ _ => exact absurd trivial hc
  | anchoringEnd => exact absurd rfl ha
  | worklistWrite v => exact h.execWorklistWrite v
  | noticeWrite _ => exact .ite (.next h) h.same
  | ceilingWrite _ => exact .next h
  | stateWrite _ => exact h.same
  | elementEnd _ _ => exact .next h
  | quietZoneBegin _ _ => exact .next h
  | decodeComplete wand => exact h.execDecodeComplete wand
  | repeatTimerExpire i => exact .next (h.setStation i (h.station i))
  | counterMirrorWrite => exact undone (if_neg (by rw [h.1]; exact Bool.false_ne_true))
  | slateOutcomeWrite => exact undone (if_neg (by rw [h.1]; exact Bool.false_ne_true))
  | outcomeBufferEnter i => exact h.execOutcomeBufferEnter i
  | idleDeadlineExpire i => exact h.execIdleDeadlineExpire i
  | toneStepEnd i => exact h.execToneStepEnd i
  | tonePeriodEnd i => exact .ite (.next (h.setStation i (h.station i))) h.same
  | engineGrant => exact undone (if_neg (by rw [h.1]; exact fun x => Bool.false_ne_true x.1))
  | listStart => exact h.execListStart
  | orderTakeUp => exact undone (by simp only [Machine.exec, execOrderTakeUp, h.running])
  | endList => exact undone (by simp only [Machine.exec, execEndList, h.orderAt])
  | setStationMode => exact undone (by simp only [Machine.exec, execSetStationMode, h.orderAt])
  | modeChangeFinish => exact undone (by simp only [Machine.exec, execModeChangeFinish, h.orderAt])
  | keyedLabel => exact undone (by simp only [Machine.exec, execKeyedLabel, h.orderAt])
  | keyedLabelEnter => exact undone (by simp only [Machine.exec, execKeyedLabelEnter, h.orderAt])
  | reloadRules => exact undone (by simp only [Machine.exec, execReloadRules, h.orderAt])
  | reloadSettings => exact undone (by simp only [Machine.exec, execReloadSettings, h.orderAt])
  | releasePages => exact undone (by simp only [Machine.exec, execReleasePages, h.orderAt])
  | printText => exact undone (by simp only [Machine.exec, execPrintText, h.orderAt])
  | startUpload => exact undone (by simp only [Machine.exec, execStartUpload, h.orderAt])
  | abortUpload => exact undone (by simp only [Machine.exec, execAbortUpload, h.orderAt])
  | clockSecond => exact .ite (.next (State.still.clockEvents (s := s.withClock s.clock.tick) h _)) h.same
  | centerNotice => exact h.runTxn _ fun s t => planNotice s t t.notice
  | uploadStarted => exact undone (by simp only [Machine.exec, execUploadStarted, h.busyWith])
  | frameSent => exact undone (by simp only [Machine.exec, execFrameSent, h.transmission])
  | takenFrame => exact undone (by simp only [Machine.exec, execTakenFrame, h.acceptedFrame])
  | refusedFrame => exact undone (by simp only [Machine.exec, execRefusedFrame, h.acceptedFrame])
  | noticeFrame => exact undone (by simp only [Machine.exec, execNoticeFrame, h.acceptedFrame])
  | finishedFrame => exact undone (by simp only [Machine.exec, execFinishedFrame, h.acceptedFrame])
  | strayFrame => exact h.execStrayFrame
  | frameDiscard => exact h.execFrameDiscard
  | frameGapTimeout => exact h.execFrameGapTimeout
  | receiveQueueOverrun => exact .ite h.same (.next (h.withLine (Line.lose_transmission _)))
  | replyTimeout => exact undone (by simp only [Machine.exec, execReplyTimeout, h.upload, Upload.reset])
  | noticeTimeout => exact undone (by simp [Machine.exec, execNoticeTimeout, h.upload, Upload.reset])
  | lineRdyChange high => exact h.execLineRdyChange high
  | lineDownTimeout => exact undone (by simp [Machine.exec, execLineDownTimeout, h.upload, Upload.reset])
  | dotLineRendered => exact undone (by simp [Machine.exec, execDotLineRendered, h.queue])
  | dotLineStart => exact undone (by simp [Machine.exec, execDotLineStart, h.printer])
  | dotLineFed => exact undone (by simp [Machine.exec, execDotLineFed, h.printer])
  | paperSensorChange _ => exact .ite h.same (.next h)
  | paperTimerExpire => exact undone (by simp [Machine.exec, execPaperTimerExpire, h.printer])
  | octetReceived _ _ => exact .next (h.withLine (Line.receive_transmission _ _ _))
  | reportOverdue => exact h.runReport _
  | reportBorrowerLoans => exact h.runReport _
  | reportHoldShelf => exact h.runReport _
  | sessionOpen | sessionRefresh | noBorrower | wrongLabel | checkout | renewal | returnItem | borrowerInquiry | itemInquiry
  | formatTables | addBorrower | updateBorrower | removeBorrower | setBlock | clearBlock | payFine | adjustFine
  | declareLost | withdraw | release | setClock | placeHold | cancelHold | pagesReleased | daySweepStep
  | uploadEnded => exact h.runTxn _ _

end State.still

/-! ## The end of anchoring, and the restarts -/

theorem State.closeAbandoned_attached {s : State} (h : s.attached = true) : s.closeAbandoned.attached = true :=
  State.attached_of_desk h s.closeAbandoned_desk

theorem State.openDesk_attached (s : State) (view : Journal) (rules : Rules) (settings : Settings) :
    (s.openDesk view rules settings).attached = true := by
  unfold State.openDesk
  dsimp only
  split <;> rfl

/-- A failed first step: UNANCHORED, and no list held (R196, R201). -/
theorem State.still.anchorFails {s : State} (h : s.still) (r : StateReason) : (s.anchorFails r).quiet := by
  have parts := h.2.1 h.detached
  unfold State.anchorFails State.raiseIf
  split
  · exact ⟨fun _ => parts, fun _ => ⟨rfl, rfl⟩⟩
  · exact ⟨fun _ => parts, fun _ => ⟨rfl, rfl⟩⟩

theorem State.still.execAnchoringEnd {s : State} (h : s.still) : QuietNext (execAnchoringEnd s) := by
  unfold Machine.execAnchoringEnd
  dsimp only
  split
  · split
    · exact .next (h.anchorFails _)
    · exact .next (State.quiet_of_attached (State.closeAbandoned_attached (State.enterHalted_attached _ _)))
    · exact .next (State.quiet_of_attached (State.closeAbandoned_attached (State.openDesk_attached _ _ _ _)))
  · exact .next h.2

theorem Station.restart_quiet (t : Station) : t.restart.quiet := ⟨rfl, rfl, rfl, rfl, rfl, rfl, rfl, rfl, rfl⟩

/-- Every block but the executor is as a restart leaves it, and of the executor no list runs; a write of 0 forgets the abandoned
list too (R195, R201). -/
theorem State.restart_quiet (s : State) (a : Nat) : (s.restart a).quiet := by
  have stations (i : Fin 4) : ((s.restart a).station i).quiet := s.restart_station a i ▸ (s.station i).restart_quiet
  obtain ⟨v, blocks⟩ := s.restart_eq a
  rw [blocks] at stations ⊢
  refine ⟨fun _ => ⟨rfl, rfl, rfl, rfl, rfl, rfl, rfl, rfl, stations⟩, fun d => ⟨rfl, ?_⟩⟩
  have detached : a = 0 := by
    by_contra ha
    have d : (s.desk.anchorWritten a).state = .unanchored := d
    rw [Desk.anchorWritten, if_neg ha] at d
    cases d
  subst detached
  rfl

theorem exec_quiet (c : Instr) {s : State} (h : s.quiet) : QuietNext (exec c s) := by
  by_cases hc : restarts c
  · cases c with
    | powerOn _ =>
      exact .next ⟨fun _ => ⟨rfl, rfl, rfl, rfl, rfl, rfl, rfl, rfl, fun i => State.reset_station i ▸ Station.quiet_reset⟩,
        fun _ => ⟨rfl, rfl⟩⟩
    | anchorWrite v _ => exact .next (State.restart_quiet _ _)
    | _ => exact hc.elim
  · cases ha : s.attached with
    | true => exact fun t ht => State.quiet_of_attached (exec_attached c ha hc t ht)
    | false =>
      have still : s.still := ⟨ha, h⟩
      by_cases hend : c = .anchoringEnd
      · rw [hend]
        exact still.execAnchoringEnd
      · exact (still.exec c hc hend).quiet

theorem State.tick_quiet {s : State} (h : s.quiet) : s.tick.quiet := by
  cases ha : s.attached with
  | true => exact State.quiet_of_attached (State.attached_of_desk ha s.tick_desk)
  | false => exact (State.still.tick ⟨ha, h⟩).2

/-- Settles O58: an attached desk stays attached, and a quiet one that is not attached stays quiet, until a restart or the end of
anchoring, which leave it quiet or attached. -/
theorem stepsKeepADeskQuiet : Obligations.StepsKeepADeskQuiet := by
  intro s t h hst
  unfold step at hst
  split at hst
  · exact QuietNext.next (State.tick_quiet h) t hst
  · next c rest _ => exact exec_quiet c (s := s.withPending rest) h t hst

end Sys2Proof.Machine
end

section
/-! PROOF. The labels that change no table (R92, R103, R104): what each read phase finds, and what it answers. -/

namespace Sys2Proof.Machine

theorem Txn.blocked_borrower {s : State} {t : Txn} {n : Nat} (h : t.names .borrower n) (set : Blocks) :
    Plan.only (.station (t.blocked s set)) = stationBlocked set n 0 := by
  obtain ⟨l, hl, hk, hn⟩ := h
  simp [Txn.blocked, Txn.refusal, Txn.labelNumber, hl, hk, hn, stationBlocked, stationAnswer, Plan.only]

/-- An inquiry meets the halt gate alone (R90). -/
theorem Txn.gate_inquiry {t : Txn} (h : t.halted = false) : t.gate .none false = none := by
  simp [Txn.gate, h, RoomClass.allows]

section Read

variable {s : State} {t : Txn} {n : Nat}

/-! ## Sessions and wrong labels -/

theorem planSessionOpen_absent {st : Stamp} (hn : t.names .borrower n) (ha : t.admitted st 0) (hb : s.headerGood .borrower)
    (hj : s.tables.lookup .borrower n = .ok none) : planSessionOpen s t = stationRefused .unknownBorrower n 0 := by
  simp only [planSessionOpen, Txn.gated, Txn.gate_none ha, hb.touch, Except.ok_bind', Txn.names_number hn, hj, planOf_pure]
  exact Txn.refuse_borrower hn _

theorem planSessionOpen_found {st : Stamp} (hn : t.names .borrower n) (ha : t.admitted st 0) (hb : s.headerGood .borrower)
    {j : Nat} (hj : s.tables.lookup .borrower n = .ok (some j)) :
    let set := (s.tables.borrower j).blocks t.rules (some st)
    (set.any = true → planSessionOpen s t = stationBlocked set n 0) ∧
    (set.any = false → planSessionOpen s t = stationAnswer
      { refused := false, reason := .sessionOpened, borrower := n, opens := some { number := n, index := j } }) := by
  refine ⟨fun hset => ?_, fun hset => ?_⟩
  · simp only [planSessionOpen, Txn.gated, Txn.gate_none ha, hb.touch, Except.ok_bind', Txn.names_number hn, hj, ha.2.1, hset,
      if_true, planOf_pure]
    exact Txn.blocked_borrower hn _
  · simp only [planSessionOpen, Txn.gated, Txn.gate_none ha, hb.touch, Except.ok_bind', Txn.names_number hn, hj, ha.2.1, hset,
      Bool.false_eq_true, if_false, planOf_pure]
    rfl

theorem planSessionRefresh_answers {st : Stamp} {i : Fin 4} {se : Session} (hr : t.requester = .station i)
    (ha : t.admitted st 0) (hse : (s.station i).session = some se) :
    planSessionRefresh s t = stationAnswer { refused := false, reason := .sessionOpened, borrower := se.number } := by
  simp only [planSessionRefresh, Txn.gated, Txn.gate_none ha, planOf_pure, Txn.session_eq hr hse]
  rfl

/-! ## Inquiries -/

theorem planBorrowerInquiry_absent (hn : t.names .borrower n) (hh : t.halted = false) (hb : s.headerGood .borrower)
    (hj : s.tables.lookup .borrower n = .ok none) : planBorrowerInquiry s t = stationRefused .unknownBorrower n 0 := by
  simp only [planBorrowerInquiry, Txn.gated, Txn.gate_inquiry hh, hb.touch, Except.ok_bind', Txn.names_number hn, hj,
    planOf_pure]
  exact Txn.refuse_borrower hn _

theorem planBorrowerInquiry_found (hn : t.names .borrower n) (hh : t.halted = false) (hb : s.headerGood .borrower) {j : Nat}
    (hj : s.tables.lookup .borrower n = .ok (some j)) :
    let b := s.tables.borrower j
    planBorrowerInquiry s t = stationAnswer
      { refused := false, reason := .inquiryBorrower, borrower := n, due := { day := b.expiry, minute := b.loans },
        fine := b.fines, blocks := b.blocks t.rules t.stamp } := by
  simp only [planBorrowerInquiry, Txn.gated, Txn.gate_inquiry hh, hb.touch, Except.ok_bind', Txn.names_number hn, hj,
    planOf_pure]
  rfl

theorem planItemInquiry_absent (hn : t.names .item n) (hh : t.halted = false) (hi : s.headerGood .item)
    (hj : s.tables.lookup .item n = .ok none) : planItemInquiry s t = itemInquiryResult t 0 .zero 0 .onShelf := by
  simp only [planItemInquiry, Txn.gated, Txn.gate_inquiry hh, hi.touch, Except.ok_bind', Txn.names_number hn, hj, planOf_pure]

/-- The inquiry about a WITHDRAWN item does not look at the borrower table (R104). -/
theorem planItemInquiry_withdrawn (hn : t.names .item n) (hh : t.halted = false) (hi : s.headerGood .item) {j : Nat}
    (hj : s.tables.lookup .item n = .ok (some j)) (hs : (s.tables.item j).state = some .withdrawn) :
    planItemInquiry s t = itemInquiryResult t 0 .zero 0 .withdrawn := by
  simp only [planItemInquiry, itemInquiryOf, Txn.gated, Txn.gate_inquiry hh, hi.touch, Except.ok_bind', Txn.names_number hn, hj,
    hs, if_true, planOf_pure]

/-- Of any other item it answers what the table of R104 gives. -/
theorem planItemInquiry_found (hn : t.names .item n) (hh : t.halted = false) (hi : s.headerGood .item)
    (hb : s.headerGood .borrower) {j : Nat} (hj : s.tables.lookup .item n = .ok (some j))
    (hs : (s.tables.item j).state ≠ some .withdrawn) :
    planItemInquiry s t = planOf (t.abandoned s) (itemInquiryOf t s.tables j) := by
  simp only [planItemInquiry, Txn.gated, Txn.gate_inquiry hh, hi.touch, Except.ok_bind', Txn.names_number hn, hj, hs, if_false,
    hb.touch_tables]

/-- The table of R104, by the state of the record. -/
theorem itemInquiryOf_states (t : Txn) (d : Draft) (j : Nat) :
    let r := d.item j
    (∀ b, r.state = some .onLoan → d.itemBorrower j = .ok b →
      itemInquiryOf t d j = .ok (itemInquiryResult t b.number r.due (inquiryFine t r b) .onLoan)) ∧
    (∀ b, r.state = some .lost → d.itemBorrower j = .ok b →
      itemInquiryOf t d j = .ok (itemInquiryResult t b.number .zero 0 .lost)) ∧
    (∀ b, r.state = some .onHoldShelf → d.holdBorrower j 0 r.head = .ok b →
      itemInquiryOf t d j = .ok (itemInquiryResult t b.number { day := r.deadline, minute := 1439 } 0 .onHoldShelf)) ∧
    (∀ b, r.state = some .onShelf → d.holdBorrower j 0 r.head = .ok b →
      itemInquiryOf t d j = .ok (itemInquiryResult t b.number .zero 0 .onShelf)) := by
  refine ⟨?_, ?_, ?_, ?_⟩
  all_goals
    intro b hs hb
    simp only [itemInquiryOf, hs, hb, Except.ok_bind']
    rfl

end Read

/-- Settles O15. -/
theorem quietLabelsAreAnswered : Obligations.QuietLabelsAreAnswered := by
  intro s t i n hengaged hr
  have answers {want : TxnKind → Bool} {plan : State → Txn → Plan} {x : StationResult} (hw : want t.kind = true)
      (hp : plan s t = stationAnswer x) : s.runTxn want plan = .next (s.conclude t (stationAnswer x)) :=
    State.runTxn_plan hengaged want plan _ hw hp rfl
  refine ⟨fun c st hk hn ha hb => ⟨fun hj => ?_, fun j hj => ?_⟩, fun st se hk ha hse => ?_, fun st hk hn ha hse => ?_,
    fun st hk hn ha => ?_, fun hk hn hh hb => ⟨fun hj => ?_, fun j hj => ?_⟩, fun hk hn hh hi => ?_⟩
  · exact answers (by rw [hk]) (planSessionOpen_absent hn ha hb hj)
  · obtain ⟨blocked, opened⟩ := planSessionOpen_found hn ha hb hj
    exact ⟨fun hset => answers (by rw [hk]) (blocked hset), fun hset => answers (by rw [hk]) (opened hset)⟩
  · exact answers (by rw [hk]; rfl) (planSessionRefresh_answers hr ha hse)
  · refine answers (by rw [hk]; rfl) ?_
    simp only [planNoBorrower, Txn.gated, Txn.gate_none ha, planOf_pure]
    exact Txn.refuse_item_alone hn hr hse _
  · refine answers (by rw [hk]; rfl) ?_
    simp only [planWrongLabel, Txn.gated, Txn.gate_none ha, planOf_pure]
    exact Txn.refuse_borrower hn _
  · exact answers (by rw [hk]; rfl) (planBorrowerInquiry_absent hn hh hb hj)
  · exact answers (by rw [hk]; rfl) (planBorrowerInquiry_found hn hh hb hj)
  · intro answer
    have inquired {borrower fine : Nat} {due : Stamp} {x : ItemState}
        (hp : planItemInquiry s t = itemInquiryResult t borrower due fine x) :
        exec .itemInquiry s = answer borrower due fine x := by
      refine answers (by rw [hk]; rfl) (hp.trans ?_)
      rw [itemInquiryResult, Txn.names_number hn]
      rfl
    refine ⟨fun hj => inquired (planItemInquiry_absent hn hh hi hj), fun j hj => ?_⟩
    have found {borrower fine : Nat} {due : Stamp} {x : ItemState} (hb : s.headerGood .borrower)
        (hs : (s.tables.item j).state ≠ some .withdrawn)
        (hp : itemInquiryOf t s.tables j = .ok (itemInquiryResult t borrower due fine x)) :
        exec .itemInquiry s = answer borrower due fine x :=
      inquired ((planItemInquiry_found hn hh hi hb hj hs).trans (congrArg _ hp))
    obtain ⟨onLoan, lost, onHoldShelf, onShelf⟩ := itemInquiryOf_states t s.tables j
    refine ⟨fun hs => inquired (planItemInquiry_withdrawn hn hh hi hj hs), fun b hs hb hitem => ?_, fun b hs hb hitem => ?_,
      fun b hs hb hhold => ?_, fun b hs hb hhold => ?_⟩
    · exact found hb (by rw [hs]; decide) (onLoan b hs hitem)
    · exact found hb (by rw [hs]; decide) (lost b hs hitem)
    · exact found hb (by rw [hs]; decide) (onHoldShelf b hs hhold)
    · exact found hb (by rw [hs]; decide) (onShelf b hs hhold)

end Sys2Proof.Machine
end

section
/-! PROOF. A checkout (R93 to R95): the checks in their order, then the loan of a new record or of the borrower's own hold. -/

namespace Sys2Proof.Machine

theorem Txn.blocked_item {s : State} {t : Txn} {i : Fin 4} {n : Nat} {se : Session} (h : t.names .item n)
    (hr : t.requester = .station i) (hs : (s.station i).session = some se) (set : Blocks) :
    Plan.only (.station (t.blocked s set)) = stationBlocked set se.number n := by
  obtain ⟨l, hl, hk, hn⟩ := h
  simp [Txn.blocked, Txn.refusal, Txn.labelNumber, Txn.stationContext, hl, hk, hn, hr, hs, stationBlocked, stationAnswer,
    Plan.only]

/-! ## Checks 4 to 6 of R93 -/

section Checks

variable {s : State} {t : Txn} {d : Draft} {b : BorrowerRecord} {p : PolicyEntry}

/-- Check 5: the loan limit. -/
theorem checkoutPass_loanLimit (h : (t.rules.borrowerClass b.cls).loanLimit ≤ b.loans) (found : Option Nat) :
    checkoutPass s t d b found p = .ok (t.refuse s .loanLimit) := if_pos h

/-- Check 6: a new record needs one of the free list. -/
theorem checkoutPass_tableFull (h : b.loans < (t.rules.borrowerClass b.cls).loanLimit) (hfree : d.takeFree .item = .ok none) :
    checkoutPass s t d b none p = .ok (t.refuse s .tableFull) := by
  rw [checkoutPass, if_neg (Nat.not_le.2 h)]
  simp only [checkoutNew, hfree, Except.ok_bind']
  rfl

theorem checkoutPass_new (h : b.loans < (t.rules.borrowerClass b.cls).loanLimit) {j next : Nat}
    (hfree : d.takeFree .item = .ok (some (j, next))) :
    let due := t.rules.dueStamp p t.at b.expiry
    checkoutPass s t d b none p = .ok (checkoutPlan s t
      (d.insertItem j next ((ItemRecord.fresh t.labelNumber (t.rules.classOfNumber t.labelNumber) .onLoan).lent
        (t.session s).index t.at.day due [])) b due false false) := by
  rw [checkoutPass, if_neg (Nat.not_le.2 h)]
  simp only [checkoutNew, hfree, Except.ok_bind']
  rfl

/-- The borrower's own hold on an item that is not on the hold shelf's list. -/
theorem checkoutPass_fulfils (h : b.loans < (t.rules.borrowerClass b.cls).loanLimit) {j : Nat}
    (hs : (d.item j).state = some .onShelf) :
    let due := t.rules.dueStamp p t.at b.expiry
    checkoutPass s t d b (some j) p = .ok (checkoutPlan s t
      (d.putItem j ((d.item j).lent (t.session s).index t.at.day due (d.item j).queue.tail)) b due true false) := by
  rw [checkoutPass, if_neg (Nat.not_le.2 h)]
  simp only [checkoutHeld, hs]
  rfl

/-- The borrower's own hold on an item of the hold shelf, which leaves the list (R54). -/
theorem checkoutPass_takes (h : b.loans < (t.rules.borrowerClass b.cls).loanLimit) {j : Nat} {d1 : Draft}
    (hs : (d.item j).state = some .onHoldShelf) (hremove : d.shelfRemove j = .ok d1) :
    let due := t.rules.dueStamp p t.at b.expiry
    checkoutPass s t d b (some j) p = .ok (checkoutPlan s t
      (d1.putItem j ((d1.item j).lent (t.session s).index t.at.day due (d.item j).queue.tail)) b due true true) := by
  rw [checkoutPass, if_neg (Nat.not_le.2 h)]
  simp only [checkoutHeld, hs, beq_self_eq_true, if_true, hremove, Except.ok_bind']
  rfl

/-- Check 4 of an item with a record. -/
theorem checkoutState_found (s : State) (t : Txn) (d : Draft) (b : BorrowerRecord) (j : Nat) (p : PolicyEntry) :
    let r := d.item j
    let mine := (t.session s).index
    (r.state = some .onLoan → r.borrower = mine → checkoutState s t d b (some j) p = .ok (renewalFromPolicy s t d j b)) ∧
    (r.state = some .onLoan → r.borrower ≠ mine →
      checkoutState s t d b (some j) p = .ok (t.refuse s .onLoanElsewhere)) ∧
    (r.state = some .lost → checkoutState s t d b (some j) p = .ok (t.refuse s .itemLost)) ∧
    (r.state = some .withdrawn → checkoutState s t d b (some j) p = .ok (t.refuse s .itemWithdrawn)) ∧
    (r.state = some .onShelf ∨ r.state = some .onHoldShelf → r.head ≠ mine →
      checkoutState s t d b (some j) p = .ok (t.refuse s .heldForOther)) ∧
    (r.state = some .onShelf ∨ r.state = some .onHoldShelf → r.head = mine →
      checkoutState s t d b (some j) p = checkoutPass s t d b (some j) p) := by
  refine ⟨fun hs hm => ?_, fun hs hm => ?_, fun hs => ?_, fun hs => ?_, fun hs hm => ?_, fun hs hm => ?_⟩
  · simp only [checkoutState, hs, hm, if_true]
    rfl
  · simp only [checkoutState, hs, hm, if_false]
    rfl
  · simp only [checkoutState, hs]
    rfl
  · simp only [checkoutState, hs]
    rfl
  · rcases hs with hs | hs
    · simp only [checkoutState, hs, hm, if_false]
      rfl
    · simp only [checkoutState, hs, hm, if_false]
      rfl
  · rcases hs with hs | hs
    · simp only [checkoutState, hs, hm, if_true]
    · simp only [checkoutState, hs, hm, if_true]

end Checks

/-! ## The read phase -/

section Read

variable {s : State} {t : Txn} {i : Fin 4} {n : Nat} {st : Stamp} {se : Session} (hr : t.requester = .station i)
  (hn : t.names .item n) (ha : t.admitted st 65) (hse : (s.station i).session = some se) (hb : s.headerGood .borrower)
include hr hn ha hse hb

/-- Check 1: the session borrower's record is no longer that borrower's (R45). -/
theorem planCheckout_stranger (hnone : s.tables.sessionBorrower se = none) :
    planCheckout s t = stationRefused .unknownBorrower se.number n := by
  simp only [planCheckout, Txn.gated, Txn.gate_aboveReserve ha, hb.touch, Except.ok_bind', Txn.session_eq hr hse, hnone,
    planOf_pure]
  exact Txn.refuse_item hn hr hse _

section Borrower

variable {b : BorrowerRecord} (hmine : s.tables.sessionBorrower se = some b)
include hmine

/-- Check 2: the session borrower's blocks. -/
theorem planCheckout_blocked (hset : (b.blocks t.rules (some st)).any = true) :
    planCheckout s t = stationBlocked (b.blocks t.rules (some st)) se.number n := by
  simp only [planCheckout, Txn.gated, Txn.gate_aboveReserve ha, hb.touch, Except.ok_bind', Txn.session_eq hr hse, hmine,
    ha.2.1, hset, if_true, planOf_pure]
  exact Txn.blocked_item hn hr hse _

variable (hset : (b.blocks t.rules (some st)).any = false) (hi : s.headerGood .item) {found : Option Nat}
  (hfound : s.tables.lookup .item n = .ok found)
include hset hi hfound

/-- Check 3: the policy of the item's class for the borrower's. -/
theorem planCheckout_notLoanable
    (hp : (t.rules.policyEntry (s.tables.classOf t.rules n found) b.cls).kind = .none) :
    planCheckout s t = stationRefused .notLoanable se.number n := by
  simp only [planCheckout, Txn.gated, Txn.gate_aboveReserve ha, hb.touch, Except.ok_bind', Txn.session_eq hr hse, hmine,
    ha.2.1, hset, Bool.false_eq_true, if_false, hi.touch_tables, Txn.names_number hn, hfound, hp, if_true, planOf_pure]
  exact Txn.refuse_item hn hr hse _

/-- An item that may be loaned goes on to check 4. -/
theorem planCheckout_loanable
    (hp : (t.rules.policyEntry (s.tables.classOf t.rules n found) b.cls).kind ≠ .none) :
    planCheckout s t = planOf (t.abandoned s)
      (checkoutState s t s.tables b found (t.rules.policyEntry (s.tables.classOf t.rules n found) b.cls)) := by
  simp only [planCheckout, Txn.gated, Txn.gate_aboveReserve ha, hb.touch, Except.ok_bind', Txn.session_eq hr hse, hmine,
    ha.2.1, hset, Bool.false_eq_true, if_false, hi.touch_tables, Txn.names_number hn, hfound, hp]

end Borrower

end Read

/-- Settles O16. -/
theorem checkoutLends : Obligations.CheckoutLends := by
  intro s t i n st se hengaged hr hk hn ha hse hb hi d answer refused
  have hanswer {p : Plan} (hp : planCheckout s t = p) (hf : p.fault = none) : answer p :=
    State.runTxn_plan hengaged _ _ _ (by rw [hk]; rfl) hp hf
  refine ⟨fun hnone => hanswer (planCheckout_stranger hr hn ha hse hb hnone) rfl,
    fun b hmine hset => hanswer (planCheckout_blocked hr hn ha hse hb hmine hset) rfl, ?_⟩
  intro b found hmine hset hfound cls pol due borrower lent
  have hcls : cls = s.tables.classOf t.rules n found := by cases found <;> rfl
  have hpol : t.rules.policyEntry (s.tables.classOf t.rules n found) b.cls = pol := by rw [← hcls]
  have hread (hp : pol.kind ≠ .none) {p : Plan} (hstate : checkoutState s t d b found pol = .ok p) (hf : p.fault = none) :
      answer p := by
    have loanable := planCheckout_loanable hr hn ha hse hb hmine hset hi hfound (by rwa [hpol])
    rw [hpol] at loanable
    exact hanswer (loanable.trans (congrArg _ hstate)) hf
  have hrefused (hp : pol.kind ≠ .none) {r : Reason} (hstate : checkoutState s t d b found pol = .ok (t.refuse s r)) :
      refused r := by
    have hplan : checkoutState s t d b found pol = .ok (stationRefused r se.number n) := by
      rw [hstate, Txn.refuse_item hn hr hse]
    exact hread hp hplan rfl
  have hlent (d1 : Draft) (fulfils shelf : Bool) :
      checkoutPlan s t d1 b due fulfils shelf = lent d1 (if fulfils then b.holds - 1 else b.holds) fulfils shelf := by
    simp only [checkoutPlan, Txn.entry, hr, Txn.at_admitted ha, Txn.names_number hn, Txn.session_eq hr hse, Txn.marks_eq]
    rfl
  refine ⟨fun hp => hanswer (planCheckout_notLoanable hr hn ha hse hb hmine hset hi hfound (by rwa [hpol])) rfl, ?_, ?_⟩
  · rintro hp rfl
    refine ⟨fun hlimit => hrefused hp (checkoutPass_loanLimit hlimit none),
      fun hlimit => ⟨fun hfree => ?_, fun j next hfree => ?_⟩⟩
    · exact hrefused hp (checkoutPass_tableFull hlimit hfree)
    · have lends := checkoutPass_new (s := s) (p := pol) hlimit hfree
      rw [Txn.at_admitted ha, Txn.names_number hn, Txn.session_eq hr hse] at lends
      exact hread hp (lends.trans (congrArg _ (hlent _ _ _))) rfl
  · rintro j hp rfl r out
    obtain ⟨-, elsewhere, lost, withdrawn, heldForOther, passes⟩ := checkoutState_found s t d b j pol
    rw [Txn.session_eq hr hse] at elsewhere heldForOther passes
    refine ⟨fun hs hm => hrefused hp (elsewhere hs hm), fun hs => hrefused hp (lost hs), fun hs => hrefused hp (withdrawn hs),
      fun hs hm => hrefused hp (heldForOther hs hm),
      fun hs hm hlimit => hrefused hp ((passes hs hm).trans (checkoutPass_loanLimit hlimit _)), fun hs hm hlimit => ?_,
      fun d1 hs hm hlimit hremove => ?_⟩
    · have lends := checkoutPass_fulfils (s := s) (p := pol) hlimit hs
      rw [Txn.at_admitted ha, Txn.session_eq hr hse] at lends
      exact hread hp ((passes (.inl hs) hm).trans (lends.trans (congrArg _ (hlent _ _ _)))) rfl
    · have lends := checkoutPass_takes (s := s) (p := pol) hlimit hs hremove
      rw [Txn.at_admitted ha, Txn.session_eq hr hse] at lends
      exact hread hp ((passes (.inr hs) hm).trans (lends.trans (congrArg _ (hlent _ _ _)))) rfl

end Sys2Proof.Machine
end

section
/-! PROOF. A renewal (R96 to R98), asked for in RENEW or reached by a checkout: one commit for both. -/

namespace Sys2Proof.Machine

/-! ## The checks of R97 from its check 2 -/

section Checks

variable {s : State} {t : Txn} {d : Draft} {j : Nat} {b : BorrowerRecord}

theorem renewalFromPolicy_notLoanable (hp : (t.rules.policyEntry (d.item j).itemClass b.cls).kind = .none) :
    renewalFromPolicy s t d j b = t.refuse s .notLoanable := if_pos hp

variable (hp : (t.rules.policyEntry (d.item j).itemClass b.cls).kind ≠ .none)
include hp

theorem renewalFromPolicy_holdsWaiting (hq : (d.item j).queue ≠ []) :
    renewalFromPolicy s t d j b = t.refuse s .holdsWaiting := (if_neg hp).trans (if_pos hq)

variable (hq : (d.item j).queue = [])
include hq

theorem renewalFromPolicy_renewLimit
    (hl : (t.rules.policyEntry (d.item j).itemClass b.cls).renewLimit ≤ (d.item j).renewCount) :
    renewalFromPolicy s t d j b = t.refuse s .renewLimit :=
  (if_neg hp).trans ((if_neg (not_not.2 hq)).trans (if_pos hl))

theorem renewalFromPolicy_renews
    (hl : (d.item j).renewCount < (t.rules.policyEntry (d.item j).itemClass b.cls).renewLimit) :
    renewalFromPolicy s t d j b
      = renewalCommit s t d j b (t.rules.policyEntry (d.item j).itemClass b.cls) :=
  (if_neg hp).trans ((if_neg (not_not.2 hq)).trans (if_neg (Nat.not_le.2 hl)))

end Checks

/-- The flags the calendar sets; RENEWED and HOLD_FULFILLED it leaves to the engine (R119 to R122). -/
def DueFlags.ofCalendar (f : DueFlags) : Prop :=
  f = { DueFlags.empty with hourLoan := f.hourLoan, clamped := f.clamped, limited := f.limited }

theorem dueDays_ofCalendar (rules : Rules) (st : Stamp) (period expiry : Nat) :
    (rules.dueDays st period expiry).flags.ofCalendar := by
  unfold Rules.dueDays
  dsimp only
  split <;> rfl

theorem dueHours_ofCalendar (rules : Rules) (st : Stamp) (period expiry : Nat) :
    (rules.dueHours st period expiry).flags.ofCalendar := by
  unfold Rules.dueHours
  dsimp only
  split
  · split <;> rfl
  · rfl

theorem dueStamp_ofCalendar (rules : Rules) (p : PolicyEntry) (st : Stamp) (expiry : Nat) :
    (rules.dueStamp p st expiry).flags.ofCalendar := by
  unfold Rules.dueStamp
  split
  · exact dueHours_ofCalendar _ _ _ _
  · exact dueDays_ofCalendar _ _ _ _

/-- What a renewal keeps: the later due stamp, with its flags (R98). -/
theorem renewedDue_eq (r : ItemRecord) {new : DueStamp} (h : new.flags.ofCalendar) :
    renewedDue r new =
      { due := if r.due.later new.due then r.due else new.due
        flags :=
          { hourLoan := if r.due.later new.due then r.hourLoan else new.flags.hourLoan
            clamped := if r.due.later new.due then r.clamped else new.flags.clamped
            limited := if r.due.later new.due then false else new.flags.limited
            renewed := false, holdFulfilled := false } } := by
  unfold renewedDue
  split
  · rfl
  · exact congrArg (DueStamp.mk new.due) h

/-! ## The read phase -/

section Read

variable {s : State} {t : Txn} {i : Fin 4} {n : Nat} {st : Stamp} {se : Session} (hr : t.requester = .station i)
  (hn : t.names .item n) (ha : t.admitted st 65) (hse : (s.station i).session = some se) (hb : s.headerGood .borrower)
include hr hn ha hse hb

/-- The session borrower's record is no longer that borrower's (R45). -/
theorem planRenewal_stranger (hnone : s.tables.sessionBorrower se = none) :
    planRenewal s t = stationRefused .unknownBorrower se.number n := by
  simp only [planRenewal, Txn.gated, Txn.gate_aboveReserve ha, hb.touch, Except.ok_bind', Txn.session_eq hr hse, hnone,
    planOf_pure]
  exact Txn.refuse_item hn hr hse _

section Borrower

variable {b : BorrowerRecord} (hmine : s.tables.sessionBorrower se = some b) (hi : s.headerGood .item)
include hmine hi

theorem planRenewal_absent (hfound : s.tables.lookup .item n = .ok none) : planRenewal s t = renewalNotOnLoan s t .onShelf := by
  simp only [planRenewal, Txn.gated, Txn.gate_aboveReserve ha, hb.touch, Except.ok_bind', Txn.session_eq hr hse, hmine,
    hi.touch_tables, Txn.names_number hn, hfound, planOf_pure]

variable {j : Nat} (hfound : s.tables.lookup .item n = .ok (some j))
include hfound

theorem planRenewal_notOnLoan {x : ItemState} (hs : (s.tables.item j).state = some x) (hx : x ≠ .onLoan) :
    planRenewal s t = renewalNotOnLoan s t x := by
  have hstate : ¬ some x = some ItemState.onLoan := fun h => hx (Option.some.inj h)
  simp only [planRenewal, Txn.gated, Txn.gate_aboveReserve ha, hb.touch, Except.ok_bind', Txn.session_eq hr hse, hmine,
    hi.touch_tables, Txn.names_number hn, hfound, hs, ne_eq, hstate, not_false_eq_true, if_true, Option.getD_some, planOf_pure]

variable (hs : (s.tables.item j).state = some .onLoan)
include hs

theorem planRenewal_elsewhere (hm : (s.tables.item j).borrower ≠ se.index) :
    planRenewal s t = stationRefused .onLoanElsewhere se.number n := by
  simp only [planRenewal, Txn.gated, Txn.gate_aboveReserve ha, hb.touch, Except.ok_bind', Txn.session_eq hr hse, hmine,
    hi.touch_tables, Txn.names_number hn, hfound, hs, ne_eq, not_true_eq_false, if_false, hm, not_false_eq_true, if_true,
    planOf_pure]
  exact Txn.refuse_item hn hr hse _

variable (hm : (s.tables.item j).borrower = se.index)
include hm

theorem planRenewal_blocked (hset : (b.blocks t.rules (some st)).any = true) :
    planRenewal s t = stationBlocked (b.blocks t.rules (some st)) se.number n := by
  simp only [planRenewal, Txn.gated, Txn.gate_aboveReserve ha, hb.touch, Except.ok_bind', Txn.session_eq hr hse, hmine,
    hi.touch_tables, Txn.names_number hn, hfound, hs, ne_eq, not_true_eq_false, if_false, hm, ha.2.1, hset, if_true, planOf_pure]
  exact Txn.blocked_item hn hr hse _

variable (hset : (b.blocks t.rules (some st)).any = false)
include hset

/-- Asked for in RENEW, the item on loan to the session borrower is renewed by the checks from the policy on. -/
theorem planRenewal_renews : planRenewal s t = renewalFromPolicy s t s.tables j b := by
  simp only [planRenewal, Txn.gated, Txn.gate_aboveReserve ha, hb.touch, Except.ok_bind', Txn.session_eq hr hse, hmine,
    hi.touch_tables, Txn.names_number hn, hfound, hs, ne_eq, not_true_eq_false, if_false, hm, ha.2.1, hset,
    Bool.false_eq_true, planOf_pure]

/-- Reached by a checkout, it is renewed by the same checks (R96). -/
theorem planCheckout_renews : planCheckout s t = renewalFromPolicy s t s.tables j b := by
  by_cases hp : (t.rules.policyEntry (s.tables.item j).itemClass b.cls).kind = .none
  · rw [renewalFromPolicy_notLoanable hp, Txn.refuse_item hn hr hse]
    exact planCheckout_notLoanable hr hn ha hse hb hmine hset hi hfound hp
  · obtain ⟨renews, -⟩ := checkoutState_found s t s.tables b j (t.rules.policyEntry (s.tables.item j).itemClass b.cls)
    rw [Txn.session_eq hr hse] at renews
    exact (planCheckout_loanable hr hn ha hse hb hmine hset hi hfound hp).trans (congrArg _ (renews hs hm))

end Borrower

end Read

/-- Settles O17. -/
theorem renewalExtends : Obligations.RenewalExtends := by
  refine ⟨fun s t i n st se hengaged hr hk hn ha hse hb hnone => ?_, ?_⟩
  · exact State.runTxn_plan hengaged _ _ _ (by rw [hk]; rfl) (planRenewal_stranger hr hn ha hse hb hnone) rfl
  intro s t i n st se b found hengaged hr hn ha hse hb hi hmine hfound d asked both notOnLoan
  have hasked {p : Plan} (hp : planRenewal s t = p) (hf : p.fault = none) : asked p := fun hk =>
    State.runTxn_plan hengaged _ _ _ (by rw [hk]; rfl) hp hf
  have hnotOnLoan (x : ItemState) : renewalNotOnLoan s t x = notOnLoan x := by
    rw [renewalNotOnLoan, Txn.session_eq hr hse, Txn.names_number hn]
    rfl
  refine ⟨?_, ?_, ?_, ?_, ?_⟩
  · rintro rfl
    exact hasked ((planRenewal_absent hr hn ha hse hb hmine hi hfound).trans (hnotOnLoan _)) rfl
  · rintro j x rfl hs hx
    exact hasked ((planRenewal_notOnLoan hr hn ha hse hb hmine hi hfound hs hx).trans (hnotOnLoan _)) rfl
  · rintro j rfl hs hm
    exact hasked (planRenewal_elsewhere hr hn ha hse hb hmine hi hfound hs hm) rfl
  · rintro j rfl hs hm hset
    exact hasked (planRenewal_blocked hr hn ha hse hb hmine hi hfound hs hm hset) rfl
  rintro j rfl hs hm hset r pol new fine due hour clamped limited
  have hboth {p : Plan} (hp : renewalFromPolicy s t d j b = p) (hf : p.fault = none) : both p :=
    ⟨hasked ((planRenewal_renews hr hn ha hse hb hmine hi hfound hs hm hset).trans hp) hf, fun hk =>
      State.runTxn_plan hengaged _ _ _ (by rw [hk]; rfl)
        ((planCheckout_renews hr hn ha hse hb hmine hi hfound hs hm hset).trans hp) hf⟩
  have hrefused {x : Reason} (hp : renewalFromPolicy s t d j b = t.refuse s x) : both (stationRefused x se.number n) :=
    hboth (hp.trans (Txn.refuse_item hn hr hse x)) rfl
  refine ⟨fun hp => hrefused (renewalFromPolicy_notLoanable hp), fun hp hq => hrefused (renewalFromPolicy_holdsWaiting hp hq),
    fun hp hq hl => hrefused (renewalFromPolicy_renewLimit hp hq hl), fun hp hq hl => ?_⟩
  refine hboth ((renewalFromPolicy_renews hp hq hl).trans ?_) rfl
  rw [renewalCommit, Txn.at_admitted ha, renewedDue_eq _ (dueStamp_ofCalendar t.rules _ st b.expiry)]
  simp only [Txn.entry, hr, Txn.at_admitted ha, Txn.names_number hn, Txn.session_eq hr hse, Txn.marks_eq]
  rfl

end Sys2Proof.Machine
end

section
/-! PROOF. The item orders (R105 to R107): DECLARE_LOST, WITHDRAW and RELEASE, by the state of the item's record. -/

namespace Sys2Proof.Machine

theorem withItem_reads {s : State} {n : Nat} {found : Option Nat} (hi : s.headerGood .item)
    (hj : s.tables.lookup .item n = .ok found) (f : Draft → Option Nat → Except TableFault Plan) :
    withItem s n f = f s.tables found := by
  simp only [withItem, hi.touch, Except.ok_bind', hj]

theorem itemLimit_iff (o : Order) : (!itemInRange o.item) = true ↔ ¬ (1 ≤ o.item ∧ o.item ≤ 9999999999) := by
  rw [Bool.not_eq_true', Bool.eq_false_iff, ne_eq, itemInRange_iff]

section Read

variable {s : State} {t : Txn} {n : Nat} (hi : s.headerGood .item)
include hi

/-! ## An item without a record -/

theorem declareLostRead_absent (hj : s.tables.lookup .item n = .ok none) :
    declareLostRead s t n = .ok (orderRefused .notOnLoan) := withItem_reads hi hj _

theorem withdrawRead_tableFull (hj : s.tables.lookup .item n = .ok none) (hfree : s.tables.takeFree .item = .ok none) :
    withdrawRead s t n = .ok (orderRefused .tableFull) := by
  simp only [withdrawRead, withItem_reads hi hj, withdrawNew, hfree, Except.ok_bind']
  rfl

theorem withdrawRead_creates {st : Stamp} {room j next : Nat} (ha : t.admitted st room)
    (hj : s.tables.lookup .item n = .ok none) (hfree : s.tables.takeFree .item = .ok (some (j, next))) :
    withdrawRead s t n
      = .ok (orderCommit (s.tables.insertItem j next (.fresh n (t.rules.classOfNumber n) .withdrawn)).images .withdrawn st 0 n
          0 0 1) := by
  simp only [withdrawRead, withItem_reads hi hj, withdrawNew, hfree, Except.ok_bind', Plan.commits_admitted ha]
  rfl

theorem releaseRead_absent (hj : s.tables.lookup .item n = .ok none) :
    releaseRead s t n = .ok (orderRefused .notFound) := withItem_reads hi hj _

/-! ## An item with a record -/

section Found

variable {j : Nat} (hj : s.tables.lookup .item n = .ok (some j))
include hj

theorem declareLostRead_notOnLoan (hs : (s.tables.item j).state ≠ some .onLoan) :
    declareLostRead s t n = .ok (orderRefused .notOnLoan) := (withItem_reads hi hj _).trans (if_pos hs)

/-- A borrower holds no more than 15 lost items (R105). -/
theorem declareLostRead_hasLost (hb : s.headerGood .borrower) (hs : (s.tables.item j).state = some .onLoan)
    {b : BorrowerRecord} (hitem : s.tables.itemBorrower j = .ok b) (h : 15 ≤ b.lost) :
    declareLostRead s t n = .ok (orderRefused .hasLost) := by
  rw [declareLostRead, withItem_reads hi hj]
  simp only [hs, ne_eq, not_true_eq_false, if_false, hb.touch_tables, Except.ok_bind', hitem, h, if_true]
  rfl

theorem declareLostRead_loses {st : Stamp} {room : Nat} (ha : t.admitted st room) (hb : s.headerGood .borrower)
    (hs : (s.tables.item j).state = some .onLoan) {b : BorrowerRecord} (hitem : s.tables.itemBorrower j = .ok b)
    (h : b.lost < 15) :
    let r := s.tables.item j
    declareLostRead s t n
      = .ok (orderCommit ((s.tables.putItem j (r.cleared .lost r.borrower)).putBorrower r.borrower
          { b with loans := b.loans - 1, lost := b.lost + 1 }).images .lost st b.number n r.due.day (b.lost + 1)
          ((b.lost + 1 : Nat) : Int)) := by
  rw [declareLostRead, withItem_reads hi hj]
  simp only [hs, ne_eq, not_true_eq_false, if_false, hb.touch_tables, Except.ok_bind', hitem, Nat.not_le.2 h,
    declareLostPlan, Plan.commits_admitted ha]
  rfl

/-- The states that WITHDRAW refuses (R106). -/
theorem withdrawRead_refuses {x : ItemState} {r : Reason} (hs : (s.tables.item j).state = some x)
    (h : (x, r) ∈ [(ItemState.onShelf, Reason.hasHolds), (.onLoan, .onLoanElsewhere), (.onHoldShelf, .alreadyOnHoldShelf),
      (.withdrawn, .itemWithdrawn)]) : withdrawRead s t n = .ok (orderRefused r) := by
  rw [withdrawRead, withItem_reads hi hj]
  simp only [hs]
  simp only [List.mem_cons, Prod.mk.injEq, List.not_mem_nil, or_false] at h
  rcases h with ⟨rfl, rfl⟩ | ⟨rfl, rfl⟩ | ⟨rfl, rfl⟩ | ⟨rfl, rfl⟩
  all_goals rfl

theorem withdrawRead_lostHolds (hs : (s.tables.item j).state = some .lost) (hq : (s.tables.item j).queue ≠ []) :
    withdrawRead s t n = .ok (orderRefused .hasHolds) := by
  rw [withdrawRead, withItem_reads hi hj]
  simp only [hs, hq, if_false]
  rfl

/-- A LOST item without holds falls off its borrower's lost count (R106). -/
theorem withdrawRead_lost {st : Stamp} {room : Nat} (ha : t.admitted st room) (hb : s.headerGood .borrower)
    (hs : (s.tables.item j).state = some .lost) (hq : (s.tables.item j).queue = []) {b : BorrowerRecord}
    (hitem : s.tables.itemBorrower j = .ok b) :
    let r := s.tables.item j
    withdrawRead s t n
      = .ok (orderCommit ((s.tables.putItem j (r.cleared .withdrawn 0xFFFF)).putBorrower r.borrower
          { b with lost := b.lost - 1 }).images .withdrawn st b.number n 1 0 0) := by
  rw [withdrawRead, withItem_reads hi hj]
  simp only [hs, hq, if_true, withdrawLost, hb.touch_tables, Except.ok_bind', hitem, Plan.commits_admitted ha]
  rfl

theorem releaseRead_notFound (hs : (s.tables.item j).state ≠ some .withdrawn) :
    releaseRead s t n = .ok (orderRefused .notFound) := (withItem_reads hi hj _).trans (if_pos hs)

theorem releaseRead_frees {st : Stamp} {room : Nat} (ha : t.admitted st room) (hs : (s.tables.item j).state = some .withdrawn)
    {d1 : Draft} (hd : s.tables.removeItem j = .ok d1) :
    releaseRead s t n = .ok (orderCommit d1.images .released st 0 n 0 0 j) := by
  rw [releaseRead, withItem_reads hi hj]
  simp only [hs, ne_eq, not_true_eq_false, if_false, hd, Except.ok_bind', Plan.commits_admitted ha]
  rfl

end Found

end Read

/-- Settles O23. -/
theorem itemOrders : Obligations.ItemOrders := by
  intro s t o st hengaged hk hi hb ha d does empty
  have horder := Txn.order_eq hk
  have gate := Txn.gate_aboveReserve ha true
  have lost (hkind : o.kind = 11) := State.runTxn_order (plan := planDeclareLost) hengaged hk hkind gate
    (by rw [planDeclareLost, horder]) (itemLimit_iff o)
  have withdraw (hkind : o.kind = 12) := State.runTxn_order (plan := planWithdraw) hengaged hk hkind gate
    (by rw [planWithdraw, horder]) (itemLimit_iff o)
  have release (hkind : o.kind = 13) := State.runTxn_order (plan := planRelease) hengaged hk hkind gate
    (by rw [planRelease, horder]) (itemLimit_iff o)
  refine ⟨fun hout => ?_, fun hlo hhi hj => ?_, fun j hlo hhi hj => ?_⟩
  · have outside : ¬ (1 ≤ o.item ∧ o.item ≤ 9999999999) := by omega
    exact ⟨fun hkind => (lost hkind).1 outside, fun hkind => (withdraw hkind).1 outside, fun hkind => (release hkind).1 outside⟩
  · have inside := not_not_intro (And.intro hlo hhi)
    exact ⟨fun hkind => (lost hkind).2 inside _ (declareLostRead_absent hi hj) rfl,
      fun hkind hfree => (withdraw hkind).2 inside _ (withdrawRead_tableFull hi hj hfree) rfl,
      fun j next hkind hfree => (withdraw hkind).2 inside _ (withdrawRead_creates hi ha hj hfree) rfl,
      fun hkind => (release hkind).2 inside _ (releaseRead_absent hi hj) rfl⟩
  · have inside := not_not_intro (And.intro hlo hhi)
    intro r
    refine ⟨fun hkind hs => (lost hkind).2 inside _ (declareLostRead_notOnLoan hi hj hs) rfl,
      fun b hkind hs hitem => ⟨fun hmany => ?_, fun hfew => ?_⟩, fun hkind => ?_,
      fun hkind hs => (release hkind).2 inside _ (releaseRead_notFound hi hj hs) rfl,
      fun d1 hkind hs hd => (release hkind).2 inside _ (releaseRead_frees hi hj ha hs hd) rfl⟩
    · exact (lost hkind).2 inside _ (declareLostRead_hasLost hi hj hb hs hitem hmany) rfl
    · exact (lost hkind).2 inside _ (declareLostRead_loses hi hj ha hb hs hitem hfew) rfl
    · have refuses {x : ItemState} {y : Reason} (hs : r.state = some x) (h) : does .withdraw (orderRefused y) :=
        (withdraw hkind).2 inside _ (withdrawRead_refuses hi hj hs h) rfl
      exact ⟨fun hs => refuses hs (by decide), fun hs => refuses hs (by decide), fun hs => refuses hs (by decide),
        fun hs => refuses hs (by decide), fun hs hq => (withdraw hkind).2 inside _ (withdrawRead_lostHolds hi hj hs hq) rfl,
        fun b hs hq hitem => (withdraw hkind).2 inside _ (withdrawRead_lost hi hj ha hb hs hq hitem) rfl⟩

end Sys2Proof.Machine
end

section
/-! PROOF. The hand-over of each result (R89), and how the upload becomes IDLE (R175, R176). -/

namespace Sys2Proof.Machine

/-! ## The upload becomes IDLE -/

/-- The upload at rest, with what it keeps of the upload that has ended (R168, R175). -/
def Upload.rested (u : Upload) : Upload :=
  { Upload.reset with endReason := u.endReason, startStamp := u.startStamp, cutSequence := u.cutSequence }

/-- An ABORT_UPLOAD that waits for it ends (R176). -/
theorem State.uploadIdle_ends {s : State} {n : Nat} (h : s.currentOrder.map TakenOrder.wait = some (.uploadIdle n)) :
    s.uploadIdle = (s.withUpload s.upload.rested).finishOrder { outcome := .done, count := n } := by
  unfold State.uploadIdle
  simp only [h]
  rfl

theorem State.uploadIdle_rests {s : State} (h : ∀ n, s.currentOrder.map TakenOrder.wait ≠ some (.uploadIdle n)) :
    s.uploadIdle = s.withUpload s.upload.rested := by
  unfold State.uploadIdle
  dsimp only
  split
  · next n hn => exact absurd hn (h n)
  · rfl

theorem State.finishEnding_uncut {s : State} (h : s.upload.cutMade = false) : s.finishEnding = s.uploadIdle :=
  if_neg (by rw [h]; exact Bool.false_ne_true)

theorem State.finishEnding_cut {s : State} (h : s.upload.cutMade = true) :
    s.finishEnding = (s.writeField offReport offEndReason s.upload.endReason.code).withUpload
      { s.upload with endedMark := .standing } := if_pos h

theorem State.count16_currentOrder (s : State) (group off : Nat) : (s.count16 group off).currentOrder = s.currentOrder := by
  unfold State.count16 State.writeField
  split <;> rfl

/-! ## Sweeps, notices and marks -/

theorem State.handOver_sweep (s : State) {t : Txn} (ht : t.requester = .sweep) (e : SweepEnd) (lost committed : Bool) :
    s.handOver t (.sweep e) lost committed = s.handSweep e committed := by
  simp only [State.handOver, ht]

theorem State.handOver_notice (s : State) {t : Txn} (ht : t.requester = .center) (applied lost committed : Bool) :
    s.handOver t (.notice applied) lost committed = s.handNotice applied := by
  simp only [State.handOver, ht]

/-- A sweep step that found no room waits while there is none (R144). -/
theorem State.handSweep_journalFull (s : State) (committed : Bool) :
    s.handSweep .journalFull committed = s.withSweep
      { state := if s.journal.room = 0 then .deferred else .running, inEngine := false,
        changed := s.sweep.changed || committed } := rfl

/-- The state of a notice's hand-over: counted, and no longer held (R173). -/
def State.noticeCounted (s : State) (applied : Bool) : State :=
  (s.count16 offReport (if applied then 0x82 else 0x84)).withUpload { s.upload with held := none }

theorem State.handNotice_counts {s : State} (h : s.upload.state ≠ .ending) (hf : s.upload.finishedNoted = false)
    (applied : Bool) : s.handNotice applied = s.noticeCounted applied :=
  (if_neg h).trans (if_neg (by rw [hf]; exact Bool.false_ne_true))

theorem State.handNotice_finished {s : State} (h : s.upload.state ≠ .ending) (hf : s.upload.finishedNoted = true)
    (applied : Bool) : s.handNotice applied = (s.noticeCounted applied).endUpload .ok := (if_neg h).trans (if_pos hf)

theorem State.handNotice_ending {s : State} (h : s.upload.state = .ending) (applied : Bool) :
    s.handNotice applied = (s.noticeCounted applied).finishEnding := if_pos h

/-! ## The hand-over of UPLOAD_STARTED (R170) -/

/-- The upload once its cut has been made. -/
def Upload.made (u : Upload) (st : Stamp) : Upload := { u with cutMade := true, startStamp := st, startedMark := .absent }

/-- What follows the report: the end that waits, or the OPEN frame. -/
def State.startedOn (s : State) (st : Stamp) (cut pages : Nat) : State :=
  if s.upload.state = .ending then s.finishEnding
  else s.sendFrame (.opening s.settings.branch st.day st.minute cut pages)

/-- Desk memory and the upload once the report of the cut is written. -/
def State.reported (s : State) (st : Stamp) : State :=
  (s.withUpload (s.upload.made st)).writeReport st s.upload.cutSequence s.journal.cutCount

theorem State.reported_currentOrder (s : State) (st : Stamp) : (s.reported st).currentOrder = s.currentOrder := by
  simp only [State.reported, State.currentOrder, State.writeReport, State.writeAll_executor, State.withUpload_executor]

theorem State.reported_upload (s : State) (st : Stamp) : (s.reported st).upload = s.upload.made st := by
  simp only [State.reported, State.writeReport, State.writeAll_upload, State.withUpload_upload]

theorem State.reported_settings (s : State) (st : Stamp) : (s.reported st).settings = s.settings := by
  simp only [State.reported, State.writeReport, State.writeAll_settings, State.withUpload_settings]

theorem State.reported_line (s : State) (st : Stamp) : (s.reported st).line = s.line := by
  simp only [State.reported, State.writeReport, State.writeAll_line, State.withUpload_line]

theorem State.finishOrder_line (s : State) (r : OrderResult) : (s.finishOrder r).line = s.line :=
  (congrArg State.line (s.finishOrder_rest r) :)

theorem State.handStarted_eq (s : State) (st : Stamp) (refusal : Option Reason) :
    s.handStarted st refusal
      = (if (s.reported st).currentOrder.map TakenOrder.wait = some .cut then
          (s.reported st).finishOrder { outcome := .done, reason := refusal, count := s.journal.cutCount }
        else s.reported st).startedOn st s.upload.cutSequence s.journal.cutCount := rfl

/-- A START_UPLOAD that waits for the cut ends with the number of its pages (R170). -/
theorem State.handStarted_waited {s : State} (h : s.currentOrder.map TakenOrder.wait = some .cut) (st : Stamp)
    (refusal : Option Reason) :
    s.handStarted st refusal
      = ((s.reported st).finishOrder { outcome := .done, reason := refusal, count := s.journal.cutCount }).startedOn st
          s.upload.cutSequence s.journal.cutCount := by
  rw [State.handStarted_eq, State.reported_currentOrder, if_pos h]

theorem State.handStarted_unwaited {s : State} (h : s.currentOrder.map TakenOrder.wait ≠ some .cut) (st : Stamp)
    (refusal : Option Reason) :
    s.handStarted st refusal = (s.reported st).startedOn st s.upload.cutSequence s.journal.cutCount := by
  rw [State.handStarted_eq, State.reported_currentOrder, if_neg h]

/-- What follows the report, on any state with the upload, settings and line of the hand-over. -/
theorem State.startedOn_eq {s u : State} {st : Stamp} (hupload : u.upload = s.upload.made st) (hsettings : u.settings = s.settings)
    (hline : u.line = s.line) (cut pages : Nat) :
    let opening : PartFrame := .opening s.settings.branch st.day st.minute cut pages
    u.startedOn st cut pages
      = if s.upload.state = .ending then
          (u.writeField offReport offEndReason s.upload.endReason.code).withUpload
            { s.upload.made st with endedMark := .standing }
        else
          (u.withUpload { s.upload.made st with frame := some opening, asking := false, sends := 1, replyTimer := none }).withLine
            { s.line with transmission := some { frame := opening, begun := 0 }, sent := [] } := by
  have hcut : u.upload.cutMade = true := by rw [hupload]; rfl
  rw [State.startedOn, State.finishEnding_cut hcut, State.sendFrame, hupload, hsettings, hline]
  rfl

/-- Settles O13. -/
theorem resultsAreHandedOver : Obligations.ResultsAreHandedOver := by
  intro s t lost committed waits idle becomesIdle
  refine ⟨fun i x ht => s.handOver_station ht x lost committed, fun x ht => s.handOver_order ht x lost committed, fun ht => ?_,
    fun applied ht => ?_, fun refusal pages last ht hk => ?_, fun refusal st ht hk hst => ?_, fun refusal ht hk => ?_⟩
  · intro changed
    refine ⟨s.handOver_sweep ht _ _ _, s.handOver_sweep ht _ _ _, fun hroom => ?_, fun hroom => ?_⟩
    · rw [s.handOver_sweep ht, State.handSweep_journalFull, if_pos hroom]
    · rw [s.handOver_sweep ht, State.handSweep_journalFull, if_neg hroom]
  · intro counted
    rw [s.handOver_notice ht]
    refine ⟨fun h hf => State.handNotice_counts h hf applied, fun h hf => State.handNotice_finished h hf applied,
      fun h hcut => ?_, fun h hcut => ?_⟩
    · exact (State.handNotice_ending h applied).trans (State.finishEnding_cut hcut)
    · have rests := (State.handNotice_ending h applied).trans (State.finishEnding_uncut hcut)
      have order : (s.noticeCounted applied).currentOrder = s.currentOrder := s.count16_currentOrder _ _
      rw [rests]
      exact ⟨fun n hn => State.uploadIdle_ends (order ▸ hn), fun hn => State.uploadIdle_rests (order ▸ hn)⟩
  · simp only [State.handOver, ht, hk]
    rfl
  · intro a cut pages made report opening goesOn
    have hand : s.handOver t (.mark refusal) lost committed = s.handStarted st refusal := by
      simp only [State.handOver, ht, hk, Txn.at, hst, Option.getD_some]
    have written : s.reported st = report := rfl
    have follows {u : State} (hupload : u.upload = s.upload.made st) (hsettings : u.settings = s.settings)
        (hline : u.line = s.line) : u.startedOn st cut pages = goesOn u := State.startedOn_eq hupload hsettings hline cut pages
    have upload := s.reported_upload st
    have settings := s.reported_settings st
    have line := s.reported_line st
    rw [hand, ← written]
    refine ⟨fun h => (State.handStarted_waited h st refusal).trans ?_,
      fun h => (State.handStarted_unwaited h st refusal).trans ?_⟩
    · exact follows ((State.finishOrder_upload _ _).trans upload) ((State.finishOrder_settings _ _).trans settings)
        ((State.finishOrder_line _ _).trans line)
    · exact follows upload settings line
  · simp only [State.handOver, ht, hk]
    exact ⟨fun n hn => State.uploadIdle_ends hn, fun hn => State.uploadIdle_rests hn⟩

end Sys2Proof.Machine
end

section
/-! PROOF. The grant (R85 to R88): what each position stands for, and the first that stands from the rotation pointer on. -/

namespace Sys2Proof.Machine

/-! ## The rotation (R86) -/

theorem State.firstStanding_append {s : State} {before : List (Fin 6)} {p : Fin 6} {x : Grant × Background}
    (hbefore : ∀ q ∈ before, s.standsAt q = none) (hp : s.standsAt p = some x) (after : List (Fin 6)) :
    s.firstStanding (before ++ p :: after) = some (p, x) := by
  induction before with
  | nil => simp only [List.nil_append, State.firstStanding, hp]
  | cons q qs ih =>
    obtain ⟨hq, hqs⟩ := List.forall_mem_cons.1 hbefore
    simp only [List.cons_append, State.firstStanding, hq]
    exact ih hqs

/-- The cyclic order is cut at its `k`-th position, behind those of a lower number. -/
theorem rotationFrom_cut (p k : Fin 6) :
    rotationFrom p = (rotationFrom p).take k ++ (p + k) :: (rotationFrom p).drop (k + 1) ∧
      ∀ q ∈ (rotationFrom p).take k, ∃ j : Fin 6, j < k ∧ q = p + j := by
  revert p k
  decide

/-- The first standing position from the pointer on. -/
theorem State.firstStanding_from {s : State} {p k : Fin 6} {x : Grant × Background} (hk : s.standsAt (p + k) = some x)
    (hbefore : ∀ j : Fin 6, j < k → s.standsAt (p + j) = none) : s.firstStanding (rotationFrom p) = some (p + k, x) := by
  obtain ⟨hcut, hlower⟩ := rotationFrom_cut p k
  rw [hcut]
  refine State.firstStanding_append (fun q hq => ?_) hk _
  obtain ⟨j, hj, rfl⟩ := hlower q hq
  exact hbefore j hj

/-! ## The grant (R88) -/

theorem Station.busy_iff (t : Station) : t.busy = true ↔ t.slot ≠ none ∨ t.inFlight ≠ none := by
  rw [Station.busy, Bool.or_eq_true, Option.isSome_iff_ne_none, Option.isSome_iff_ne_none]

/-- A label is pending or in flight at one of the stations (R56). -/
theorem State.stationsBusy_eq (s : State) :
    s.stationsBusy = decide (∃ i : Fin 4, (s.station i).slot ≠ none ∨ (s.station i).inFlight ≠ none) := by
  rw [Bool.eq_iff_iff, decide_eq_true_iff]
  simp only [← Station.busy_iff, Fin.exists_fin_succ, IsEmpty.exists_iff, or_false, State.stationsBusy, Bool.or_eq_true,
    or_assoc]
  rfl

/-- An IDLE engine of an attached desk begins the transaction of the first standing position. -/
theorem execEngineGrant_grants {s : State} {k : Fin 6} {g : Grant} {bg : Background} (ha : s.attached = true)
    (hidle : s.engine.state = .idle) (hk : s.standsAt (s.engine.pointer + k) = some (g, bg))
    (hbefore : ∀ j : Fin 6, j < k → s.standsAt (s.engine.pointer + j) = none) :
    execEngineGrant s = .next ((s.passGrant g).withEngine
      { s.engine with state := .busy, current := some (g.txn s), pointer := s.engine.pointer + k + 1, background := bg }) := by
  rw [execEngineGrant, if_pos ⟨ha, hidle⟩, State.firstStanding_from hk hbefore]

theorem State.passGrant_order {s : State} {k : TxnKind} (h : ∀ a b, k ≠ .pagesReleased a b) :
    s.passGrant (.order k) = s.orderWaits .engine := by
  cases k with
  | pagesReleased a b => exact absurd rfl (h a b)
  | _ => rfl

/-! ## What the positions stand for (R25, R85, R87) -/

theorem State.standsAt_station (s : State) {p : Fin 6} {i : Fin 4} (h : p.val = i.val) : s.standsAt p = stationGrant s i := by
  match i, p, h with
  | 0, 0, _ => rfl
  | 1, 1, _ => rfl
  | 2, 2, _ => rfl
  | 3, 3, _ => rfl

theorem stationGrant_eq (s : State) (i : Fin 4) :
    stationGrant s i
      = match (s.station i).slot with
        | none => none
        | some l =>
          if (s.station i).inFlight ≠ none ∨ (s.station i).modeWait = true then none
          else ((s.station i).interpretation l).map fun k => (.station i l k, s.engine.background) := by
  unfold stationGrant Station.request
  cases (s.station i).slot with
  | none => rfl
  | some l =>
    simp only [Option.isSome_iff_ne_none]
    split
    · rfl
    · simp only [Option.map_map]
      rfl

theorem Upload.request_eq (u : Upload) :
    u.request
      = if u.startedMark = .standing then some .started
        else if u.held ≠ none ∧ u.held.map HeldNotice.granted = some false then u.held.map fun h => .notice h.notice
        else if u.endedMark = .standing then some .ended else none := by
  unfold Upload.request
  split
  · rfl
  · cases u.held with
    | none => rfl
    | some h => cases hg : h.granted <;> simp [hg]

theorem Sweep.stands_iff (w : Sweep) : w.stands = true ↔ w.state = .running ∧ w.inEngine = false := by
  rw [Sweep.stands, Bool.and_eq_true, beq_iff_eq, Bool.not_eq_true']

theorem Executor.request_waits {e : Executor} {t : TakenOrder} (h : e.current = some t) :
    (t.wait = .grant → e.request = some (.order t.order)) ∧
    (∀ a b, t.wait = .markGrant a b → e.request = some (.pagesReleased a b)) := by
  refine ⟨fun hw => ?_, fun a b hw => ?_⟩
  · simp only [Executor.request, h, hw]
  · simp only [Executor.request, h, hw]

theorem Executor.request_none {e : Executor} (h : e.current = none) : e.request = none := by
  simp only [Executor.request, h]

/-- Position 5 serves the only one of sweep and center line that stands; with both, the preference decides, and turns. -/
theorem backgroundGrant_cases (w : Sweep) (pref : Background) :
    let sweeps := w.state = .running ∧ w.inEngine = false
    (¬ sweeps → backgroundGrant w none pref = none) ∧
    (sweeps → backgroundGrant w none pref = some (.sweep, .center)) ∧
    (∀ r, ¬ sweeps → backgroundGrant w (some r) pref = some (.center r, .sweep)) ∧
    (∀ r, sweeps → pref = .sweep → backgroundGrant w (some r) pref = some (.sweep, .center)) ∧
    (∀ r, sweeps → pref = .center → backgroundGrant w (some r) pref = some (.center r, .sweep)) := by
  intro sweeps
  have stands (h : sweeps) : w.stands = true := w.stands_iff.2 h
  have rests (h : ¬ sweeps) : w.stands = false := Bool.eq_false_iff.2 (mt w.stands_iff.1 h)
  refine ⟨fun h => ?_, fun h => ?_, fun r h => ?_, fun r h hp => ?_, fun r h hp => ?_⟩
  · simp only [backgroundGrant, rests h]
  · simp only [backgroundGrant, stands h]
  · simp only [backgroundGrant, rests h]
  · simp only [backgroundGrant, stands h, hp]
  · simp only [backgroundGrant, stands h, hp]

/-! ## The interpretation of a label (R27 to R29) -/

theorem Station.interpretation_eq (t : Station) (l : Label) :
    t.interpretation l
      = if t.mode = .closed then none
        else some
          (if l.kind = .item then
            (if t.mode = .returning then .returnItem
             else if t.mode = .inquiry then .itemInquiry
             else if t.session = none then .noBorrower
             else if t.mode = .checkout then .checkout
             else .renewal)
          else
            (if t.mode = .returning then .wrongLabel
             else if t.mode = .inquiry then .borrowerInquiry
             else match t.session with
               | none => .sessionOpen false
               | some se => if se.number = l.number then .sessionRefresh else .sessionOpen true)) := by
  cases hm : t.mode with
  | closed => simp [Station.interpretation, hm]
  | returning => cases hl : l.kind <;> simp [Station.interpretation, hm, hl]
  | inquiry => cases hl : l.kind <;> simp [Station.interpretation, hm, hl]
  | checkout | renew =>
    cases hl : l.kind with
    | item => cases hs : t.session <;> simp [Station.interpretation, hm, hl, hs]
    | borrower => cases hs : t.session <;> simp [Station.interpretation, hm, hl, hs]

/-- Settles O11. -/
theorem grantFollowsTheRotation : Obligations.GrantFollowsTheRotation := by
  refine ⟨fun s k g bg => ?_, fun s => ⟨fun p i h => ?_, fun o w ho hw => ?_, fun h => ?_, s.upload.request_eq, ?_⟩,
    Station.interpretation_eq⟩
  · intro p hd hidle hk hbefore txn busy
    have grants := execEngineGrant_grants (s.attached_iff.2 hd) hidle hk hbefore
    have begins (r : Requester) (kind : TxnKind) (l : Option Label) : s.txn r kind l = txn r kind l := by
      rw [State.txn, State.stationsBusy_eq]
      rfl
    have granted {t : Txn} {u : State} (ht : g.txn s = t) (hu : s.passGrant g = u) : exec .engineGrant s = busy t u := by
      rw [← ht, ← hu]
      exact grants
    refine ⟨?_, ?_, ?_, ?_, ?_, ?_, ?_⟩
    · rintro i l kind rfl
      exact granted (begins _ _ _) rfl
    · rintro kind rfl hkind
      exact granted (begins _ _ _) (State.passGrant_order hkind)
    · rintro pages last rfl
      exact granted (begins _ _ _) rfl
    · rintro rfl
      exact granted (begins _ _ _) rfl
    · rintro rfl
      exact granted (begins _ _ _) rfl
    · rintro rfl
      exact granted (begins _ _ _) rfl
    · rintro n rfl
      exact granted (begins _ _ _) rfl
  · exact (s.standsAt_station h).trans (stationGrant_eq s i)
  · obtain ⟨grant, mark⟩ := Executor.request_waits ho
    subst hw
    exact ⟨fun hw => congrArg (Option.map _) (grant hw), fun a b hw => congrArg (Option.map _) (mark a b hw)⟩
  · exact congrArg (Option.map _) (Executor.request_none h)
  · intro sweeps
    obtain ⟨neither, sweep, center, preferred, turned⟩ := backgroundGrant_cases s.sweep s.engine.background
    have stands (c : Option CenterRequest) (hc : s.upload.request = c) :
        s.standsAt 5 = backgroundGrant s.sweep c s.engine.background := by
      rw [← hc]
      rfl
    exact ⟨fun h hc => (stands _ hc).trans (neither h), fun h hc => (stands _ hc).trans (sweep h),
      fun r h hc => (stands _ hc).trans (center r h), fun r h hc hp => (stands _ hc).trans (preferred r h hp),
      fun r h hc hp => (stands _ hc).trans (turned r h hp)⟩

end Sys2Proof.Machine
end

section
/-! PROOF. SET_CLOCK (R111, R112), and a second of the desk clock with the day change and the upload minute (R108 to R110, R169). -/

namespace Sys2Proof.Machine

/-! ## SET_CLOCK -/

/-- The gate of SET_CLOCK asks for no clock reading (R90). -/
theorem Txn.gate_unclocked {t : Txn} (hh : t.halted = false) (hr : 64 < t.room) : t.gate .aboveReserve false = none := by
  simp [Txn.gate, hh, RoomClass.allows, Config.reserve, hr]

theorem clockLimit_iff (o : Order) :
    clockLimit o = true ↔ 65535 < o.a ∨ 1439 < o.b % 65536 ∨ 59 < o.b / 65536 % 65536 := by
  rw [clockLimit, Bool.or_eq_true, Bool.or_eq_true, decide_eq_true_iff, decide_eq_true_iff, decide_eq_true_iff, or_assoc,
    lowHalf, highHalf]

/-! ## A second of the clock -/

theorem Clock.atEnd_iff (c : Clock) : c.atEnd = true ↔ c.day = 65535 ∧ c.minute = 1439 ∧ c.second = 59 := by
  rw [Clock.atEnd, Bool.and_eq_true, Bool.and_eq_true, beq_iff_eq, beq_iff_eq, beq_iff_eq, and_assoc]

/-- Minutes and days carry (R109). -/
theorem Clock.tick_cases {c : Clock} (hset : c.isSet = true) :
    (c.second < 59 → c.tick = { day := c.day, minute := c.minute, second := c.second + 1, isSet := true }) ∧
    (c.second = 59 → c.minute < 1439 → c.tick = { day := c.day, minute := c.minute + 1, second := 0, isSet := true }) ∧
    (c.second = 59 → c.minute = 1439 → c.tick = { day := c.day + 1, minute := 0, second := 0, isSet := true }) := by
  refine ⟨fun hs => ?_, fun hs hm => ?_, fun hs hm => ?_⟩
  · rw [Clock.tick, if_pos hs, hset]
  · rw [Clock.tick, if_neg (by omega), if_pos hm, hset]
  · rw [Clock.tick, if_neg (by omega), if_neg (by omega), hset]

theorem execClockSecond_stays {s : State} (h : s.clock.isSet = false ∨ s.clock.atEnd = true) :
    exec .clockSecond s = .next s := by
  refine if_neg fun hc => ?_
  obtain ⟨hset, hend⟩ := hc
  rcases h with h | h
  · exact Bool.false_ne_true (h.symm.trans hset)
  · exact hend h

/-- A clock that is set and not at the end of its range ticks; a new day comes before the upload minute (R109, R110). -/
theorem execClockSecond_ticks {s : State} {d m x : Nat} (hset : s.clock.isSet = true) (hend : s.clock.atEnd ≠ true)
    (htick : s.clock.tick = { day := d, minute := m, second := x, isSet := true }) :
    let u := s.withClock { day := d, minute := m, second := x, isSet := true }
    let v := if d = s.clock.day then u else u.dayChange
    (m = s.clock.minute ∨ m ≠ s.settings.uploadMinute → exec .clockSecond s = .next v) ∧
    (m ≠ s.clock.minute → m = s.settings.uploadMinute → exec .clockSecond s = .next v.uploadMinute) := by
  intro u v
  have next : exec .clockSecond s = .next (u.clockEvents s.clock) :=
    (if_pos ⟨hset, hend⟩).trans (by rw [htick])
  refine ⟨fun h => next.trans (congrArg _ (if_neg fun hc => ?_)), fun hnew h => next.trans (congrArg _ (if_pos ⟨hnew, h⟩))⟩
  obtain ⟨hnew, hminute⟩ := hc
  exact h.elim hnew fun hm => hm hminute

/-- In OPEN or HALTED a new day asks the sweep to start (R109). -/
theorem State.dayChange_attached {s : State} (h : s.desk.state = .opened ∨ s.desk.state = .halted) :
    s.dayChange = (s.raise .dayChanged).withSweep s.sweep.start := if_pos (s.attached_iff.2 h)

theorem State.dayChange_detached {s : State} (h : ¬ (s.desk.state = .opened ∨ s.desk.state = .halted)) :
    s.dayChange = s.raise .dayChanged := if_neg (mt s.attached_iff.1 h)

/-- Settles O35. -/
theorem clockAdvances : Obligations.ClockAdvances := by
  refine ⟨⟨fun s t o hengaged hk hkind hh hr => ?_, fun s c => ?_⟩, fun s => ?_⟩
  · intro minute second moves plan
    obtain ⟨limited, reads⟩ := State.runTxn_order (plan := planSetClock) hengaged hk hkind (Txn.gate_unclocked hh hr)
      (by rw [planSetClock, Txn.order_eq hk]) (clockLimit_iff o)
    have moves_iff : clockMovesOn s.clock o.clock = true ↔ moves := clockMovesOn_iff _ _
    have hplan {n : Int} (hn : (if clockMovesOn s.clock o.clock then 1 else 0) = n) : setClockPlan s o.clock = plan n := by
      subst hn
      rfl
    refine ⟨limited, fun hd hm hs => ?_⟩
    have does := reads (by omega) _ rfl rfl
    exact ⟨fun h => hplan (if_pos (moves_iff.2 h)) ▸ does, fun h => hplan (if_neg (mt moves_iff.1 h)) ▸ does⟩
  · intro started
    have harm := State.armClock_some (s := s) c rfl rfl
    refine ⟨fun h => harm.trans (if_pos h), fun hset hd => harm.trans (if_neg ?_)⟩
    rw [hset, not_or]
    exact ⟨Bool.false_ne_true ∘ Eq.symm, Nat.not_lt.2 hd⟩
  · intro c attached ticks set started uploads
    have hday (d m x : Nat) :
        (attached → (set d m x).dayChange = ((set d m x).raise .dayChanged).withSweep started) ∧
        (¬ attached → (set d m x).dayChange = (set d m x).raise .dayChanged) :=
      ⟨fun h => (State.dayChange_attached (s := set d m x) h).trans (congrArg _ s.sweep.start_eq),
        State.dayChange_detached (s := set d m x)⟩
    have notEnd (h : ¬ (c.day = 65535 ∧ c.minute = 1439 ∧ c.second = 59)) : c.atEnd ≠ true := mt c.atEnd_iff.1 h
    refine ⟨fun hset => execClockSecond_stays (.inl hset),
      fun hset hd hm hs => execClockSecond_stays (.inr (c.atEnd_iff.2 ⟨hd, hm, hs⟩)), fun hset hs => ?_,
      fun hset hs hm => ?_, fun hset hs hm hd => ?_⟩
    all_goals obtain ⟨hsecond, hminute, hmidnight⟩ := Clock.tick_cases hset
    · obtain ⟨quiet, -⟩ := execClockSecond_ticks hset (notEnd (by omega)) (hsecond hs)
      rw [if_pos rfl] at quiet
      exact quiet (.inl rfl)
    · obtain ⟨quiet, minuteComes⟩ := execClockSecond_ticks hset (notEnd (by omega)) (hminute hs hm)
      rw [if_pos rfl] at quiet minuteComes
      exact ⟨fun h => quiet (.inr h), minuteComes (Nat.succ_ne_self _)⟩
    · obtain ⟨quiet, minuteComes⟩ := execClockSecond_ticks hset (notEnd (by omega)) (hmidnight hs hm)
      rw [if_neg (Nat.succ_ne_self _)] at quiet minuteComes
      obtain ⟨hopen, hclosed⟩ := hday (c.day + 1) 0 0
      have newMinute : 0 ≠ c.minute := by omega
      intro day
      refine ⟨fun h => ?_, fun h => ?_⟩
      · have next := quiet (.inr h.symm)
        exact ⟨fun ha => next.trans (congrArg _ (hopen ha)), fun ha => next.trans (congrArg _ (hclosed ha))⟩
      · have next := minuteComes newMinute h.symm
        exact ⟨fun ha => next.trans (congrArg (Host.Outcome.next ∘ State.uploadMinute) (hopen ha)),
          fun ha => next.trans (congrArg (Host.Outcome.next ∘ State.uploadMinute) (hclosed ha))⟩

end Sys2Proof.Machine
end

section
/-! PROOF. The head of a hold-shelf item leaves (R134, R142), and CANCEL_HOLD (R132 to R135). -/

namespace Sys2Proof.Machine

/-! ## The head of a hold-shelf item leaves -/

section MoveOn

variable {s : State} {t : Txn} {d d1 d2 : Draft} {i : Nat} (hremove : d.shelfRemove i = .ok d1)
include hremove

/-- With no entry left the record is freed, and the item reshelved. -/
theorem moveOn_reshelves (hq : (d.item i).queue.tail = []) (hfree : d1.removeItem i = .ok d2) :
    moveOn s t d i = .ok { draft := d2, deadline := none, slip := reshelveSlip t.at (d.item i).number } := by
  simp only [moveOn, hremove, hq, hfree, Except.ok_bind', List.isEmpty_nil, if_true]
  rfl

/-- The next entry is promoted: the record goes back onto the list behind a new deadline. -/
theorem moveOn_promotes {e : HoldEntry} {more : List HoldEntry} {head : BorrowerRecord} {deadline : Nat}
    (hdeadline : t.rules.pickupDeadline t.at.day s.settings.pickupDays = deadline) (hq : (d.item i).queue.tail = e :: more)
    (hb : d1.holdBorrower i 1 e.borrower = .ok head)
    (hinsert : d1.shelfInsert i { (d1.item i).trapped deadline with queue := e :: more } = .ok d2) :
    moveOn s t d i
      = .ok { draft := d2, deadline := some deadline,
              slip := holdSlip none t.at (d.item i).number head.number deadline } := by
  have hhead : d1.holdBorrower i 1 (((e :: more).head?.map HoldEntry.borrower).getD Config.nullIndex) = .ok head := hb
  have hshelve : d1.shelve i 1 (e :: more) deadline = .ok (d2, head.number) := by
    have hrecord : d1.shelfInsert i
        { (d1.item i).cleared .onHoldShelf Config.nullIndex with queue := e :: more, deadline := deadline } = .ok d2 := hinsert
    simp only [Draft.shelve, hhead, Except.ok_bind', hrecord]
    rfl
  simp only [moveOn, hremove, hq, hdeadline, hshelve, Except.ok_bind', List.isEmpty_cons, Bool.false_eq_true, if_false]
  rfl

end MoveOn

/-! ## The cancelled entry -/

section Cancel

variable {s : State} {t : Txn} {d : Draft} {i j k : Nat} {b : BorrowerRecord} {item : Nat}

/-- The commit of a cancellation (R135). -/
theorem cancelEntry_admitted {st : Stamp} {room : Nat} (ha : t.admitted st room) (f : EntryFlags)
    (borrower position last : Nat) :
    cancelEntry t f borrower item position last
      = { kind := .holdCancelled, source := .order, flags := f, stamp := st, borrower := borrower, item := item,
          value1 := position, value2 := last } := by
  rw [cancelEntry, Txn.orderEntry, Txn.at_admitted ha]

/-- An item left on the open shelf with no entry loses its record (R133). -/
theorem cancelQuiet_frees {d1 : Draft} (hs : (d.item i).state = some .onShelf) (hq : (d.item i).queue.eraseIdx k = [])
    (hfree : d.removeItem i = .ok d1) :
    cancelQuiet t d i j k b item
      = .ok (.commits (d1.dropHold j b).images (cancelEntry t {} b.number item (k + 1) 0) (0 : Nat)) := by
  simp only [cancelQuiet, hs, hq, hfree, List.isEmpty_nil, and_self, if_true, Except.ok_bind']
  rfl

theorem cancelQuiet_keeps (h : ¬ ((d.item i).state = some .onShelf ∧ (d.item i).queue.eraseIdx k = [])) :
    let rest := (d.item i).queue.eraseIdx k
    cancelQuiet t d i j k b item
      = .ok (.commits ((d.putItem i { d.item i with queue := rest }).dropHold j b).images
          (cancelEntry t {} b.number item (k + 1) 0) rest.length) := by
  simp only [cancelQuiet, List.isEmpty_iff, if_neg h]
  rfl

/-- A cancellation of the head takes what follows for the item from the move (R134). -/
theorem cancelHead_moves {m : Moved} (h : moveOn s t d i = .ok m) :
    cancelHead s t d i j b item
      = .ok { images := (m.draft.dropHold j b).images
              entry := some (cancelEntry t m.flags b.number item 1 (m.deadline.getD 0))
              slip := some m.slip
              shelfChanged := true
              result := .order (.done (d.item i).queue.tail.length) } := by
  simp only [cancelHead, h, Except.ok_bind']
  rfl

end Cancel

/-! ## The read phase -/

section Read

variable {s : State} (hb : s.headerGood .borrower) (hi : s.headerGood .item) (t : Txn) {item number j : Nat}
  (hj : s.tables.lookup .borrower number = .ok (some j))
include hb hi hj

theorem cancelHoldRead_noItem (hnone : s.tables.lookup .item item = .ok none) :
    cancelHoldRead s t item number = .ok (orderRefused .notFound) := by
  simp only [cancelHoldRead, withBorrower_found hb hj, hi.touch_tables, Except.ok_bind', hnone]
  rfl

variable {i : Nat} (hfound : s.tables.lookup .item item = .ok (some i))
include hfound

theorem cancelHoldRead_noEntry (h : (s.tables.item i).queue.findIdx? (fun e => e.borrower == j) = none) :
    cancelHoldRead s t item number = .ok (orderRefused .notFound) := by
  simp only [cancelHoldRead, withBorrower_found hb hj, hi.touch_tables, Except.ok_bind', hfound, h]
  rfl

theorem cancelHoldRead_entry {k : Nat} (h : (s.tables.item i).queue.findIdx? (fun e => e.borrower == j) = some k) :
    cancelHoldRead s t item number
      = if k = 0 ∧ (s.tables.item i).state = some .onHoldShelf then
          cancelHead s t s.tables i j (s.tables.borrower j) item
        else cancelQuiet t s.tables i j k (s.tables.borrower j) item := by
  simp only [cancelHoldRead, withBorrower_found hb hj, hi.touch_tables, Except.ok_bind', hfound, h]

end Read

/-- Settles O37. -/
theorem holdsAreCancelled : Obligations.HoldsAreCancelled := by
  intro s t o st hengaged hk hkind ha hhb hhi d does inRange
  obtain ⟨limited, reads⟩ := State.runTxn_order (plan := planCancelHold) hengaged hk hkind (Txn.gate_one ha true)
    (by rw [planCancelHold, Txn.order_eq hk]) (holdLimits_iff o)
  refine ⟨limited, fun hin hj => reads (not_not_intro hin) _ (withBorrower_absent hhb hj _) rfl,
    fun j hin hj hnone => reads (not_not_intro hin) _ (cancelHoldRead_noItem hhb hhi t hj hnone) rfl,
    fun j i hin hj hfound => ?_⟩
  intro b r fewer deadline cancelled slip
  have does_read := reads (not_not_intro hin)
  refine ⟨fun hno => ?_, fun k hentry => ?_⟩
  · have hnone : r.queue.findIdx? (fun e => e.borrower == j) = none := by
      simpa only [List.findIdx?_eq_none_iff, beq_eq_false_iff_ne] using hno
    exact does_read _ (cancelHoldRead_noEntry hhb hhi t hj hfound hnone) rfl
  intro rest
  have hread := cancelHoldRead_entry hhb hhi t hj hfound hentry
  have hlength : rest.length = r.queue.length - 1 :=
    List.length_eraseIdx_of_lt (List.findIdx?_eq_some_iff_findIdx_eq.1 hentry).1
  have hquiet {d1 : Draft} {n : Nat} (hbehind : ¬ (k = 0 ∧ r.state = some .onHoldShelf)) (hn : rest.length = n)
      (hcancel : cancelQuiet t d i j k b o.item
        = .ok (.commits (d1.dropHold j b).images (cancelEntry t {} b.number o.item (k + 1) 0) n)) :
      does (cancelled d1 {} (k + 1) 0 none) := by
    have next := does_read _ (hread.trans ((if_neg hbehind).trans hcancel)) rfl
    rwa [cancelEntry_admitted ha, ← hn, hlength] at next
  have hhead {m : Moved} (hk0 : k = 0) (hs : r.state = some .onHoldShelf) (hm : moveOn s t d i = .ok m) :
      does (cancelled m.draft m.flags 1 (m.deadline.getD 0) (some m.slip)) := by
    have next := does_read _ (hread.trans ((if_pos ⟨hk0, hs⟩).trans (cancelHead_moves hm))) rfl
    rwa [cancelEntry_admitted ha, List.length_tail] at next
  refine ⟨fun d1 hs hrest hfree => ?_, fun hkept hbehind => ?_, fun d1 d2 hk0 hs hrest hremove hfree => ?_,
    fun e more d1 head d2 hk0 hs hrest hremove hborrower hinsert => ?_⟩
  · have hbehind : ¬ (k = 0 ∧ r.state = some .onHoldShelf) := by rw [hs]; simp
    exact hquiet hbehind (congrArg List.length hrest) (cancelQuiet_frees hs hrest hfree)
  · exact hquiet hbehind rfl (cancelQuiet_keeps hkept)
  · subst hk0
    have htail : r.queue.tail = [] := List.eraseIdx_zero.symm.trans hrest
    have next := hhead rfl hs (moveOn_reshelves hremove htail hfree)
    rwa [Txn.at_admitted ha] at next
  · subst hk0
    have htail : r.queue.tail = e :: more := List.eraseIdx_zero.symm.trans hrest
    rw [hrest] at hinsert
    have hdeadline : t.rules.pickupDeadline t.at.day s.settings.pickupDays = deadline :=
      congrArg (fun x : Stamp => t.rules.pickupDeadline x.day s.settings.pickupDays) (Txn.at_admitted ha)
    have next := hhead rfl hs (moveOn_promotes hremove hdeadline htail hborrower hinsert)
    rwa [Txn.at_admitted ha] at next

end Sys2Proof.Machine
end

section
/-! PROOF. A day sweep step (R141 to R144). -/

namespace Sys2Proof.Machine

section Read

variable {s : State} (hi : s.headerGood .item) (t : Txn) {p : Option Nat}
include hi

/-- The list is empty (R141). -/
theorem sweepRead_empty (h : s.tables.seekShelfFromHead (fun _ _ => true) = .ok (p, none)) :
    sweepRead s t = .ok .sweepEnds := by
  simp only [sweepRead, hi.touch, Except.ok_bind', h]
  rfl

variable {i : Nat} (h : s.tables.seekShelfFromHead (fun _ _ => true) = .ok (p, some i))
include h

/-- The head hold's borrower is checked before the decision on the head of the list. -/
theorem sweepRead_fault {f : TableFault}
    (hf : s.tables.touch .borrower = .error f ∨
      (s.headerGood .borrower ∧ s.tables.holdBorrower i 0 (s.tables.item i).head = .error f)) :
    sweepRead s t = .error f := by
  rcases hf with hf | ⟨hb, hf⟩
  · simp only [sweepRead, hi.touch, Except.ok_bind', h, hf]
    rfl
  · simp only [sweepRead, hi.touch, Except.ok_bind', h, hb.touch_tables, hf]
    rfl

variable (hb : s.headerGood .borrower) {b : BorrowerRecord}
  (hborrower : s.tables.holdBorrower i 0 (s.tables.item i).head = .ok b)
include hb hborrower

theorem sweepRead_head :
    sweepRead s t
      = if t.at.day ≤ (s.tables.item i).deadline then .ok .sweepEnds else expireHead s t s.tables i b := by
  simp only [sweepRead, hi.touch, Except.ok_bind', h, hb.touch_tables, hborrower]
  rfl

end Read

/-- An expiring step takes what follows for the item from the move (R142, R143). -/
theorem expireHead_moves {s : State} {t : Txn} {d : Draft} {i : Nat} {b : BorrowerRecord} {m : Moved}
    (h : moveOn s t d i = .ok m) :
    let r := d.item i
    expireHead s t d i b
      = .ok { images := (m.draft.dropHold r.head b).images
              entry := some
                { kind := .holdExpired, source := .sweep, flags := m.flags, stamp := t.at, borrower := b.number,
                  item := r.number, value1 := r.deadline, value2 := m.deadline.getD 0 }
              slip := some m.slip
              result := .sweep .goesOn } := by
  simp only [expireHead, h, Except.ok_bind']
  rfl

/-- Settles O38. -/
theorem sweepStepExpires : Obligations.SweepStepExpires := by
  intro s t hengaged hk d does
  have does_plan {p : Plan} (hp : planSweepStep s t = p) (hf : p.fault = none) : does p :=
    State.runTxn_plan hengaged _ _ _ (by rw [hk]; rfl) hp hf
  refine ⟨fun h => ?_, fun hh hs hr => ?_, fun st ha hi => ?_⟩
  · obtain ⟨r, hgate, hr⟩ := Txn.gate_refuses_early h .one
    exact does_plan ((planSweepStep_refused hgate).trans (if_neg hr)) rfl
  · have hgate : t.gate .one true = some .journalFull := Txn.gate_journalFull hh (.inr hs) (RoomClass.one_allows hr)
    exact does_plan ((planSweepStep_refused hgate).trans (if_pos rfl)) rfl
  have hplan : planSweepStep s t = planOf (.sweep .done) (sweepRead s t) := by rw [planSweepStep, Txn.gate_one ha]
  have does_read {p : Plan} (hp : sweepRead s t = .ok p) (hf : p.fault = none) : does p :=
    does_plan (hplan.trans (congrArg _ hp)) hf
  have hat := Txn.at_admitted ha
  refine ⟨fun p h => does_read (sweepRead_empty hi t h) rfl, fun p i h => ?_⟩
  intro r
  refine ⟨fun f hf => ?_, fun b hday hb hborrower => ?_, fun b hday hb hborrower => ?_⟩
  · have next := State.runTxn_engaged hengaged (· == .sweepStep) planSweepStep (by rw [hk]; rfl)
    rwa [hplan, sweepRead_fault hi t h hf] at next
  · exact does_read ((sweepRead_head hi t h hb hborrower).trans (if_pos (by rwa [hat]))) rfl
  intro deadline expired
  have hread := (sweepRead_head hi t h hb hborrower).trans (if_neg (by rw [hat]; exact Nat.not_le.2 hday))
  refine ⟨fun d1 d2 htail hremove hfree => ?_, fun e more d1 head d2 htail hremove hhead hinsert => ?_⟩
  · have next := does_read (hread.trans (expireHead_moves (moveOn_reshelves hremove htail hfree))) rfl
    rwa [hat] at next
  · have hdeadline : t.rules.pickupDeadline t.at.day s.settings.pickupDays = deadline :=
      congrArg (fun x : Stamp => t.rules.pickupDeadline x.day s.settings.pickupDays) hat
    rw [htail] at hinsert
    have next := does_read
      (hread.trans (expireHead_moves (moveOn_promotes hremove hdeadline htail hhead hinsert))) rfl
    rwa [hat] at next

end Sys2Proof.Machine
end

section
/-! PROOF. The print cycle (R185 to R190): the renderer, the strike of a READY line, paper out, and a line fed. -/

namespace Sys2Proof.Machine

/-! ## Rendering (R185, R186) -/

/-- The text line formed, or kept, at dot line `n` of a slip of `k` text lines, and the 48 bytes of the dot line. -/
theorem composeText_eq (t : Settings) (slip : Slip) (n : Nat) (held : List Nat) :
    composeText t slip n held
      = if (8 ≤ n ∧ n < 8 + 28 * (slip.lines t).length) ∧ (n - 8) % 28 = 0 then (slip.lines t).getD ((n - 8) / 28) []
        else held := by
  simp only [composeText, and_assoc]

theorem dotLine_eq (m : Memory) (font : Nat) (t : Settings) (slip : Slip) (n : Nat) (text : List Nat) :
    dotLine m font t slip n text
      = if (8 ≤ n ∧ n < 8 + 28 * (slip.lines t).length) ∧ (n - 8) % 28 < 24 then glyphRow m font ((n - 8) % 28) text
        else List.replicate 48 0 := by
  simp only [dotLine, and_assoc]
  rfl

theorem execDotLineRendered_renders {s : State} {slip : Slip} (hslip : s.printer.queue[s.printer.composer.slip]? = some slip)
    (hprinting : s.printer.state = .printing)
    (hempty : (s.printer.buffers.get s.printer.renderNext).state = .empty) :
    exec .dotLineRendered s = .next (s.withPrinter (s.printer.render s.mem s.geometry.font s.settings slip)) := by
  simp only [exec, execDotLineRendered, hslip, hprinting, hempty, and_self, if_true]

/-! ## The strike, and paper out (R187 to R189) -/

section Start

variable {s : State} (hprinting : s.printer.state = .printing) (hstrobe : s.printer.strobe = none)
  (hready : (s.printer.buffers.get s.printer.printNext).state = .ready)
include hprinting hstrobe hready

theorem execDotLineStart_strikes (hpaper : s.printer.paper = true) :
    exec .dotLineStart s = .next (s.withPrinter (s.printer.strike s.settings.strobeWidth)) :=
  (if_pos ⟨hprinting, hstrobe, hready⟩).trans (if_pos hpaper)

theorem execDotLineStart_runsOut (hpaper : s.printer.paper = false) :
    exec .dotLineStart s = .next ((s.withPrinter s.printer.runOut).raise .printerStopped) :=
  (if_pos ⟨hprinting, hstrobe, hready⟩).trans (if_neg (Bool.eq_false_iff.1 hpaper))

end Start

theorem execPaperSensorChange_changes {s : State} {high : Bool} (h : high ≠ s.printer.paper) :
    exec (.paperSensorChange high) s = .next (s.withPrinter
      { s.printer with
        paper := high
        paperTimer := if s.printer.state = .paperOut ∧ high = true then some 2000 else none }) := if_neg h

theorem execPaperTimerExpire_restarts {s : State} (hout : s.printer.state = .paperOut) (htimer : s.printer.paperTimer ≠ none) :
    exec .paperTimerExpire s = .next (s.withPrinter s.printer.start) :=
  if_pos ⟨hout, Option.isSome_iff_ne_none.2 htimer⟩

/-! ## A line fed (R187, R190) -/

/-- The printer once a dot line has been fed. -/
def Printer.feed (p : Printer) (period : Nat) : Printer := { p with strobe := none, step := some period, fed := p.fed + 1 }

theorem execDotLineFed_feeds {s : State} {slip : Slip} {rest : List Slip} (hprinting : s.printer.state = .printing)
    (hstrobe : s.printer.strobe ≠ none) (hqueue : s.printer.queue = slip :: rest) :
    let fed := s.withPrinter (s.printer.feed s.settings.stepPeriod)
    exec .dotLineFed s
      = .next (if s.printer.fed + 1 < slip.dotLines s.settings then fed else fed.completeSlip) := by
  intro fed
  refine (if_pos ⟨hprinting, Option.isSome_iff_ne_none.2 hstrobe⟩).trans ?_
  have hhead : s.printer.queue.head? = some slip := by rw [hqueue]; rfl
  simp only [hhead, ← apply_ite]
  rfl

/-- The head slip leaves: another follows, or the printer is at rest (R190). -/
theorem Printer.finishSlip_follows {p : Printer} {slip : Slip} {rest : List Slip} (hqueue : p.queue = slip :: rest)
    (h : rest ≠ []) :
    p.finishSlip = { p with queue := rest, fed := 0, composer := { p.composer with slip := p.composer.slip - 1 } } := by
  obtain ⟨next, more, rfl⟩ := List.exists_cons_of_ne_nil h
  simp only [Printer.finishSlip, hqueue, List.tail_cons]

theorem Printer.finishSlip_rests {p : Printer} {slip : Slip} (hqueue : p.queue = [slip]) :
    p.finishSlip = { p.start with queue := [], state := .idle } := by
  simp only [Printer.finishSlip, hqueue, List.tail_cons]

theorem State.completeSlip_eq (s : State) (p : Printer) (h : s.printer.finishSlip = p) :
    s.completeSlip = ((s.countPrinter 0x64).withPrinter p).raise .slipPrinted := by
  subst h
  rfl

end Sys2Proof.Machine
end

section
/-! PROOF. What a restart counts of the printer (R179, R190, R191). -/

namespace Sys2Proof.Machine

/-! ## Slips printed -/

theorem State.completesSlip_false {s : State}
    (h : s.printer.state ≠ .printing ∨ s.printer.strobe = none ∨
      ∀ slip, s.printer.queue.head? = some slip → s.printer.fed + 1 < slip.dotLines s.settings) :
    s.completesSlip = false := by
  unfold State.completesSlip
  split
  · rfl
  · next slip hslip =>
    simp only [Bool.and_eq_false_iff, beq_eq_false_iff_ne, Option.isSome_eq_false_iff, Option.isNone_iff_eq_none,
      decide_eq_false_iff_not, Nat.not_le, or_assoc]
    exact h.imp_right (Or.imp_right fun h => h slip hslip)

/-- A work that has not begun leaves nothing. -/
theorem State.interrupt_not_begun {s : State} {w : Work} (h : s.begun [] w = false) (n : Nat) :
    s.interrupt [(w, n)] = s := by
  rw [State.interrupt_one, h]
  rfl

theorem State.stepsOf_slipsPrinted (s : State) :
    s.stepsOf (.count .slipsPrinted) = if s.completesSlip = true then [[]] else [] := rfl

theorem State.begun_slipsPrinted {s : State} (h : s.completesSlip = false) (made : List Work) :
    s.begun made (.count .slipsPrinted) = false :=
  State.begun_of_no_step s made _ (s.stepsOf_slipsPrinted.trans (if_neg (Bool.eq_false_iff.1 h)))

/-! ## Slips lost -/

theorem State.slipLost_room {s : State} (h : s.printer.queue.length < 16) : s.slipLost = false :=
  decide_eq_false (Nat.not_le.2 h)

/-- A close loses no slip while the queue has room, or where it requests none (R31). -/
theorem State.closeSession_notLost {s : State} {i : Fin 4}
    (h : s.printer.queue.length < 16 ∨ (s.station i).session = none ∨ ¬ s.closePrints i) : (s.closeSession i).2 = false := by
  cases hs : (s.station i).session with
  | none => rw [State.closeSession_none hs]
  | some se =>
    by_cases hp : s.closePrints i
    · rw [State.closeSession_prints s i se hs hp]
      have hroom : s.printer.queue.length < 16 :=
        h.resolve_right fun h => h.elim (fun hno => Option.some_ne_none se (hs.symm.trans hno)) fun hno => hno hp
      exact State.slipLost_room hroom
    · rw [State.closeSession_silent s i se hs hp]

theorem State.idleSlipLost_false {s : State} {i : Fin 4}
    (h : s.printer.queue.length < 16 ∨
      let t := s.station i
      t.deadline = none ∨ t.slot ≠ none ∨ t.inFlight ≠ none ∨ t.session = none ∨ t.items = [] ∨
        s.settings.slipFlags.getLsbD i.val = false) :
    s.idleSlipLost i = false := by
  have closes (h : s.printer.queue.length < 16 ∨ (s.station i).session = none ∨ ¬ s.closePrints i) :
      s.idleSlipLost i = false := by
    simp only [State.idleSlipLost, State.closeSession_notLost h, Bool.and_false]
  rcases h with h | h | h | h | h | h | h
  · exact closes (.inl h)
  · simp [State.idleSlipLost, h]
  · simp [State.idleSlipLost, Option.isNone_eq_false_iff.2 (Option.isSome_iff_ne_none.2 h)]
  · simp [State.idleSlipLost, Option.isNone_eq_false_iff.2 (Option.isSome_iff_ne_none.2 h)]
  · exact closes (.inr (.inl h))
  · exact closes (.inr (.inr fun hp => hp.1 h))
  · exact closes (.inr (.inr fun hp => Bool.false_ne_true (h.symm.trans hp.2)))

theorem State.modeSlipLost_false {s : State}
    (h : s.printer.queue.length < 16 ∨ s.orderAt kindSetStationMode .flight = none) : s.modeSlipLost = false := by
  unfold State.modeSlipLost
  split
  · rfl
  · next o ho =>
    have hroom := h.resolve_right (ne_of_eq_of_ne ho (Option.some_ne_none o))
    split
    · next i _ _ _ => rw [State.closeSession_notLost (i := i) (.inl hroom), Bool.and_false]
    · rfl

theorem State.textSlipLost_false {s : State}
    (h : s.printer.queue.length < 16 ∨ s.orderAt kindPrintText .owner = none) : s.textSlipLost = false := by
  unfold State.textSlipLost
  split
  · rfl
  · next o ho =>
    rw [State.slipLost_room (h.resolve_right (ne_of_eq_of_ne ho (Option.some_ne_none o))), Bool.and_false]

theorem State.stepsOf_slipsLost (s : State) :
    s.stepsOf (.count .slipsLost)
      = (if ((turnFrom 0).any s.idleSlipLost || s.modeSlipLost || s.textSlipLost) = true then [[]] else [])
        ++ if s.txnSlipLost = true then [[.engine]] else [] := rfl

/-- Where no close and no order loses a slip, the transaction in progress alone can, once its writes are whole. -/
theorem State.begun_slipsLost {s : State} (hidle : ∀ i, s.idleSlipLost i = false) (hmode : s.modeSlipLost = false)
    (htext : s.textSlipLost = false) : s.begun [] (.count .slipsLost) = false := by
  have hturn : ((turnFrom 0).any s.idleSlipLost || s.modeSlipLost || s.textSlipLost) = false := by
    simp [hidle, hmode, htext]
  rw [State.begun, s.stepsOf_slipsLost, if_neg (Bool.eq_false_iff.1 hturn), List.nil_append]
  split <;> rfl

/-! ## The transaction in progress -/

/-- A transaction stopped short of its last write. -/
theorem State.engine_unfinished {s : State} {t : Txn} (h : s.engaged t) (hf : (planTxn s t).fault = none) {k : Nat}
    (hk : k < ((planTxn s t).writes s).length) : ¬ (s.job .engine).writes.length ≤ k := by
  have hbusy : (s.busyWith fun _ => true) = some t := by
    simp only [State.busyWith, h.1, h.2.1, State.engaged_attached h, and_self, if_true]
  have hjob : s.job .engine = s.txnJob t := by
    rw [State.attachedJob_eq (State.engaged_attached h), State.attachedJob, hbusy]
  have hwrites : (s.txnJob t).writes = (planTxn s t).writes s := by simp only [State.txnJob, hf]
  rw [hjob, hwrites]
  exact Nat.not_le.2 hk

/-- A count that waits for the transaction's writes has not begun before they are whole. -/
theorem State.interrupt_engine_count {s : State} {c : GroupCount} {k : Nat}
    (hengine : ¬ (s.job .engine).writes.length ≤ k) (hcount : s.begun [] (.count c) = false) (n : Nat) :
    s.interrupt [(.engine, k), (.count c, n)] = s.interrupt [(.engine, k)] := by
  have honce : onceEach [] [(Work.engine, k), (.count c, n)] = [(.engine, k), (.count c, n)] := rfl
  have hone : onceEach [] [(Work.engine, k)] = [(.engine, k)] := rfl
  simp only [State.interrupt, honce, hone, State.leaveEach, State.begun_engine, if_true, if_neg hengine, hcount,
    Bool.false_eq_true, if_false]

end Sys2Proof.Machine
end

section
/-! PROOF. The text lines of a slip (R183, R184). -/

namespace Sys2Proof.Machine

/-! ## Digits, and a line of 24 characters -/

/-- The last `w` decimal digits of a number, the most significant first. -/
theorem digitCodes_eq (w n : Nat) : digitCodes n w = (List.range w).map fun i => 48 + n / 10 ^ (w - 1 - i) % 10 := by
  induction w generalizing n with
  | zero => rfl
  | succ w ih =>
    rw [digitCodes, ih, List.range_succ, List.map_append]
    congr 1
    · refine List.map_congr_left fun i hi => ?_
      have hexp : w + 1 - 1 - i = (w - 1 - i) + 1 := by
        have := List.mem_range.1 hi
        omega
      rw [hexp, Nat.pow_succ', Nat.div_div_eq_div_mul]
    · simp

theorem finishLine_eq (l : List Nat) :
    finishLine l = ((l ++ List.replicate 24 32).take 24).map fun c => if 32 ≤ c ∧ c ≤ 127 then c else 63 := by
  have htake : (l ++ List.replicate (24 - l.length) 32).take 24 = (l ++ List.replicate 24 32).take 24 := by
    simp only [List.take_append, List.take_replicate, Nat.min_self, Nat.min_eq_left (Nat.sub_le 24 l.length)]
  rw [finishLine, htake]
  rfl

/-! ## The lines of each kind of slip -/

/-- A time as printed (R128). -/
theorem printTime_some (minute : Nat) :
    printTime (some minute) = digitCodes (minute / 60) 2 ++ [58] ++ digitCodes (minute % 60) 2 := rfl

/-- The station of a slip as the date line names it (R184). -/
def Slip.stationCode (slip : Slip) : Nat :=
  match slip.station with
  | some i => 48 + i.val
  | none => 45

/-- The date line of a slip with a stamp (R184). -/
theorem dateLine_stamped {t : Settings} {slip : Slip} {st : Stamp} (h : slip.stamp = some st) :
    dateLine t slip
      = t.date (some st.day) ++ [32] ++ printTime (some st.minute) ++ [32, 32, 32, 32, 32, 32, 83] ++ [slip.stationCode] := by
  rw [List.append_assoc _ [32, 32, 32, 32, 32, 32, 83], dateLine, h, List.append_assoc _ (List.replicate 6 32)]
  rfl

theorem dateLine_unstamped {t : Settings} {slip : Slip} (h : slip.stamp = none) :
    dateLine t slip
      = t.date none ++ [32, 45, 45, 58, 45, 45] ++ [32, 32, 32, 32, 32, 32, 83] ++ [slip.stationCode] := by
  rw [List.append_assoc _ [32, 32, 32, 32, 32, 32, 83], dateLine, h, List.append_assoc _ (List.replicate 6 32),
    List.append_assoc (t.date _)]
  rfl

section Lines

variable (t : Settings) {slip : Slip}

theorem Slip.lines_dueDate (h : slip.kind = .dueDate) :
    slip.lines t
      = ([t.header1, t.header2, dateLine t slip] ++ [wordBorrower ++ [32] ++ maskedNumber slip.borrower]
          ++ (slip.entries.map (entryLines t)).flatten
          ++ [wordItems ++ [32] ++ countCodes slip.entries.length, t.footer]).map finishLine := by
  simp only [Slip.lines, h, List.flatMap_def, List.append_assoc, List.cons_append, List.nil_append]

theorem Slip.lines_hold (h : slip.kind = .hold) :
    slip.lines t
      = ([t.header1, t.header2, dateLine t slip] ++ [wordHoldFor ++ [32] ++ maskedNumber slip.holdBorrower, shelfItemLine slip,
          wordPickUpBy ++ [32] ++ t.date (some slip.deadline), t.footer]).map finishLine := by
  simp only [Slip.lines, h, List.cons_append, List.nil_append]

theorem Slip.lines_reshelve (h : slip.kind = .reshelve) :
    slip.lines t
      = ([t.header1, t.header2, dateLine t slip] ++ [wordReshelve, shelfItemLine slip, t.footer]).map finishLine := by
  simp only [Slip.lines, h, List.cons_append, List.nil_append]

theorem Slip.lines_text (h : slip.kind = .text) :
    slip.lines t
      = ([t.header1, t.header2, dateLine t slip] ++ slip.text ++ [t.footer]).map finishLine := by
  simp only [Slip.lines, h]

end Lines

theorem countCodes_eq (n : Nat) : countCodes n = digitCodes n (if n < 10 then 1 else 2) := by
  rw [countCodes, apply_ite (digitCodes n)]

end Sys2Proof.Machine
end

section
/-! PROOF. The calendar from 1 January 2000 (R128), and a date as printed (R129). -/

namespace Sys2Proof.Machine

theorem isLeap_iff (y : Nat) : isLeap y = true ↔ y % 4 = 0 ∧ (y % 100 ≠ 0 ∨ y % 400 = 0) := by
  simp [isLeap]

/-! ## The year of a day -/

theorem le_yearLength (y : Nat) : 365 ≤ yearLength y := by
  unfold yearLength
  split <;> omega

/-- The days of `k` years from 1 January of year `y` on. -/
def yearDays (y k : Nat) : Nat := ((List.range k).map fun i => yearLength (y + i)).sum

theorem yearDays_succ (y k : Nat) : yearDays y (k + 1) = yearLength y + yearDays (y + 1) k := by
  simp only [yearDays, List.range_succ_eq_map, List.map_cons, List.sum_cons, List.map_map, Function.comp_def,
    Nat.succ_eq_add_one, Nat.add_zero]
  congr 4
  funext i
  rw [Nat.add_assoc, Nat.add_comm 1]

theorem le_yearDays (y k : Nat) : 365 * k ≤ yearDays y k := by
  induction k generalizing y with
  | zero => exact Nat.zero_le _
  | succ k ih =>
    have year := le_yearLength y
    have years := ih (y + 1)
    rw [yearDays_succ]
    omega

/-- Day `r` of the year `k` years on. -/
theorem civilYear_eq {y k r fuel : Nat} (hr : r < yearLength (y + k)) (hk : k ≤ fuel) :
    civilYear y (yearDays y k + r) fuel = (y + k, r) := by
  induction k generalizing y fuel with
  | zero =>
    have hzero : yearDays y 0 + r = r := Nat.zero_add r
    rw [hzero]
    cases fuel with
    | zero => rfl
    | succ fuel => exact if_pos hr
  | succ k ih =>
    obtain ⟨fuel, rfl⟩ := Nat.exists_eq_add_of_le' (Nat.le_trans (Nat.le_add_left 1 k) hk)
    have hyear : y + 1 + k = y + (k + 1) := by omega
    have hrest : yearDays y (k + 1) + r - yearLength y = yearDays (y + 1) k + r := by
      rw [yearDays_succ]
      omega
    rw [civilYear, if_neg (by rw [yearDays_succ]; omega), hrest, ih (hyear ▸ hr) (Nat.le_of_succ_le_succ hk), hyear]

/-! ## The month of a day -/

/-- Day `r` of the month `m` months on, by the lengths of the months. -/
theorem civilMonth_eq {lengths : List Nat} {k m r : Nat} (hr : r < lengths.getD m 0) :
    civilMonth k ((lengths.take m).sum + r) lengths = (k + m, r + 1) := by
  induction lengths generalizing k m with
  | nil => exact absurd hr (Nat.not_lt_zero r)
  | cons l ls ih =>
    cases m with
    | zero =>
      have hzero : ((l :: ls).take 0).sum + r = r := Nat.zero_add r
      rw [hzero]
      exact if_pos hr
    | succ m =>
      have hsum : ((l :: ls).take (m + 1)).sum + r = l + ((ls.take m).sum + r) := by
        rw [List.take_succ_cons, List.sum_cons, Nat.add_assoc]
      rw [hsum, civilMonth, if_neg (by omega), Nat.add_sub_cancel_left, ih hr]
      congr 1
      omega

theorem monthLengths_sum (y : Nat) : (monthLengths y).sum = yearLength y := by
  unfold monthLengths yearLength
  split <;> rfl

/-- A day of a month lies within the year. -/
theorem monthDay_lt {y m r : Nat} (hr : r < (monthLengths y).getD m 0) :
    ((monthLengths y).take m).sum + r < yearLength y := by
  have hm : m < (monthLengths y).length := by
    by_contra hlong
    rw [List.getD_eq_default _ _ (Nat.not_lt.1 hlong)] at hr
    exact Nat.not_lt_zero r hr
  have hget : (monthLengths y).getD m 0 = (monthLengths y)[m] := List.getD_eq_getElem _ _ hm
  have hsplit := List.sum_take_add_sum_drop (monthLengths y) m
  rw [List.drop_eq_getElem_cons hm, List.sum_cons, monthLengths_sum] at hsplit
  omega

/-- The day number of a date is its date again (R128). -/
theorem civilDate_eq {y month d : Nat} (hy : 2000 ≤ y) (hmonth : 1 ≤ month) (hd : 1 ≤ d)
    (hlast : d ≤ (monthLengths y).getD (month - 1) 0)
    (hday : yearDays 2000 (y - 2000) + ((monthLengths y).take (month - 1)).sum + (d - 1) ≤ 65535) :
    civilDate (yearDays 2000 (y - 2000) + ((monthLengths y).take (month - 1)).sum + (d - 1)) = (y, month, d) := by
  have hr : d - 1 < (monthLengths y).getD (month - 1) 0 := by omega
  have hyears := le_yearDays 2000 (y - 2000)
  have hyear := civilYear_eq (y := 2000) (k := y - 2000) (fuel := 180)
    (r := ((monthLengths y).take (month - 1)).sum + (d - 1))
    (by rw [Nat.add_sub_cancel' hy]; exact monthDay_lt hr) (by omega)
  rw [← Nat.add_assoc, Nat.add_sub_cancel' hy] at hyear
  simp only [civilDate, hyear, civilMonth_eq hr, Nat.add_sub_cancel' hmonth, Nat.sub_add_cancel hd]

end Sys2Proof.Machine
end

section
/-! PROOF. The printer, assembled. -/

namespace Sys2Proof.Machine

/-- Settles O55. -/
theorem dotLinesArePrinted : Obligations.DotLinesArePrinted := by
  refine ⟨fun s => ?_, fun t slip => ?_, fun o separator y month d => ?_⟩
  · intro p
    refine ⟨fun slip hslip hprinting hempty => ?_, fun hprinting hstrobe hready => ⟨?_, ?_⟩,
      fun slip rest hprinting hstrobe hqueue => ?_, fun high hhigh => ⟨fun h => ?_, fun h => ?_⟩,
      execPaperTimerExpire_restarts, fun n h => ?_, fun n h => ?_⟩
    · intro n k inText text glyph bytes
      have htext : composeText s.settings slip n p.composer.text = text := composeText_eq _ _ _ _
      have hbytes : dotLine s.mem s.geometry.font s.settings slip n text = bytes := dotLine_eq _ _ _ _ _ _
      rw [execDotLineRendered_renders hslip hprinting hempty, Printer.render, htext, hbytes]
      rfl
    · exact execDotLineStart_strikes hprinting hstrobe hready
    · exact execDotLineStart_runsOut hprinting hstrobe hready
    · intro total fed
      have next := execDotLineFed_feeds hprinting hstrobe hqueue
      refine ⟨fun h => next.trans (congrArg _ (if_pos h)), fun h => ?_⟩
      have completes := next.trans (congrArg _ (if_neg (Nat.not_lt.2 h)))
      have finishes {q : Printer} (hq : fed.finishSlip = q) :
          exec .dotLineFed s = .next ((((s.withPrinter fed).countPrinter 0x64).withPrinter q).raise .slipPrinted) :=
        completes.trans (congrArg _ ((s.withPrinter fed).completeSlip_eq q hq))
      refine ⟨fun hrest => finishes (Printer.finishSlip_follows hqueue hrest), fun hrest => ?_⟩
      subst hrest
      exact finishes (Printer.finishSlip_rests hqueue)
    · rw [execPaperSensorChange_changes hhigh, if_pos h]
    · rw [execPaperSensorChange_changes hhigh, if_neg h]
    · exact State.interrupt_not_begun (State.begun_slipsPrinted (State.completesSlip_false h) []) n
    · have hcount : s.begun [] (.count .slipsLost) = false :=
        State.begun_slipsLost (fun i => State.idleSlipLost_false (h.imp_right fun ⟨idle, _, _⟩ => idle i))
          (State.modeSlipLost_false (h.imp_right fun ⟨_, mode, _⟩ => mode))
          (State.textSlipLost_false (h.imp_right fun ⟨_, _, text⟩ => text))
      refine ⟨State.interrupt_not_begun hcount n, fun t q k hengaged hq hfault hk => ?_⟩
      subst hq
      exact State.interrupt_engine_count (State.engine_unfinished hengaged hfault hk) hcount n
  · intro codes digits date time filled station stamped first masked entry count item
    have hdigits (w n : Nat) : digits w n = digitCodes n w := (digitCodes_eq w n).symm
    have htime (minute : Nat) : time minute = printTime (some minute) := by
      rw [printTime_some, ← hdigits, ← hdigits]
      rfl
    have hfilled : filled = finishLine := funext fun l => (finishLine_eq l).symm
    have hfirst : first = [t.header1, t.header2, dateLine t slip] := by
      cases hstamp : slip.stamp with
      | none =>
        rw [dateLine_unstamped hstamp]
        simp only [first, stamped, hstamp]
        rfl
      | some st =>
        rw [dateLine_stamped hstamp, ← htime]
        simp only [first, stamped, hstamp]
        rfl
    have hmasked (n : Nat) : masked n = maskedNumber n := congrArg (codes "****" ++ ·) (hdigits 4 n)
    have hentry : entry = entryLines t := by
      funext e
      simp only [entry, hdigits, htime, entryLines, Bool.and_eq_true]
      rfl
    have hitem : item = shelfItemLine slip := hdigits 10 _
    rw [hfilled, hfirst, hentry, hitem, hmasked, hmasked, hdigits, ← countCodes_eq]
    exact ⟨Slip.lines_dueDate t, Slip.lines_hold t, Slip.lines_reshelve t, Slip.lines_text t⟩
  · intro leap months day digits between inOrder
    have hdigits (w n : Nat) : digits w n = digitCodes n w := (digitCodes_eq w n).symm
    have hmonths : months = monthLengths y := by
      have hfebruary : (if leap y then 29 else 28) = if isLeap y = true then 29 else 28 :=
        if_congr (isLeap_iff y).symm rfl rfl
      simp only [months, hfebruary]
      rfl
    have hyears : ((List.range (y - 2000)).map fun i => if leap (2000 + i) then 366 else 365).sum = yearDays 2000 (y - 2000) :=
      congrArg List.sum (List.map_congr_left fun i _ => if_congr (isLeap_iff (2000 + i)).symm rfl rfl)
    refine ⟨by cases o <;> rfl, fun hy hmonth _ hd hlast hday => ?_⟩
    have hdate : civilDate day = (y, month, d) := by
      simp only [day, hyears, hmonths] at hday ⊢
      exact civilDate_eq hy hmonth hd (hmonths ▸ hlast) hday
    have printed : printDate o separator (some day)
        = inOrder (digitCodes (civilDate day).2.2 2) (digitCodes (civilDate day).2.1 2) (digitCodes (civilDate day).1 4) := by
      cases o <;> rfl
    rw [printed, hdate, hdigits, hdigits, hdigits]

end Sys2Proof.Machine
end

section
/-! PROOF. The append of a journal entry (R148 to R151). -/

namespace Sys2Proof.Machine

/-! ## The two places of an append -/

theorem Journal.append_filling {j : Journal} {p : Nat} (h : j.filling = some p) (g : Geometry) (m : Memory) (group : Nat) :
    j.append g m group = j.appendTo g m group p := by
  rw [Journal.append, h]

theorem Journal.append_fresh {j : Journal} (h : j.filling = none) (g : Geometry) (m : Memory) (group : Nat) :
    j.append g m group = j.appendFresh g := by
  rw [Journal.append, h]

/-! ## The FILLING page (R150) -/

/-- The FILLING page keeps places left: its count rises. -/
theorem Journal.appendTo_counts {j : Journal} {p : Nat} (h : (j.page p).count + 1 < 32) (g : Geometry) (m : Memory)
    (group : Nat) :
    let counted := { j.page p with count := (j.page p).count + 1 }
    j.appendTo g m group p
      = { target := (j.page p).address + 32 * (j.page p).count, images := [descriptorImage g p counted]
          view := (j.setPage p counted).consume } := if_pos h

/-- The page whose last place an append takes. -/
def Journal.filled (j : Journal) (p : Nat) : Page := { j.page p with state := .full, count := 32 }

/-- The page after `p` made FILLING from the sequence that follows the appended entry. -/
def Journal.opened (j : Journal) (p : Nat) : Page :=
  { (j.setPage p (j.filled p)).page (j.after p) with
    state := .filling, first := wrap32 (j.nextSequence + 1), count := 0 }

section LastPlace

variable {j : Journal} {p : Nat} (h : (j.page p).count + 1 = 32) (g : Geometry) (m : Memory) (group : Nat)
include h

theorem Journal.lastPlace : (j.page p).address + 32 * (j.page p).count = (j.page p).address + 992 := by omega

/-- The last place is taken before a FREE page, which becomes the FILLING one. -/
theorem Journal.appendTo_turns (hfree : ((j.setPage p (j.filled p)).page (j.after p)).state = .free) :
    j.appendTo g m group p
      = { target := (j.page p).address + 992
          images := [descriptorImage g p (j.filled p), descriptorImage g (j.after p) (j.opened p)]
          view := { (j.setPage p (j.filled p)).setPage (j.after p) (j.opened p) with
                    filling := some (j.after p), newest := some (j.after p), nextPage := j.after (j.after p) }.consume } := by
  rw [← Journal.lastPlace h]
  exact (if_neg (by omega)).trans (if_pos hfree)

/-- The last place is taken before a page in use: the journal group names the page that will follow. -/
theorem Journal.appendTo_ends (hused : ((j.setPage p (j.filled p)).page (j.after p)).state ≠ .free) :
    j.appendTo g m group p
      = { target := (j.page p).address + 992
          images := [descriptorImage g p (j.filled p),
            journalGroupImage m group (j.after p) (wrap32 (j.nextSequence + 1))]
          view := { j.setPage p (j.filled p) with filling := none, nextPage := j.after p }.consume } := by
  rw [← Journal.lastPlace h]
  exact (if_neg (by omega)).trans (if_neg hused)

end LastPlace

/-- Settles O43. -/
theorem entriesAreAppended : Obligations.EntriesAreAppended := by
  intro j g m group descriptor seq n
  refine ⟨fun p hfilling hleft => ?_, fun p hfilling hlast => ⟨fun hfree => ?_, fun hused => ?_⟩, fun hfilling => ?_⟩
  · exact (Journal.append_filling hfilling g m group).trans (Journal.appendTo_counts hleft g m group)
  · exact (Journal.append_filling hfilling g m group).trans (Journal.appendTo_turns hlast g m group hfree)
  · exact (Journal.append_filling hfilling g m group).trans (Journal.appendTo_ends hlast g m group hused)
  · exact Journal.append_fresh hfilling g m group

end Sys2Proof.Machine
end

section
/-! PROOF. RELEASE_PAGES and the pages it frees (R155, R158), and the marks (R154). -/

namespace Sys2Proof.Machine

/-! ## Pages freed (R155) -/

theorem State.freeOldestPage_none {s : State} (h : s.journal.oldest = none) : s.freeOldestPage = s := by
  rw [State.freeOldestPage, h]

theorem Journal.freeOldest_frees {j : Journal} {p : Nat} (h : j.oldest = some p) :
    j.freeOldest
      = { j.setPage p { j.page p with state := .free } with
          oldest := if j.newest = some p then none else some (j.after p)
          newest := if j.newest = some p then none else j.newest
          cutCount := j.cutCount - 1
          room := j.room + 32 } := by
  rw [Journal.freeOldest, h]

section Oldest

variable {s : State} {p : Nat} (h : s.journal.oldest = some p)
include h

theorem State.freeOldestPage_frees :
    s.freeOldestPage
      = if s.journal.room = 0 then
          ((s.writeAll [stateWord s.geometry p .free]).withJournal s.journal.freeOldest).withSweep s.sweep.resume
        else (s.writeAll [stateWord s.geometry p .free]).withJournal s.journal.freeOldest := by
  rw [State.freeOldestPage, h]

/-- Room rises from 0: a DEFERRED sweep goes on (R140, R152). -/
theorem State.freeOldestPage_resumes (hroom : s.journal.room = 0) (hsweep : s.sweep.state = .deferred) :
    s.freeOldestPage
      = ((s.writeAll [stateWord s.geometry p .free]).withJournal s.journal.freeOldest).withSweep
          { s.sweep with state := .running } := by
  rw [State.freeOldestPage_frees h, if_pos hroom, Sweep.resume, if_pos hsweep]

/-- Room that was there before, or a sweep that is not DEFERRED: the sweep stays as it is. -/
theorem State.freeOldestPage_stays (hstays : ¬ (s.journal.room = 0 ∧ s.sweep.state = .deferred)) :
    s.freeOldestPage = (s.writeAll [stateWord s.geometry p .free]).withJournal s.journal.freeOldest := by
  rw [State.freeOldestPage_frees h]
  split
  case isTrue hroom =>
    rw [Sweep.resume, if_neg fun hsweep => hstays ⟨hroom, hsweep⟩]
    rfl
  case isFalse => rfl

end Oldest

/-- The pages are freed one after the other: the last of them after those before it. -/
theorem State.freePages_succ (s : State) (n : Nat) : s.freePages (n + 1) = (s.freePages n).freeOldestPage := by
  induction n generalizing s with
  | zero => rfl
  | succ n ih => exact ih s.freeOldestPage

/-! ## RELEASE_PAGES (R158) -/

theorem execReleasePages_limit {s : State} {o : Order} (h : s.orderAt kindReleasePages .owner = some o)
    (hpages : o.a = 0 ∨ 128 < o.a ∨ s.journal.fullAtOldEnd < o.a) :
    execReleasePages s = .next (s.finishOrder .limit) := by
  have outside : o.a < 1 ∨ 128 < o.a ∨ s.journal.fullAtOldEnd < o.a := hpages.imp_left Nat.lt_one_iff.2
  simp only [execReleasePages, h, if_pos outside]

theorem execReleasePages_frees {s : State} {o : Order} (h : s.orderAt kindReleasePages .owner = some o) (hlow : 1 ≤ o.a)
    (hhigh : o.a ≤ 128) (hfull : o.a ≤ s.journal.fullAtOldEnd) :
    execReleasePages s = .next ((s.freePages o.a).orderWaits (.markGrant o.a (s.journal.lastReleased o.a))) := by
  have inside : ¬ (o.a < 1 ∨ 128 < o.a ∨ s.journal.fullAtOldEnd < o.a) := by omega
  simp only [execReleasePages, h, if_neg inside]

/-! ## Marks (R154) -/

/-- The gate that refuses a mark (R90, R154). -/
theorem Txn.gate_mark (t : Txn) :
    t.gate .aboveReserve true
      = if t.halted then some .deskHalted else if t.stamp = none then some .clockUnset
        else if t.room ≤ 64 then some .journalFull else none := by
  cases hhalted : t.halted with
  | true => exact Txn.gate_halted hhalted _ _
  | false =>
    cases hstamp : t.stamp with
    | none => exact Txn.gate_clockUnset hhalted hstamp _
    | some st =>
      by_cases hroom : t.room ≤ 64
      · rw [Txn.gate_journalFull hhalted (.inr (by simp [hstamp])) (RoomClass.aboveReserve_allows hroom)]
        simp [hroom]
      · rw [Txn.gate_aboveReserve ⟨hhalted, hstamp, Nat.not_le.1 hroom⟩]
        simp [hroom]

/-- The count of omitted marks, raised under the change count of the journal group. -/
theorem markOmittedWrites_eq (m : Memory) (group : Nat) :
    markOmittedWrites m group
      = [{ addr := group, word := openingCount (m.read16 group) },
         { addr := group + 8, word := min (m.read16 (group + 8) + 1) 65535 },
         { addr := group, word := (openingCount (m.read16 group) + 1) % 65536 }] := by
  have fits : sat16 (m.read16 (group + 8) + 1) % 65536 = min (m.read16 (group + 8) + 1) 65535 :=
    Nat.mod_eq_of_lt (by rw [sat16]; omega)
  simp only [markOmittedWrites, groupWrites, putWords, fits]
  rfl

section Mark

variable (s : State) {t : Txn} (before : List WordWrite) (view : Journal) (e : EntryBody)

theorem markPlan_omits {r : Reason} (h : t.gate .aboveReserve true = some r) :
    markPlan s t before view e
      = { before := before ++ markOmittedWrites (s.mem.apply before) s.groupAddress, view := some view
          result := .mark (some r) } := by
  rw [markPlan, h]

theorem markPlan_commits (h : t.gate .aboveReserve true = none) :
    markPlan s t before view e = { before := before, view := some view, entry := some e, result := .mark none } := by
  rw [markPlan, h]

/-- Omitted or committed, the plan of a mark finds no fault. -/
theorem markPlan_fault : (markPlan s t before view e).fault = none := by
  unfold markPlan
  split <;> rfl

end Mark

/-- The entry of a mark, with the stamp its transaction carries. -/
theorem markEntry_stamped {t : Txn} {st : Stamp} (h : t.stamp = some st) (k : EntryKind) (v1 v2 : Nat) :
    markEntry t k v1 v2
      = { kind := k, source := t.requester, flags := {}, stamp := st, borrower := 0, item := 0, value1 := v1, value2 := v2 } := by
  rw [markEntry, Txn.at, h]
  rfl

/-- Settles O41. -/
theorem pagesAndMarks : Obligations.PagesAndMarks := by
  refine ⟨⟨fun s o ho => ?_, fun s p hp => ?_, fun s n => ?_⟩, fun s t hengaged => ?_⟩
  · exact ⟨execReleasePages_limit ho, execReleasePages_frees ho⟩
  · intro freed u
    have hu : (s.writeAll [stateWord s.geometry p .free]).withJournal s.journal.freeOldest = u :=
      congrArg _ (Journal.freeOldest_frees hp)
    exact ⟨fun ⟨hroom, hsweep⟩ => hu ▸ State.freeOldestPage_resumes hp hroom hsweep,
      fun hstays => hu ▸ State.freeOldestPage_stays hp hstays⟩
  · exact ⟨State.freeOldestPage_none, rfl, s.freePages_succ n⟩
  · intro group c odd omitted refusal mark
    have planned (view : Journal) (k : EntryKind) (v1 v2 : Nat) :
        mark view k v1 v2 (markPlan s t [] view (markEntry t k v1 v2)) := by
      refine ⟨fun r hr => ?_, fun st hr hst => ?_⟩
      · rw [markPlan_omits s [] view _ (t.gate_mark.trans hr), markOmittedWrites_eq]
        rfl
      · rw [markPlan_commits s [] view _ (t.gate_mark.trans hr), markEntry_stamped hst]
    refine ⟨fun pages last hk => ⟨_, ?_, planned _ _ pages last⟩, fun hk => ⟨_, ?_, planned _ _ _ _⟩⟩
    · refine State.runTxn_plan hengaged _ planPagesReleased _ (by rw [hk]) ?_ (markPlan_fault ..)
      rw [planPagesReleased, Txn.released, hk]
    · exact State.runTxn_plan hengaged _ planUploadEnded _ (by rw [hk]; rfl) rfl (markPlan_fault ..)

end Sys2Proof.Machine
end

section
/-! PROOF. UPLOAD_STARTED: the cut (R156), and the mark at the room it leaves (R154, R170). -/

namespace Sys2Proof.Machine

/-! ## The cut (R156) -/

section Cut

variable {j : Journal} (g : Geometry) (m : Memory) (group : Nat)

/-- A FILLING page that holds entries is closed. -/
theorem Journal.cut_closes {p : Nat} (h : j.filling = some p) (hentries : (j.page p).count ≠ 0) :
    let closed := j.setPage p { j.page p with state := .full }
    j.cut g m group
      = { writes := groupWrites m group (journalGroupBody group (j.after p) j.nextSequence) ++ [stateWord g p .full]
          view := { closed with filling := none, nextPage := j.after p, room := j.room - (32 - (j.page p).count),
                                cutCount := fullPages closed.pages } } := by
  simp only [Journal.cut, h, if_neg hentries]

/-- Without a FILLING page that holds entries, the cut counts the FULL pages alone. -/
theorem Journal.cut_counts (h : j.filling = none ∨ ∃ p, j.filling = some p ∧ (j.page p).count = 0) :
    j.cut g m group = { writes := [], view := { j with cutCount := fullPages j.pages } } := by
  rcases h with h | ⟨p, h, hempty⟩
  · simp only [Journal.cut, h]
  · simp only [Journal.cut, h, if_pos hempty]

end Cut

/-! ## The step -/

/-- The transaction as the gates see it: at the room the cut leaves (R156, log entry 26, DESIGN CHOICE). -/
def Txn.atRoom (t : Txn) (room : Nat) : Txn := { t with room := room }

theorem planUploadStarted_cut {s : State} {ws : List WordWrite} {view : Journal}
    (hcut : s.journal.cut s.geometry s.mem s.groupAddress = { writes := ws, view := view }) (t : Txn) :
    planUploadStarted s t
      = markPlan s (t.atRoom view.room) ws view (markEntry t .uploadStarted s.journal.lastSequence view.cutCount) := by
  rw [planUploadStarted, hcut]
  rfl

/-- The state from which UPLOAD_STARTED concludes: the cut sequence is handed over with the cut (R156, R170). -/
def State.cutAt (s : State) : State := s.withUpload { s.upload with cutSequence := s.journal.lastSequence }

section Step

variable {s : State} {t : Txn} (hengaged : s.engaged t) (hk : t.kind = .uploadStarted)
include hengaged hk

theorem execUploadStarted_concludes : execUploadStarted s = .next (s.cutAt.conclude t (planUploadStarted s t)) := by
  have busy : s.busyWith (· == .uploadStarted) = some t := by
    have attached := State.engaged_attached hengaged
    obtain ⟨hbusy, hcurrent, -⟩ := hengaged
    simp only [State.busyWith, hbusy, hcurrent, hk, attached]
    rfl
  have plain : (planUploadStarted s t).fault = none := markPlan_fault ..
  rw [← State.carryOut_conclude _ _ _ plain, execUploadStarted, busy]
  rfl

variable {ws : List WordWrite} {view : Journal}
  (hcut : s.journal.cut s.geometry s.mem s.groupAddress = { writes := ws, view := view })
include hcut

theorem execUploadStarted_commits {st : Stamp} (hst : t.stamp = some st)
    (hgate : (t.atRoom view.room).gate .aboveReserve true = none) :
    execUploadStarted s = .next (s.cutAt.conclude t
      { before := ws, view := some view
        entry := some { kind := .uploadStarted, source := t.requester, flags := {}, stamp := st, borrower := 0, item := 0,
                        value1 := s.journal.lastSequence, value2 := view.cutCount }
        result := .mark none }) := by
  rw [execUploadStarted_concludes hengaged hk, planUploadStarted_cut hcut, markPlan_commits s ws view _ hgate,
    markEntry_stamped hst]

theorem execUploadStarted_omits {r : Reason} (hgate : (t.atRoom view.room).gate .aboveReserve true = some r) :
    execUploadStarted s = .next (s.cutAt.conclude t
      { before := ws ++ markOmittedWrites (s.mem.apply ws) s.groupAddress, view := some view, result := .mark (some r) }) := by
  rw [execUploadStarted_concludes hengaged hk, planUploadStarted_cut hcut, markPlan_omits s ws view _ hgate]

end Step

/-- Settles O42. -/
theorem uploadStartedCuts : Obligations.UploadStartedCuts := by
  intro s t hengaged hk j last group fullPages marks
  have marked {ws : List WordWrite} {view : Journal}
      (hcut : s.journal.cut s.geometry s.mem s.groupAddress = { writes := ws, view := view }) : marks ws view := by
    refine ⟨fun st hhalted hst hroom => ?_, fun r hr => ?_⟩
    · exact execUploadStarted_commits hengaged hk hcut hst
        (Txn.gate_aboveReserve (t := t.atRoom view.room) ⟨hhalted, hst, hroom⟩ _)
    · refine execUploadStarted_omits hengaged hk hcut ?_
      rcases hr with ⟨hhalted, rfl⟩ | ⟨hhalted, hst, rfl⟩ | ⟨hhalted, hst, hroom, rfl⟩
      · exact Txn.gate_halted (t := t.atRoom view.room) hhalted _ _
      · exact Txn.gate_clockUnset (t := t.atRoom view.room) hhalted hst _
      · exact Txn.gate_journalFull (t := t.atRoom view.room) hhalted (.inr hst) (RoomClass.aboveReserve_allows hroom)
  refine ⟨fun p hfilling hentries => ?_, fun hempty => ?_⟩
  · exact marked (Journal.cut_closes _ _ _ hfilling hentries)
  · exact marked (Journal.cut_counts _ _ _ hempty)

end Sys2Proof.Machine
end

section
/-! PROOF. What answers a frame (R162, R171, R172), and the good frames an upload takes (R167, R171, R173). -/

namespace Sys2Proof.Machine

/-! ## A count and a freed page take no free value -/

theorem State.count16_choices (s : State) (group off : Nat) : (s.count16 group off).choices = s.choices := by
  unfold State.count16 State.writeField
  split <;> rfl

theorem State.freeOldestPage_choices (s : State) : s.freeOldestPage.choices = s.choices := by
  unfold State.freeOldestPage
  split
  · rfl
  · dsimp only
    split <;> rfl

/-! ## Frames and pages sent (R155, R162, R171, R172) -/

section Sent

variable {s : State} {t : Transmission} (h : s.line.transmission = some t)
include h

theorem execFrameSent_sends (hgoes : s.line.ready = true ∨ (t.frame.octets s.mem).length ≤ t.begun) :
    execFrameSent s
      = .next ((s.withLine (s.line.finish (t.frame.octets s.mem) t.begun s.settings.parity)).withUpload
          { s.upload with replyTimer := some s.settings.replyTimeout }) := by
  simp only [execFrameSent, h, if_pos hgoes]

/-- Octets that have not begun wait for LINE_RDY (R162). -/
theorem execFrameSent_waits (hlow : s.line.ready = false) (hleft : t.begun < (t.frame.octets s.mem).length) :
    execFrameSent s = .next s := by
  have waits : ¬ (s.line.ready = true ∨ (t.frame.octets s.mem).length ≤ t.begun) := by simp [hlow, hleft]
  simp only [execFrameSent, h, if_neg waits]

end Sent

/-- The oldest page, when FULL and in the cut, becomes SENDING and its PAGE frame is sent. -/
theorem State.nextPage_sends {s : State} {p : Nat} (h : s.journal.oldest = some p) (hfull : (s.journal.page p).state = .full)
    (hcut : 0 < s.journal.cutCount) :
    s.nextPage
      = ((s.setPageState p .sending).count16 offReport offPagesSent).sendFrame
          (.page (s.journal.page p).address (s.journal.page p).first (s.journal.page p).count) := by
  have sendable : s.journal.sendable = some p := by simp only [Journal.sendable, h, hfull, hcut, and_self, if_true]
  simp only [State.nextPage, sendable]
  rfl

/-- With no page left to send, the CLOSE frame is sent. -/
theorem State.nextPage_closes {s : State}
    (h : ∀ p, s.journal.oldest = some p → ¬ ((s.journal.page p).state = .full ∧ 0 < s.journal.cutCount)) :
    s.nextPage = (s.withUpload { s.upload with state := .closing }).sendFrame (.closing s.upload.cutSequence) := by
  have unsendable : s.journal.sendable = none := by
    unfold Journal.sendable
    split
    · next p hp => exact if_neg (h p hp)
    · rfl
  simp only [State.nextPage, unsendable]

/-! ## Replies (R171) -/

/-- The state from which a reply moves the upload on: the receiver hunts again, and the reply timer is stopped (R166, R171). -/
def State.replied (s : State) : State := s.resumeLine.stopReplyTimer

theorem execTakenFrame_taken {s : State} {f : PartFrame} {ref : Nat} (hf : s.upload.frame = some f)
    (h : s.acceptedFrame = some (.taken ref)) :
    execTakenFrame s = .next (s.replied.frameTaken f s.settings.replyTimeout) := by
  simp only [execTakenFrame, h, hf]
  rfl

/-- The next page is asked for: the free value taken says whether it is handed over at once (R172, log entry 37). -/
theorem State.askPage_at {s : State} {n : Nat} (h : s.choices = n) :
    s.askPage
      = if Config.answersLater n = true then (s.withChoices (n + 1)).withUpload { s.upload with asking := true }
        else (s.withChoices (n + 1)).nextPage := by
  subst h
  rfl

/-- TAKEN of a PAGE frame: the page sent is freed and counted, and the next one is asked for (R172). -/
theorem State.frameTaken_page (s : State) (a b n timeout : Nat) :
    let freed := (s.freeOldestPage.count16 offReport offPagesTaken).withUpload { s.upload with frame := none }
    s.frameTaken (.page a b n) timeout
      = if Config.answersLater s.choices = true then
          (freed.withChoices (s.choices + 1)).withUpload { freed.upload with asking := true }
        else (freed.withChoices (s.choices + 1)).nextPage :=
  State.askPage_at ((State.count16_choices _ _ _).trans s.freeOldestPage_choices)

theorem execRefusedFrame_refused {s : State} {f : PartFrame} {ref : Nat} (hf : s.upload.frame = some f)
    (h : s.acceptedFrame = some (.refused ref)) : execRefusedFrame s = .next (s.replied.replyExpired f) := by
  simp only [execRefusedFrame, h, hf]
  rfl

theorem execReplyTimeout_expires {s : State} {f : PartFrame} {n : Nat} (hf : s.upload.frame = some f)
    (h : s.upload.replyTimer = some n) : execReplyTimeout s = .next (s.stopReplyTimer.replyExpired f) := by
  simp only [execReplyTimeout, h, hf]

/-! ## The good frames an upload takes (R167, R171, R173) -/

/-- The reply timer runs, and a reply with this reference answers the frame in hand. -/
theorem Upload.answers_iff (u : Upload) (reference : Nat) :
    u.answers reference = true ↔ u.replyTimer ≠ none ∧
      ((∃ b d m c n, u.frame = some (.opening b d m c n) ∧ reference = 0) ∨ (∃ a n, u.frame = some (.page a reference n)) ∨
        u.frame = some (.closing reference)) := by
  rw [Upload.answers, Bool.and_eq_true, Option.isSome_iff_ne_none, beq_iff_eq]
  refine and_congr_right fun _ => ?_
  cases u.frame with
  | none => simp
  | some f => cases f <;> simp [PartFrame.reference, eq_comm]

theorem State.acceptedFrame_ungood {s : State} (h : ∀ f, s.line.receiver ≠ .good f) : s.acceptedFrame = none := by
  unfold State.acceptedFrame
  split
  · next f hf => exact absurd hf (h f)
  · rfl

theorem State.acceptedFrame_good {s : State} {f : RxFrame} (h : s.line.receiver = .good f) :
    s.acceptedFrame = f.parse.filter s.upload.accepts := by
  rw [State.acceptedFrame, h]

/-- A good frame of a kind of the center is taken exactly when the upload accepts it. -/
theorem State.acceptedFrame_takes {s : State} {f : RxFrame} (h : s.line.receiver = .good f) {x : CenterFrame}
    (hx : f.parse = some x) {accepted : Prop} (haccepts : s.upload.accepts x = true ↔ accepted) :
    (accepted → s.acceptedFrame = some x) ∧ (¬ accepted → s.acceptedFrame = none) := by
  rw [State.acceptedFrame_good h, hx, ← haccepts]
  exact ⟨fun ha => Option.filter_some_pos ha, fun ha => Option.filter_some_neg (Bool.eq_false_of_not_eq_true ha)⟩

/-! ## The frames of the center by kind and length (R206) -/

section Parse

variable {f : RxFrame}

theorem RxFrame.parse_taken (h : f.kind = 0x81#8 ∧ f.length = 4) : f.parse = some (.taken (payload32 f.payload 0)) :=
  if_pos h

theorem RxFrame.parse_refused (h : f.kind = 0x82#8 ∧ f.length = 4) :
    f.parse = some (.refused (payload32 f.payload 0)) := by
  simp [RxFrame.parse, h]

theorem RxFrame.parse_notice (h : f.kind = 0x83#8 ∧ f.length = 10) :
    f.parse = some (.notice { borrower := payload32 f.payload 0, action := payload8 f.payload 4,
                              origin := payload16 f.payload 6, day := payload16 f.payload 8 }) := by
  simp [RxFrame.parse, h]

theorem RxFrame.parse_finished (h : f.kind = 0x84#8 ∧ f.length = 0) : f.parse = some .finished := by
  simp [RxFrame.parse, h]

theorem RxFrame.parse_stray (htaken : ¬ (f.kind = 0x81#8 ∧ f.length = 4)) (hrefused : ¬ (f.kind = 0x82#8 ∧ f.length = 4))
    (hnotice : ¬ (f.kind = 0x83#8 ∧ f.length = 10)) (hfinished : ¬ (f.kind = 0x84#8 ∧ f.length = 0)) : f.parse = none := by
  rw [RxFrame.parse, if_neg htaken, if_neg hrefused, if_neg hnotice, if_neg hfinished]

end Parse

end Sys2Proof.Machine
end

section
/-! PROOF. The frames of an upload, assembled. -/

namespace Sys2Proof.Machine

/-- Settles O46. -/
theorem framesAreAnswered : Obligations.FramesAreAnswered := by
  refine ⟨fun s => ?_, fun s => ?_, fun s => ?_⟩
  · intro u resumed expired asks
    refine ⟨fun t ht => ⟨execFrameSent_sends ht, execFrameSent_waits ht⟩, fun f ref hf h => ?_,
      fun f ref hf h => execRefusedFrame_refused hf h, fun f n hf h => execReplyTimeout_expires hf h⟩
    have taken : exec .takenFrame s = .next (resumed.frameTaken f s.settings.replyTimeout) := execTakenFrame_taken hf h
    refine ⟨fun b d m c n hframe => ?_, fun a b n hframe => ?_, fun n hframe => ?_⟩
    · subst hframe
      exact taken
    · subst hframe
      exact taken.trans (congrArg _ (resumed.frameTaken_page a b n _))
    · subst hframe
      exact taken
  · intro sends
    exact ⟨fun p => State.nextPage_sends, State.nextPage_closes⟩
  · refine ⟨State.acceptedFrame_ungood, fun f hf => ?_⟩
    intro octet word double answers takes notices
    have receiving : (s.upload.state == UploadState.receivingNotices) = true ↔ notices := beq_iff_eq
    refine ⟨fun h => ?_, fun h => ?_, fun h => ?_, fun h => ?_, fun htaken hrefused hnotice hfinished => ?_⟩
    · exact State.acceptedFrame_takes hf (RxFrame.parse_taken h) (s.upload.answers_iff _)
    · exact State.acceptedFrame_takes hf (RxFrame.parse_refused h) (s.upload.answers_iff _)
    · exact State.acceptedFrame_takes hf (RxFrame.parse_notice h) receiving
    · exact State.acceptedFrame_takes hf (RxFrame.parse_finished h) receiving
    · rw [State.acceptedFrame_good hf, RxFrame.parse_stray htaken hrefused hnotice hfinished, Option.filter_none]

end Sys2Proof.Machine
end

section
/-! PROOF. A step (R161, R162, R172; log entries 2, 31, 37): the front command, or one bit time of the transmitter and the
hand-over of a page asked for. -/

namespace Sys2Proof.Machine

/-! ## One bit time of the transmitter (R161, R162) -/

theorem State.transmitBit_within {s : State} {x y : Bool} {bits : List Bool} (h : s.line.octet = x :: y :: bits) :
    s.transmitBit = s.withLine { s.line with octet := y :: bits } := by
  rw [State.transmitBit, h]

/-- With the last level of an octet over, or none in progress. -/
theorem State.transmitBit_between {s : State} (h : s.line.octet.length ≤ 1) :
    s.transmitBit = (s.withLine { s.line with octet := [] }).beginOctet := by
  unfold State.transmitBit
  split
  · next hlong => simp [hlong] at h
  · rfl

theorem State.beginOctet_waits {s : State} (h : s.line.ready = false ∨ s.line.transmission = none) : s.beginOctet = s := by
  unfold State.beginOctet
  split
  · rfl
  · next ht =>
    have low : ¬ s.line.ready = true := by simpa [ht] using h
    split
    · rfl
    · exact if_neg low

section Transmission

variable {s : State} {t : Transmission} (ht : s.line.transmission = some t)
include ht

theorem State.beginOctet_over (hover : (t.frame.octets s.mem).length ≤ t.begun) : s.beginOctet = s := by
  rw [State.beginOctet, ht]
  dsimp only
  rw [List.getElem?_eq_none hover]

theorem State.beginOctet_begins {b : Byte} (hready : s.line.ready = true) (hb : (t.frame.octets s.mem)[t.begun]? = some b) :
    s.beginOctet
      = s.withLine { s.line with
          octet := octetLevels s.settings.parity b
          sent := s.line.sent ++ [octetLevels s.settings.parity b]
          transmission := some { t with begun := t.begun + 1 } } := by
  rw [State.beginOctet, ht]
  dsimp only
  rw [hb]
  exact if_pos hready

end Transmission

/-! ## The step -/

/-- After its bit time the part hands over a page asked for (R172). -/
theorem step_goesOn {s : State} {l : Line} (hempty : s.pending = []) (hbit : s.transmitBit = s.withLine l) :
    (s.upload.asking = false → step s = .next (s.withLine l)) ∧
    (s.upload.asking = true → step s = .next (s.withLine l).nextPage) := by
  have ticks : step s = .next (if s.upload.asking = true then (s.withLine l).nextPage else s.withLine l) := by
    rw [step, hempty]
    dsimp only
    rw [State.tick, hbit]
    rfl
  refine ⟨fun h => ?_, fun h => ?_⟩
  · rw [ticks, h]
    rfl
  · rw [ticks, if_pos h]

/-- Settles O24. -/
theorem stepRunsTheFrontCommand : Obligations.StepRunsTheFrontCommand := by
  refine ⟨fun s c rest h => by rw [step, h], fun s hempty => ?_⟩
  intro goesOn line
  refine ⟨fun x y bits h => step_goesOn hempty (State.transmitBit_within h), fun hlast => ?_⟩
  have between := State.transmitBit_between hlast
  refine ⟨fun h => ?_, fun t ht => ⟨fun hover => ?_, fun b hready hb => ?_⟩⟩
  · exact step_goesOn hempty (between.trans (State.beginOctet_waits h))
  · exact step_goesOn hempty (between.trans (State.beginOctet_over (s := s.withLine (line [])) ht hover))
  · exact step_goesOn hempty (between.trans (State.beginOctet_begins (s := s.withLine (line [])) ht hready hb))

end Sys2Proof.Machine
end


section
/-! PROOF. How an upload ends (R175), and the orders that start and abort one (R169, R176). -/

namespace Sys2Proof.Machine

/-! ## The steps of an end -/

theorem State.count16_withUpload (s : State) (u : Upload) (group off : Nat) :
    (s.withUpload u).count16 group off = (s.count16 group off).withUpload u := by
  have attached : (s.withUpload u).attached = s.attached := rfl
  unfold State.count16 State.writeField
  rw [attached]
  split <;> rfl

/-- The SENDING page goes back to FULL (step 2). -/
def State.keepPage (s : State) : State :=
  match s.journal.sendingPage with
  | some p => s.setPageState p .full
  | none => s

/-- The upload after steps 1 and 2. -/
def Upload.stopped (u : Upload) (r : EndReason) : Upload :=
  { u with state := .ending, endReason := r, frame := none, asking := false, sends := 0, replyTimer := none,
           noticeTimer := none, watch := false, finishedNoted := false }

/-- The upload after steps 1 to 3. -/
def Upload.ended (u : Upload) (r : EndReason) : Upload := (u.stopped r).withdraw

/-- The frame dropped from the line, the page kept and the held notice counted: what steps 1 to 3 do besides the upload. -/
def State.uploadStopped (s : State) : State :=
  let kept := (s.withLine { s.line with transmission := none }).keepPage
  if s.upload.dropsHeld then kept.count16 offReport offDropped else kept

theorem State.stopUpload_eq (s : State) (r : EndReason) :
    s.stopUpload r = (s.withLine { s.line with transmission := none }).keepPage.withUpload (s.upload.stopped r) := by
  have journal : (s.withLine { s.line with transmission := none }).journal = s.journal := rfl
  unfold State.stopUpload State.keepPage
  rw [journal]
  cases s.journal.sendingPage <;> rfl

theorem State.endUpload_at_rest {s : State} (h : s.upload.state = .idle ∨ s.upload.state = .ending) (r : EndReason) :
    s.endUpload r = s := if_pos h

/-- An upload that lives takes steps 1 to 3, and steps 4 to 6 unless something granted is awaited. -/
theorem State.endUpload_lives {s : State} (h : ¬ (s.upload.state = .idle ∨ s.upload.state = .ending)) (r : EndReason) :
    s.endUpload r
      = if (s.upload.ended r).awaits then s.uploadStopped.withUpload (s.upload.ended r)
        else (s.uploadStopped.withUpload (s.upload.ended r)).finishEnding := by
  have dropped : (if (s.stopUpload r).upload.dropsHeld then (s.stopUpload r).countReport offDropped else s.stopUpload r)
      = s.uploadStopped.withUpload (s.upload.stopped r) := by
    have holds : (s.upload.stopped r).dropsHeld = s.upload.dropsHeld := rfl
    rw [State.stopUpload_eq, State.withUpload_upload, holds, State.countReport, State.count16_withUpload, State.uploadStopped]
    split <;> rfl
  rw [State.endUpload, if_neg h]
  dsimp only
  rw [dropped]
  rfl

/-- Something granted is awaited (step 3): a notice, or UPLOAD_STARTED. -/
theorem Upload.awaits_ended (u : Upload) (r : EndReason) :
    (u.ended r).awaits = true ↔ (∃ h, u.held = some h ∧ h.granted = true) ∨ u.startedMark = .granted := by
  have mark : ((if u.startedMark = .standing then MarkRequest.absent else u.startedMark) == .granted) = true
      ↔ u.startedMark = .granted := by
    cases u.startedMark <;> decide
  have notice : (match u.held.filter HeldNotice.granted with | some h => h.granted | none => false) = true
      ↔ ∃ h, u.held = some h ∧ h.granted = true := by
    cases u.held with
    | none => simp
    | some h => cases hg : h.granted <;> simp [Option.filter, hg]
  exact (Bool.or_eq_true _ _).to_iff.trans (or_congr notice mark)

theorem Upload.dropsHeld_iff (u : Upload) :
    u.dropsHeld = true ↔ ¬ (u.held = none ∨ ∃ h, u.held = some h ∧ h.granted = true) := by
  unfold Upload.dropsHeld
  split
  · next h hh => simp [hh]
  · next hh => simp [hh]

/-- With no notice held and no page SENDING the frame alone is dropped. -/
theorem State.uploadStopped_bare {s : State} (hheld : s.upload.held = none) (hpage : s.journal.sendingPage = none) :
    s.uploadStopped = s.withLine { s.line with transmission := none } := by
  have dropsNothing : ¬ s.upload.dropsHeld = true := by simp [Upload.dropsHeld_iff, hheld]
  have page : (s.withLine { s.line with transmission := none }).journal.sendingPage = none := hpage
  refine (if_neg dropsNothing).trans ?_
  rw [State.keepPage, page]

theorem State.keepPage_currentOrder (s : State) : s.keepPage.currentOrder = s.currentOrder := by
  unfold State.keepPage
  split <;> rfl

theorem State.uploadStopped_currentOrder (s : State) : s.uploadStopped.currentOrder = s.currentOrder := by
  unfold State.uploadStopped
  dsimp only
  split
  · exact (State.count16_currentOrder _ _ _).trans (State.keepPage_currentOrder _)
  · exact State.keepPage_currentOrder _

/-- The sending page goes back to FULL by one access (R155). -/
theorem State.keepPage_eq (s : State) :
    s.keepPage
      = match s.journal.oldest with
        | none => s
        | some p =>
          if (s.journal.page p).state = .sending then
            (s.writeAll [{ addr := s.geometry.pageTable + 12 * p + 4, word := 2 }]).withJournal
              { s.journal with pages := s.journal.pages.set p { s.journal.page p with state := .full } }
          else s := by
  unfold State.keepPage Journal.sendingPage
  cases s.journal.oldest with
  | none => rfl
  | some p =>
    by_cases h : (s.journal.page p).state = .sending
    · simp only [if_pos h]
      rfl
    · simp only [if_neg h]

/-! ## An end before the cut, and after it (steps 4 to 6) -/

section End

variable {s : State} (h : ¬ (s.upload.state = .idle ∨ s.upload.state = .ending)) (r : EndReason)
include h

theorem State.endUpload_awaits (ha : (s.upload.ended r).awaits = true) :
    s.endUpload r = s.uploadStopped.withUpload (s.upload.ended r) := (State.endUpload_lives h r).trans (if_pos ha)

variable (ha : ¬ (s.upload.ended r).awaits = true)
include ha

theorem State.endUpload_finishes : s.endUpload r = (s.uploadStopped.withUpload (s.upload.ended r)).finishEnding :=
  (State.endUpload_lives h r).trans (if_neg ha)

theorem State.endUpload_cut (hcut : s.upload.cutMade = true) :
    s.endUpload r
      = ((s.uploadStopped.withUpload (s.upload.ended r)).writeField offReport offEndReason r.code).withUpload
          { s.upload.ended r with endedMark := .standing } :=
  (State.endUpload_finishes h r ha).trans (State.finishEnding_cut hcut)

theorem State.endUpload_uncut (hcut : s.upload.cutMade = false) :
    s.endUpload r = (s.uploadStopped.withUpload (s.upload.ended r)).uploadIdle :=
  (State.endUpload_finishes h r ha).trans (State.finishEnding_uncut hcut)

/-- An ABORT_UPLOAD that waits ends (R176). -/
theorem State.endUpload_uncut_ends (hcut : s.upload.cutMade = false) {n : Nat}
    (hn : s.currentOrder.map TakenOrder.wait = some (.uploadIdle n)) :
    s.endUpload r
      = (s.uploadStopped.withUpload (s.upload.ended r).rested).finishOrder { outcome := .done, count := n } := by
  rw [← s.uploadStopped_currentOrder] at hn
  exact (State.endUpload_uncut h r ha hcut).trans (State.uploadIdle_ends hn)

theorem State.endUpload_uncut_rests (hcut : s.upload.cutMade = false)
    (hn : ∀ n, s.currentOrder.map TakenOrder.wait ≠ some (.uploadIdle n)) :
    s.endUpload r = s.uploadStopped.withUpload (s.upload.ended r).rested := by
  rw [← s.uploadStopped_currentOrder] at hn
  exact (State.endUpload_uncut h r ha hcut).trans (State.uploadIdle_rests hn)

end End

/-! ## START_UPLOAD -/

section Start

variable {s : State} {o : Order} (h : s.orderAt kindStartUpload .owner = some o)
include h

theorem execStartUpload_halted (hdesk : s.desk.state = .halted) :
    execStartUpload s = .next (s.finishOrder { outcome := .refused, reason := some .deskHalted }) := by
  rw [execStartUpload, h]
  exact if_pos hdesk

variable (hdesk : s.desk.state ≠ .halted)
include hdesk

theorem execStartUpload_busy (hstate : s.upload.state ≠ .idle) :
    execStartUpload s = .next (s.finishOrder { outcome := .refused, reason := some .busy }) := by
  rw [execStartUpload, h]
  exact (if_neg hdesk).trans (if_pos hstate)

variable (hstate : s.upload.state = .idle)
include hstate

theorem execStartUpload_unset (hclock : s.clock.isSet = false) :
    execStartUpload s = .next (s.finishOrder { outcome := .refused, reason := some .clockUnset }) := by
  rw [execStartUpload, h]
  exact (if_neg hdesk).trans ((if_neg (not_not_intro hstate)).trans (if_neg (Bool.eq_false_iff.1 hclock)))

theorem execStartUpload_starts (hclock : s.clock.isSet = true) :
    execStartUpload s = .next (s.startUpload.orderWaits .cut) := by
  rw [execStartUpload, h]
  exact (if_neg hdesk).trans ((if_neg (not_not_intro hstate)).trans (if_pos hclock))

end Start

/-! ## ABORT_UPLOAD -/

theorem State.orderWaits_wait {s : State} {k : Nat} {w : OrderWait} {o : Order} (h : s.orderAt k w = some o) (v : OrderWait) :
    (s.orderWaits v).currentOrder.map TakenOrder.wait = some v := by
  obtain ⟨t, ht, -⟩ := s.orderAt_some k w o h
  cases hl : s.executor.running with
  | none => simp [State.currentOrder, Executor.current, hl] at ht
  | some l =>
    have hc : l.current = some t := by simpa [State.currentOrder, Executor.current, hl] using ht
    simp [State.orderWaits, State.currentOrder, Executor.current, Executor.wait, hl, hc]

section Abort

variable {s : State} {o : Order} (h : s.orderAt kindAbortUpload .owner = some o)
include h

theorem execAbortUpload_idle (hstate : s.upload.state = .idle) :
    execAbortUpload s = .next (s.finishOrder { outcome := .done, count := 0 }) := by
  simp only [execAbortUpload, h, hstate]
  rfl

theorem execAbortUpload_ending (hstate : s.upload.state = .ending) :
    execAbortUpload s = .next (s.orderWaits (.uploadIdle 0)) := by
  simp only [execAbortUpload, h, hstate]

theorem execAbortUpload_ends (hidle : s.upload.state ≠ .idle) (hending : s.upload.state ≠ .ending) :
    execAbortUpload s = .next ((s.orderWaits (.uploadIdle 1)).endUpload .aborted) := by
  rw [execAbortUpload, h]
  dsimp only
  split
  · contradiction
  · contradiction
  · rfl

/-- Before the cut, with nothing granted, held or SENDING, the upload is IDLE at once. -/
theorem execAbortUpload_rests (hstate : s.upload.state = .opening) (hcut : s.upload.cutMade = false)
    (hmark : s.upload.startedMark = .standing) (hheld : s.upload.held = none) (hpage : s.journal.sendingPage = none) :
    execAbortUpload s
      = .next ((((s.orderWaits (.uploadIdle 1)).withLine { s.line with transmission := none }).withUpload
          (s.upload.ended .aborted).rested).finishOrder { outcome := .done, count := 1 }) := by
  have lives : ¬ (s.upload.state = .idle ∨ s.upload.state = .ending) := by simp [hstate]
  have awaitsNothing : ¬ (s.upload.ended .aborted).awaits = true := by simp [Upload.awaits_ended, hheld, hmark]
  rw [execAbortUpload_ends h (not_or.1 lives).1 (not_or.1 lives).2,
    State.endUpload_uncut_ends (s := s.orderWaits (.uploadIdle 1)) lives .aborted awaitsNothing hcut
      (State.orderWaits_wait h _),
    State.uploadStopped_bare (s := s.orderWaits (.uploadIdle 1)) hheld hpage]
  rfl

end Abort

/-- Settles O45. -/
theorem uploadOrdersAct : Obligations.UploadOrdersAct := by
  intro s o fresh
  refine ⟨fun h hopen => ?_, execStartUpload_halted, fun h => ⟨execAbortUpload_idle h, execAbortUpload_ending h,
    execAbortUpload_ends h, execAbortUpload_rests h⟩⟩
  have running : s.desk.state ≠ .halted := by simp [hopen]
  exact ⟨execStartUpload_busy h running, execStartUpload_unset h running, execStartUpload_starts h running⟩

end Sys2Proof.Machine
end

section
/-! PROOF. NOTICE, FINISHED and an expiry in RECEIVING_NOTICES (R173), the end of an upload (R175), and the end reason a restart
keeps (R176). -/

namespace Sys2Proof.Machine

/-! ## RECEIVING_NOTICES (R173) -/

section Received

variable {s : State}

theorem execNoticeFrame_takes {n : CenterNotice} (h : s.acceptedFrame = some (.notice n)) :
    execNoticeFrame s = .next (s.resumeLine.takeNotice n) := by
  simp only [execNoticeFrame, h]

theorem State.takeNotice_holds (h : s.upload.held = none) (n : CenterNotice) :
    s.takeNotice n
      = s.withUpload
          { s.upload with
            noticeTimer := some s.settings.replyTimeout, held := some { notice := n, granted := false } } := by
  simp only [State.takeNotice, h]
  rfl

theorem State.takeNotice_drops (h : s.upload.held ≠ none) (n : CenterNotice) :
    s.takeNotice n
      = (s.withUpload { s.upload with noticeTimer := some s.settings.replyTimeout }).count16 offReport offDropped := by
  obtain ⟨held, hheld⟩ := Option.ne_none_iff_exists'.1 h
  simp only [State.takeNotice, hheld]
  rfl

theorem execFinishedFrame_ends (h : s.acceptedFrame = some .finished) (hheld : s.upload.held = none) :
    execFinishedFrame s = .next (s.resumeLine.endUpload .ok) := by
  simp only [execFinishedFrame, h, hheld]

/-- The end waits for the held notice. -/
theorem execFinishedFrame_notes (h : s.acceptedFrame = some .finished) (hheld : s.upload.held ≠ none) :
    execFinishedFrame s = .next (s.resumeLine.withUpload { s.upload with finishedNoted := true, noticeTimer := none }) := by
  obtain ⟨held, hheld⟩ := Option.ne_none_iff_exists'.1 hheld
  simp only [execFinishedFrame, h, hheld]

theorem execNoticeTimeout_ends (h : s.upload.noticeTimer ≠ none) : execNoticeTimeout s = .next (s.endUpload .noFinish) :=
  if_pos (Option.isSome_iff_ne_none.2 h)

end Received

/-! ## The steps that ask for no mark UPLOAD_ENDED (R175, R176) -/

/-- The next state of an outcome, if it has one, has no mark UPLOAD_ENDED standing that `s` has not. -/
def Unmarked (s : State) (x : Host.Outcome State Fault Refusal) : Prop := ∀ u, x = .next u → s.writesEnd u = false

/-- No end of the upload of `s` asks for the mark, whatever else its step has done before. -/
def State.endsUnmarked (s : State) : Prop :=
  ∀ (t : State) (r : EndReason), t.upload.state = s.upload.state → t.upload.cutMade = s.upload.cutMade →
    t.upload.endedMark = s.upload.endedMark → s.writesEnd (t.endUpload r) = false

theorem State.writesEnd_kept {s u : State} (h : u.upload.endedMark = s.upload.endedMark) : s.writesEnd u = false := by
  rw [State.writesEnd, h]
  cases s.upload.endedMark <;> rfl

theorem State.writesEnd_absent {s u : State} (h : u.upload.endedMark = .absent) : s.writesEnd u = false := by
  rw [State.writesEnd, h]
  rfl

theorem Unmarked.next {s u : State} (h : s.writesEnd u = false) : Unmarked s (.next u) := by
  intro v hv
  cases hv
  exact h

theorem Unmarked.kept {s u : State} (h : u.upload.endedMark = s.upload.endedMark) : Unmarked s (.next u) :=
  .next (State.writesEnd_kept h)

theorem State.uploadIdle_upload (s : State) : s.uploadIdle.upload = s.upload.rested := by
  unfold State.uploadIdle
  dsimp only
  split
  · exact State.finishOrder_upload _ _
  · rfl

/-- Of an upload that is IDLE, ENDING or before its cut no end asks for the mark. -/
theorem State.endsUnmarked_of {s : State}
    (h : s.upload.state = .idle ∨ s.upload.state = .ending ∨ s.upload.cutMade = false) : s.endsUnmarked := by
  intro t r hstate hcut hmark
  by_cases rests : t.upload.state = .idle ∨ t.upload.state = .ending
  · rw [State.endUpload_at_rest rests]
    exact State.writesEnd_kept hmark
  · have uncut : t.upload.cutMade = false := by
      rw [hcut]
      rw [hstate, not_or] at rests
      exact (h.resolve_left rests.1).resolve_left rests.2
    by_cases ha : (t.upload.ended r).awaits = true
    · rw [State.endUpload_awaits rests r ha]
      exact State.writesEnd_kept hmark
    · rw [State.endUpload_uncut rests r ha uncut]
      exact State.writesEnd_absent (congrArg Upload.endedMark (State.uploadIdle_upload _))

section Steps

variable (s : State)

theorem execFinishedFrame_unmarked (h : s.acceptedFrame = some .finished → s.endsUnmarked) :
    Unmarked s (execFinishedFrame s) := by
  unfold execFinishedFrame
  split
  · next hf =>
    split
    · exact .next (h hf s.resumeLine .ok rfl rfl rfl)
    · exact .kept rfl
  · exact .kept rfl

/-- A reply that is refused or overdue: the frame is sent again while sends remain (R171). -/
theorem State.replyExpired_unmarked {t : State} (hupload : t.upload = { s.upload with replyTimer := none })
    (hsettings : t.settings = s.settings) (h : ¬ s.upload.sends < s.settings.tries → s.endsUnmarked) (f : PartFrame) :
    Unmarked s (.next (t.replyExpired f)) := by
  have same : t.upload.state = s.upload.state ∧ t.upload.cutMade = s.upload.cutMade ∧
      t.upload.endedMark = s.upload.endedMark ∧ t.upload.sends = s.upload.sends := by
    rw [hupload]
    exact ⟨rfl, rfl, rfl, rfl⟩
  obtain ⟨state, cut, mark, sends⟩ := same
  unfold State.replyExpired
  rw [sends, hsettings]
  split
  · exact .kept mark
  · next hsends => exact .next (h hsends t .noReply state cut mark)

/-- A frame of the upload is answered only while the reply timer runs. -/
theorem Upload.answers_timer {u : Upload} {reference : Nat} (h : u.answers reference = true) : u.replyTimer ≠ none :=
  ((u.answers_iff reference).1 h).1

theorem State.acceptedFrame_accepts {s : State} {x : CenterFrame} (h : s.acceptedFrame = some x) : s.upload.accepts x = true := by
  unfold State.acceptedFrame at h
  split at h
  · exact (Option.filter_eq_some_iff.1 h).2
  · cases h

theorem execRefusedFrame_unmarked (h : s.upload.replyTimer ≠ none → ¬ s.upload.sends < s.settings.tries → s.endsUnmarked) :
    Unmarked s (execRefusedFrame s) := by
  unfold execRefusedFrame
  split
  · next hf _ =>
    have timer := Upload.answers_timer (State.acceptedFrame_accepts hf)
    exact State.replyExpired_unmarked s (t := s.resumeLine.stopReplyTimer) rfl rfl (h timer) _
  · exact .kept rfl

theorem execReplyTimeout_unmarked (h : s.upload.replyTimer ≠ none → ¬ s.upload.sends < s.settings.tries → s.endsUnmarked) :
    Unmarked s (execReplyTimeout s) := by
  unfold execReplyTimeout
  split
  · next ht _ =>
    have timer := ne_of_eq_of_ne ht (Option.some_ne_none _)
    exact State.replyExpired_unmarked s (t := s.stopReplyTimer) rfl rfl (h timer) _
  · exact .kept rfl

theorem execNoticeTimeout_unmarked (h : s.upload.noticeTimer ≠ none → s.endsUnmarked) : Unmarked s (execNoticeTimeout s) := by
  unfold execNoticeTimeout
  split
  · next ht => exact .next (h (Option.isSome_iff_ne_none.1 ht) s .noFinish rfl rfl rfl)
  · exact .kept rfl

theorem execLineDownTimeout_unmarked (h : s.upload.watch = true → s.line.ready = false → s.endsUnmarked) :
    Unmarked s (execLineDownTimeout s) := by
  unfold execLineDownTimeout
  split
  · next hw => exact .next (h hw.1 (Bool.eq_false_iff.2 hw.2) s .lineDown rfl rfl rfl)
  · exact .kept rfl

theorem execAbortUpload_unmarked (h : s.orderAt kindAbortUpload .owner ≠ none → s.endsUnmarked) :
    Unmarked s (execAbortUpload s) := by
  unfold execAbortUpload
  split
  · exact .kept rfl
  · next ho =>
    split
    · exact .kept (congrArg Upload.endedMark (s.finishOrder_upload _))
    · exact .kept rfl
    · exact .next (h (ne_of_eq_of_ne ho (Option.some_ne_none _)) (s.orderWaits (.uploadIdle 1)) .aborted rfl rfl rfl)

end Steps

/-! ## The end reason a restart finds begun (R176) -/

/-- Each step in which an upload can end, the engine's apart. -/
def State.endSteps (s : State) : List (Host.Outcome State Fault Refusal) :=
  [execFinishedFrame s, execRefusedFrame s, execReplyTimeout s, execNoticeTimeout s, execLineDownTimeout s, execAbortUpload s]

theorem State.engineNow_engine {s : State} {x : StepNow} (h : x ∈ s.engineNow) : Work.engine ∈ x.1 := by
  unfold State.engineNow at h
  split at h
  · cases h
  · rw [List.mem_singleton.1 h]
    exact List.mem_cons_self

/-- Where no step asks for the mark, the end reason waits for the engine's writes alone, and so has not begun. -/
theorem State.begun_reportEnd_false {s : State} (h : ∀ x ∈ s.endSteps, Unmarked s x) (code : Fin 5) :
    s.begun [] (.reportEnd code) = false := by
  refine List.any_eq_false.2 fun works hworks => ?_
  obtain ⟨x, hx, rfl⟩ := List.mem_map.1 hworks
  obtain ⟨hx, hwrites⟩ := List.mem_filter.1 hx
  rcases List.mem_append.1 hx with hx | hx
  · obtain ⟨u, hu, rfl⟩ := List.mem_map.1 hx
    obtain ⟨y, hy, hnext⟩ := List.mem_filterMap.1 hu
    have next : y = .next u := by
      split at hnext
      · exact congrArg _ (Option.some.inj hnext)
      · cases hnext
    rw [h y hy u next, Bool.false_and] at hwrites
    cases hwrites
  · intro whole
    exact Bool.false_ne_true (List.all_eq_true.1 whole _ (List.mem_append_left _ (State.engineNow_engine hx)))

/-- No end of an upload is in progress that would write its end reason. -/
def State.noEndNow (s : State) : Prop :=
  s.acceptedFrame ≠ some .finished ∧ (s.upload.replyTimer = none ∨ s.upload.sends < s.settings.tries) ∧
    s.upload.noticeTimer = none ∧ (s.upload.watch = false ∨ s.line.ready = true) ∧ s.orderAt kindAbortUpload .owner = none

theorem State.endSteps_unmarked {s : State} (h : s.endsUnmarked ∨ s.noEndNow) : ∀ x ∈ s.endSteps, Unmarked s x := by
  have ends {p : Prop} (hp : s.noEndNow → ¬ p) (hcomes : p) : s.endsUnmarked := h.resolve_right fun hno => hp hno hcomes
  have expires (ht : s.upload.replyTimer ≠ none) (hs : ¬ s.upload.sends < s.settings.tries) : s.endsUnmarked :=
    h.resolve_right fun ⟨_, hreply, _⟩ => hreply.elim ht hs
  simp only [State.endSteps, List.forall_mem_cons, List.not_mem_nil, false_imp_iff, implies_true, and_true]
  refine ⟨execFinishedFrame_unmarked s (ends fun hno => hno.1), execRefusedFrame_unmarked s expires,
    execReplyTimeout_unmarked s expires, execNoticeTimeout_unmarked s (ends fun ⟨_, _, hn, _⟩ => not_not_intro hn),
    execLineDownTimeout_unmarked s fun hw hr => h.resolve_right fun ⟨_, _, _, hline, _⟩ => ?_,
    execAbortUpload_unmarked s (ends fun ⟨_, _, _, _, ho⟩ => not_not_intro ho)⟩
  simp [hw, hr] at hline

/-- Settles O47. -/
theorem uploadsReceiveAndEnd : Obligations.UploadsReceiveAndEnd := by
  refine ⟨fun s => ?_, fun s r h => State.endUpload_at_rest h r, fun s r hidle hending => ?_⟩
  · intro resumed
    refine ⟨fun n hn => ?_, fun hf => ⟨execFinishedFrame_ends hf, execFinishedFrame_notes hf⟩, execNoticeTimeout_ends,
      fun code n h => ?_⟩
    · intro armed
      have takes := execNoticeFrame_takes hn
      exact ⟨fun h => takes.trans (congrArg _ (State.takeNotice_holds (s := s.resumeLine) h n)),
        fun h => takes.trans (congrArg _ (State.takeNotice_drops (s := s.resumeLine) h n))⟩
    · have unmarked : s.endsUnmarked ∨ s.noEndNow := by
        rw [← or_assoc, ← or_assoc] at h
        exact h.imp_left fun h => State.endsUnmarked_of (or_assoc.1 h)
      exact State.interrupt_not_begun (State.begun_reportEnd_false (State.endSteps_unmarked unmarked) code) n
  · intro waits dropped full granted stopped ending idle
    have lives : ¬ (s.upload.state = .idle ∨ s.upload.state = .ending) := not_or.2 ⟨hidle, hending⟩
    have awaits : (s.upload.ended r).awaits = true ↔ granted ∨ s.upload.startedMark = .granted := s.upload.awaits_ended r
    have kept : dropped.keepPage = full dropped := dropped.keepPage_eq
    have drops : s.upload.dropsHeld = true ↔ ¬ (s.upload.held = none ∨ granted) := s.upload.dropsHeld_iff
    refine ⟨s.uploadStopped, ⟨fun h => (if_neg fun hd => drops.1 hd h).trans kept,
      fun h => (if_pos (drops.2 h)).trans (congrArg (State.count16 · offReport offDropped) kept)⟩,
      fun h => State.endUpload_awaits lives r (awaits.2 h), fun h => ?_⟩
    have settled := mt awaits.1 h
    refine ⟨fun hcut => ?_, State.endUpload_cut lives r settled⟩
    exact ⟨State.endUpload_uncut_rests lives r settled hcut, fun n => State.endUpload_uncut_ends lives r settled hcut⟩

end Sys2Proof.Machine
end

section
/-! PROOF. Frames counted stray or discarded, octets lost, and LINE_RDY (R163, R164, R166, R167, R174). -/

namespace Sys2Proof.Machine

/-! ## A count of the anchor block (R55, R177) -/

theorem State.count16_line (s : State) (group off : Nat) : (s.count16 group off).line = s.line := by
  unfold State.count16 State.writeField
  split <;> rfl

theorem State.count16_detached {s : State} (h : ¬ (s.desk.state = .opened ∨ s.desk.state = .halted)) (group off : Nat) :
    s.count16 group off = s := if_neg (mt s.attached_iff.1 h)

/-- The count read from desk memory is raised and written back, between the two writes of its change count. -/
theorem State.count16_attached {s : State} (h : s.desk.state = .opened ∨ s.desk.state = .halted) (group off : Nat) :
    s.count16 group off
      = s.writeAll
          [{ addr := s.desk.anchor + group, word := openingCount (s.mem.read16 (s.desk.anchor + group)) },
           { addr := s.desk.anchor + off, word := min (s.mem.read16 (s.desk.anchor + off) + 1) 65535 },
           { addr := s.desk.anchor + group, word := (openingCount (s.mem.read16 (s.desk.anchor + group)) + 1) % 65536 }] := by
  have fits : s.raised16 off % 65536 = min (s.mem.read16 (s.desk.anchor + off) + 1) 65535 :=
    Nat.mod_eq_of_lt (Nat.lt_succ_of_le (sat16_le _))
  refine (if_pos (s.attached_iff.2 h)).trans ?_
  rw [State.fieldWrites, putWords, fits]
  rfl

/-! ## Octets lost (R164) -/

/-- A frame that an octet is lost in is marked OVERRUN. -/
def FrameReceiver.overrun : FrameReceiver → FrameReceiver
  | .inside p => .inside { p with overrun := true }
  | r => r

theorem FrameReceiver.overrun_outside {r : FrameReceiver} (h : ∀ p, r ≠ .inside p) : r.overrun = r := by
  cases r with
  | inside p => exact absurd rfl (h p)
  | _ => rfl

theorem Line.lose_eq (l : Line) : l.lose = { l with receiver := l.receiver.overrun } := by
  unfold Line.lose
  split
  · next h => rw [h]; rfl
  · next h => rw [FrameReceiver.overrun_outside h]

theorem Line.completes_lose (l : Line) (framing : Bool) :
    (l.completes framing).lose = { l with receiver := l.receiver.overrun, waitHigh := framing, pastParity := [] } :=
  (l.completes framing).lose_eq

theorem execReceiveQueueOverrun_loses {s : State} (h : 4 ≤ s.line.queue.length) :
    execReceiveQueueOverrun s
      = .next ((s.withChoices (s.choices + 1)).withLine
          { s.line with
            receiver := s.line.receiver.overrun, waitHigh := Config.lostFraming s.choices, pastParity := [] }) := by
  rw [execReceiveQueueOverrun, if_neg (Nat.not_lt.2 h), Line.completes_lose]

/-! ## Frames (R166, R167) -/

section Frames

variable {s : State}

theorem execStrayFrame_counts {f : RxFrame} (h : s.line.receiver = .good f) (hstray : s.acceptedFrame = none) :
    execStrayFrame s = .next ((s.count16 offReport offStray).withLine s.line.resume) := by
  rw [execStrayFrame, h]
  dsimp only
  rw [if_pos hstray, State.resumeLine, State.countReport, State.count16_line]

theorem State.discardFrame_eq (s : State) :
    s.discardFrame = ((s.count16 offLine offLineErrors).raise .lineError).withLine s.line.resume := by
  rw [State.discardFrame, State.resumeLine, State.raise_line, State.count16_line]

theorem execFrameDiscard_faulty (h : s.line.receiver = .faulty) : execFrameDiscard s = .next s.discardFrame := by
  rw [execFrameDiscard, h]

theorem execFrameGapTimeout_inside {p : PartialFrame} (h : s.line.receiver = .inside p) :
    execFrameGapTimeout s = .next s.discardFrame := by
  rw [execFrameGapTimeout, h]

/-- An error mark of the octet, or a loss before it, makes the frame faulty. -/
theorem FrameReceiver.take_marked {p : PartialFrame} {o : RxOctet}
    (h : o.framing = true ∨ o.parity = true ∨ p.overrun = true) : (FrameReceiver.inside p).take o = .faulty := if_pos h

end Frames

/-! ## LINE_RDY (R174) -/

section Ready

variable {s : State}

theorem execLineRdyChange_changes {high : Bool} (h : high ≠ s.line.ready) :
    execLineRdyChange high s
      = .next ((s.withLine { s.line with ready := high }).withUpload
          { s.upload with watch := decide (high = false ∧ s.upload.state ≠ .idle) }) := by
  have watches : (!high && s.upload.state != .idle) = decide (high = false ∧ s.upload.state ≠ .idle) := by
    rw [Bool.eq_iff_iff]
    simp
  rw [execLineRdyChange, if_neg h, watches]

theorem execLineDownTimeout_ends (hwatch : s.upload.watch = true) (hlow : s.line.ready = false) :
    execLineDownTimeout s = .next (s.endUpload .lineDown) := if_pos ⟨hwatch, Bool.eq_false_iff.1 hlow⟩

theorem execLineDownTimeout_unwatched (hwatch : s.upload.watch = false) : execLineDownTimeout s = .next s :=
  if_neg fun h => Bool.eq_false_iff.1 hwatch h.1

end Ready

/-- Settles O48. -/
theorem lineEventsAct : Obligations.LineEventsAct := by
  refine ⟨fun s => ?_, fun s => ?_⟩
  · intro attached discarded
    have discards : s.discardFrame = discarded := s.discardFrame_eq
    refine ⟨fun f h hstray => execStrayFrame_counts h hstray, fun h => (execFrameDiscard_faulty h).trans (congrArg _ discards),
      fun p h => (execFrameGapTimeout_inside h).trans (congrArg _ discards), fun hfull => ?_,
      fun p o h => FrameReceiver.take_marked (.inr (.inr h)), fun group off h => State.count16_detached h group off,
      fun group off h => State.count16_attached h group off⟩
    intro loses
    have lost : loses s.line.receiver.overrun := execReceiveQueueOverrun_loses hfull
    refine ⟨fun h => ?_, fun p h => ?_⟩
    · rwa [FrameReceiver.overrun_outside h] at lost
    · rwa [h] at lost
  · refine ⟨fun high h => execLineRdyChange_changes h, execLineDownTimeout_ends, fun hwatch hlow hending => ?_,
      execLineDownTimeout_unwatched⟩
    exact (execLineDownTimeout_ends hwatch hlow).trans (congrArg _ (State.endUpload_at_rest (.inr hending) _))

end Sys2Proof.Machine
end

section
/-! PROOF. The CRC (R165), fed bit by bit. -/

namespace Sys2Proof.Machine

/-- One bit fed to the CRC register, by the polynomial x^16 + x^12 + x^5 + 1. -/
def crcFeed (c : BitVec 16) (bit : Bool) : BitVec 16 := if c.getLsbD 15 = bit then c <<< 1 else (c <<< 1) ^^^ 0x1021#16

/-- The register with a word added to it, shifted once: the word's highest bit is fed, and the rest of it stays added. -/
theorem crcShift_xor (c d : BitVec 16) (n : Nat) :
    crcShift (c ^^^ d) (n + 1) = crcShift (crcFeed c (d.getLsbD 15) ^^^ (d <<< 1)) n := by
  rw [crcShift, BitVec.getLsbD_xor, BitVec.shiftLeft_xor_distrib, crcFeed]
  refine congrArg (crcShift · n) ?_
  have added : (c <<< 1 ^^^ d <<< 1) ^^^ 0x1021#16 = (c <<< 1 ^^^ 0x1021#16) ^^^ d <<< 1 := by ac_rfl
  cases c.getLsbD 15 <;> cases d.getLsbD 15 <;> simp [added]

theorem crcShift_bits {n : Nat} (hn : n ≤ 16) (c d : BitVec 16) :
    crcShift (c ^^^ d) n = ((List.range n).map fun k => d.getLsbD (15 - k)).foldl crcFeed c ^^^ (d <<< n) := by
  induction n generalizing c d with
  | zero => simp [crcShift]
  | succ n ih =>
    have next (k : Nat) (hk : k ∈ List.range n) : (d <<< 1).getLsbD (15 - k) = d.getLsbD (15 - (k + 1)) := by
      have := List.mem_range.1 hk
      rw [BitVec.getLsbD_shiftLeft]
      simp [show 15 - k < 16 by omega, show ¬ 15 - k < 1 by omega, Nat.sub_sub]
    rw [crcShift_xor, ih (by omega), List.map_congr_left next, List.range_succ_eq_map, List.map_cons, List.foldl_cons,
      List.map_map, ← BitVec.shiftLeft_add, Nat.add_comm 1 n]
    rfl

/-- An octet goes through the register most significant bit first. -/
theorem crcOctet_feeds (c : BitVec 16) (b : Byte) :
    crcOctet c b
      = [b.getLsbD 7, b.getLsbD 6, b.getLsbD 5, b.getLsbD 4, b.getLsbD 3, b.getLsbD 2, b.getLsbD 1, b.getLsbD 0].foldl crcFeed
          c := by
  have out : (b.setWidth 16 <<< 8) <<< 8 = 0#16 := by
    rw [← BitVec.shiftLeft_add]
    exact BitVec.shiftLeft_eq_zero (le_refl 16)
  rw [crcOctet, crcShift_bits (by decide), out, BitVec.xor_zero]
  simp [List.range_succ]

theorem crcOf_append (bs : List Byte) (b : Byte) : crcOf (bs ++ [b]) = crcOctet (crcOf bs) b := by
  rw [crcOf, crcOf, List.foldl_append]
  rfl

/-- The two CRC octets of a frame, the high one first. -/
theorem crc_octets_iff (c : BitVec 16) (high low : Byte) :
    c = high.setWidth 16 <<< 8 ||| low.setWidth 16 ↔ high = (c >>> 8).setWidth 8 ∧ low = c.setWidth 8 := by
  refine ⟨?_, ?_⟩
  · rintro rfl
    refine ⟨?_, ?_⟩
    · ext i hi
      simp [show 8 + i < 16 by omega, show i < 16 by omega, BitVec.getLsbD_eq_getElem hi]
    · ext i hi
      simp
  · rintro ⟨rfl, rfl⟩
    ext i hi
    by_cases h : i < 8
    · simp [h, BitVec.getLsbD_eq_getElem hi]
    · simp [h, show i - 8 < 8 by omega, show 8 + (i - 8) = i by omega, hi]

end Sys2Proof.Machine
end

section
/-! PROOF. An octet on the line, sampled (R162, R163). -/

namespace Sys2Proof.Machine

/-! ## Bit times -/

theorem majority_eq (s : BitVec 3) :
    majority s = decide (2 ≤ ((List.range 3).filter fun k => s.getLsbD k).length) := by
  revert s
  decide

/-- Three equal samples in every bit time. -/
theorem bitTime_levels (levels : List Bool) (i : Nat) :
    bitTime (levels.map fun high => if high then 7#3 else 0#3) i = levels.getD i true := by
  rw [bitTime, List.getD_eq_getElem?_getD, List.getD_eq_getElem?_getD, List.getElem?_map]
  cases levels[i]? with
  | none => rfl
  | some high => cases high <;> rfl

/-! ## The data bits -/

/-- A number given by its bits: below `2 ^ n`, with these bits. -/
theorem sum_bits (f : Nat → Bool) (n : Nat) :
    let v := ((List.range n).map fun i => if f i then 2 ^ i else 0).sum
    v < 2 ^ n ∧ ∀ i < n, v.testBit i = f i := by
  induction n with
  | zero => simp
  | succ n ih =>
    obtain ⟨hlt, hbits⟩ := ih
    simp only [List.range_succ, List.map_append, List.map_singleton, List.sum_append, List.sum_singleton]
    generalize ((List.range n).map fun i => if f i then 2 ^ i else 0).sum = v at hlt hbits
    refine ⟨?_, fun i hi => ?_⟩
    · split <;> omega
    · rw [Nat.add_comm]
      by_cases hin : i = n
      · subst hin
        cases hf : f i
        · simpa using Nat.testBit_lt_two_pow hlt
        · simp [Nat.testBit_two_pow_add_eq, Nat.testBit_lt_two_pow hlt]
      · have hi : i < n := by omega
        cases f n
        · simpa using hbits i hi
        · simpa [Nat.testBit_two_pow_add_gt hi] using hbits i hi

theorem dataBits_getLsbD (bits : List (BitVec 3)) {i : Nat} (hi : i < 8) : (dataBits bits).getLsbD i = bitTime bits (i + 1) := by
  obtain ⟨-, h⟩ := sum_bits (fun i => bitTime bits (i + 1)) 8
  rw [dataBits, BitVec.getLsbD_ofNat, decide_eq_true hi, Bool.true_and]
  exact h i hi

/-! ## Parity -/

theorem foldl_xor_eq (f : Nat → Bool) (n : Nat) :
    (List.range n).foldl (fun p i => Bool.xor p (f i)) false = decide (((List.range n).filter f).length % 2 = 1) := by
  induction n with
  | zero => rfl
  | succ n ih =>
    rw [List.range_succ, List.foldl_append, ih, List.filter_append, List.length_append]
    cases hf : f n
    · simp [hf]
    · have one : [n].filter f = [n] := by simp [hf]
      rw [one, List.length_singleton, List.foldl_cons, List.foldl_nil, hf, Bool.xor_true, ← decide_not]
      exact decide_eq_decide.2 (by omega)

/-- The parity of the data with the parity bit: that of the ones among the nine bits. -/
theorem oddOnes_dataBits (bits : List (BitVec 3)) :
    Bool.xor (oddOnes (dataBits bits)) (bitTime bits 9)
      = decide (((List.range 9).filter fun i => bitTime bits (i + 1)).length % 2 = 1) := by
  rw [← foldl_xor_eq, List.range_succ, List.foldl_append, oddOnes]
  refine congrArg (Bool.xor · (bitTime bits 9)) (List.foldl_ext _ _ _ fun p i hi => ?_)
  rw [dataBits_getLsbD bits (List.mem_range.1 hi)]

/-! ## Octets -/

/-- The place of the stop bit. -/
def stopBit (p : Parity) : Nat := if p = .none then 9 else 10

/-- The PARITY mark: the parity bit disagrees with the data. -/
def parityMark (p : Parity) (bits : List (BitVec 3)) : Bool :=
  ((parityBit p (dataBits bits)).map (· != bitTime bits 9)).getD false

theorem sampleOctet_rejected {bits : List (BitVec 3)} (h : bitTime bits 0 = true) (p : Parity) : sampleOctet p bits = none :=
  if_pos h

theorem sampleOctet_read {bits : List (BitVec 3)} (h : bitTime bits 0 = false) (p : Parity) :
    sampleOctet p bits
      = some { octet := dataBits bits, framing := !bitTime bits (stopBit p), parity := parityMark p bits } := by
  have goesOn := Bool.eq_false_iff.1 h
  cases p with
  | none => exact if_neg goesOn
  | even => exact if_neg goesOn
  | odd => exact if_neg goesOn

theorem parityMark_even (bits : List (BitVec 3)) :
    parityMark .even bits = decide (((List.range 9).filter fun i => bitTime bits (i + 1)).length % 2 = 1) :=
  (oddOnes_dataBits bits)

theorem parityMark_odd (bits : List (BitVec 3)) :
    parityMark .odd bits = decide (((List.range 9).filter fun i => bitTime bits (i + 1)).length % 2 = 0) := by
  have even := parityMark_even bits
  have flips : parityMark .odd bits = !parityMark .even bits := Bool.not_bne _ _
  rw [flips, even, ← decide_not]
  exact decide_eq_decide.2 (by omega)

/-! ## What is sent is received -/

theorem octetLevels_data (p : Parity) (b : Byte) {i : Nat} (hi : i < 8) : (octetLevels p b).getD (i + 1) true = b.getLsbD i := by
  have hlen : i < ((List.range 8).map fun i => b.getLsbD i).length := by simpa using hi
  rw [octetLevels, List.append_assoc, List.append_assoc, List.singleton_append, List.getD_cons_succ,
    List.getD_append _ _ _ _ hlen]
  simp [hi]

theorem dataBits_levels (p : Parity) (b : Byte) :
    dataBits ((octetLevels p b).map fun high => if high then 7#3 else 0#3) = b := by
  refine BitVec.eq_of_getLsbD_eq fun i hi => ?_
  rw [dataBits_getLsbD _ hi, bitTime_levels, octetLevels_data p b hi]

theorem sampleOctet_levels (p : Parity) (b : Byte) :
    sampleOctet p ((octetLevels p b).map fun high => if high then 7#3 else 0#3)
      = some { octet := b, framing := false, parity := false } := by
  have start : (octetLevels p b).getD 0 true = false := rfl
  have stop : (octetLevels p b).getD (stopBit p) true = true := by cases p <;> rfl
  rw [sampleOctet_read ((bitTime_levels _ 0).trans start), parityMark, bitTime_levels, bitTime_levels, dataBits_levels, stop]
  cases p with
  | none => rfl
  | even => exact congrArg _ (congrArg _ (bne_self_eq_false _))
  | odd => exact congrArg _ (congrArg _ (bne_self_eq_false _))

end Sys2Proof.Machine
end

section
/-! PROOF. The frame receiver (R166): a frame taken octet by octet from HUNTING. -/

namespace Sys2Proof.Machine

/-- An octet without error marks is taken. -/
def FrameReceiver.takeGood (r : FrameReceiver) (b : Byte) : FrameReceiver :=
  r.take { octet := b, framing := false, parity := false }

theorem FrameReceiver.hunting_keeps {o : RxOctet} (h : ¬ (o.octet = 0xA5#8 ∧ o.framing = false ∧ o.parity = false)) :
    FrameReceiver.hunting.take o = .hunting := by
  refine if_neg fun hc => h ?_
  simpa using hc

theorem FrameReceiver.takeGood_inside {p : PartialFrame} (h : p.overrun = false) (b : Byte) :
    (FrameReceiver.inside p).takeGood b = p.take b := if_neg (by simp [h])

/-! ## Octets by their place in the frame (R165, R166) -/

section Place

variable {p : PartialFrame} {b : Byte}

theorem PartialFrame.take_payload (hheader : 3 ≤ p.taken) (hlen : p.taken < 3 + p.length) :
    p.take b
      = .inside { p with
          taken := p.taken + 1, crc := crcOctet p.crc b
          payload := if p.payload.length < 16 then p.payload ++ [b] else p.payload } := by
  unfold PartialFrame.take
  dsimp only
  rw [if_neg (by omega), if_neg (by omega), if_neg (by omega), if_pos hlen]

theorem PartialFrame.take_crcHigh (h : p.taken = 3 + p.length) :
    p.take b = .inside { p with taken := p.taken + 1, crcHigh := b } := by
  unfold PartialFrame.take
  dsimp only
  rw [if_neg (by omega), if_neg (by omega), if_neg (by omega), if_neg (by omega), if_pos h]

theorem PartialFrame.take_crcLow (h : p.taken = 3 + p.length + 1) :
    p.take b
      = if p.crc = p.crcHigh.setWidth 16 <<< 8 ||| b.setWidth 16 then
          .good { kind := p.kind, length := p.length, payload := p.payload } else .faulty := by
  unfold PartialFrame.take
  dsimp only
  rw [if_neg (by omega), if_neg (by omega), if_neg (by omega), if_neg (by omega), if_neg (by omega)]

end Place

/-! ## A whole frame -/

/-- The frame after its lead, kind, length and some payload octets. -/
def PartialFrame.within (kind low high : Byte) (payload : List Byte) : PartialFrame :=
  { taken := 3 + payload.length, kind := kind, length := low.toNat + 256 * high.toNat, payload := payload.take 16
    crc := crcOf (kind :: low :: high :: payload), crcHigh := 0, overrun := false }

/-- A length above 1040 is found at its second octet. -/
theorem FrameReceiver.takeGood_header (kind low high : Byte) :
    [0xA5#8, kind, low, high].foldl FrameReceiver.takeGood .hunting
      = if 1040 < low.toNat + 256 * high.toNat then .faulty else .inside (.within kind low high []) := rfl

section Frame

variable (kind low high : Byte)

theorem FrameReceiver.takeGood_payload {payload : List Byte} (hlen : payload.length < low.toNat + 256 * high.toNat) (b : Byte) :
    (FrameReceiver.inside (.within kind low high payload)).takeGood b = .inside (.within kind low high (payload ++ [b])) := by
  have keeps : (if (payload.take 16).length < 16 then payload.take 16 ++ [b] else payload.take 16)
      = (payload ++ [b]).take 16 := by
    rw [List.take_append, List.length_take]
    split
    case isTrue h => rw [List.take_of_length_le (l := [b]) (by simp; omega)]
    case isFalse h => rw [show 16 - payload.length = 0 by omega, List.take_zero, List.append_nil]
  have counts : 3 + payload.length + 1 = 3 + (payload ++ [b]).length := by simp [Nat.add_assoc]
  have crc : crcOctet (crcOf (kind :: low :: high :: payload)) b = crcOf (kind :: low :: high :: (payload ++ [b])) :=
    (crcOf_append (kind :: low :: high :: payload) b).symm
  rw [FrameReceiver.takeGood_inside rfl, PartialFrame.take_payload (Nat.le_add_right 3 _) (Nat.add_lt_add_left hlen 3),
    FrameReceiver.inside.injEq, PartialFrame.within, PartialFrame.within, PartialFrame.mk.injEq]
  exact ⟨counts, rfl, rfl, keeps, crc, rfl, rfl⟩

theorem FrameReceiver.takeGood_payloads (rest payload : List Byte)
    (hlen : payload.length + rest.length ≤ low.toNat + 256 * high.toNat) :
    rest.foldl FrameReceiver.takeGood (.inside (.within kind low high payload))
      = .inside (.within kind low high (payload ++ rest)) := by
  induction rest generalizing payload with
  | nil => simp
  | cons b rest ih =>
    rw [List.length_cons] at hlen
    rw [List.foldl_cons, FrameReceiver.takeGood_payload kind low high (by omega),
      ih (payload ++ [b]) (by simp; omega), List.append_assoc]
    rfl

/-- The two CRC octets end the frame. -/
theorem FrameReceiver.takeGood_crc {payload : List Byte} (hlen : payload.length = low.toNat + 256 * high.toNat) (c1 c2 : Byte) :
    [c1, c2].foldl FrameReceiver.takeGood (.inside (.within kind low high payload))
      = if c1 = (crcOf (kind :: low :: high :: payload) >>> 8).setWidth 8
            ∧ c2 = (crcOf (kind :: low :: high :: payload)).setWidth 8 then
          .good { kind := kind, length := payload.length, payload := payload.take 16 } else .faulty := by
  have first : (FrameReceiver.inside (.within kind low high payload)).takeGood c1
      = .inside { PartialFrame.within kind low high payload with taken := 3 + payload.length + 1, crcHigh := c1 } := by
    rw [FrameReceiver.takeGood_inside rfl, PartialFrame.take_crcHigh (congrArg (3 + ·) hlen)]
    rfl
  have second : (FrameReceiver.inside
        { PartialFrame.within kind low high payload with taken := 3 + payload.length + 1, crcHigh := c1 }).takeGood c2
      = if crcOf (kind :: low :: high :: payload) = c1.setWidth 16 <<< 8 ||| c2.setWidth 16 then
          .good { kind := kind, length := payload.length, payload := payload.take 16 } else .faulty := by
    rw [FrameReceiver.takeGood_inside rfl, PartialFrame.take_crcLow (by rw [hlen]; rfl), hlen]
    rfl
  rw [List.foldl_cons, List.foldl_cons, List.foldl_nil, first, second]
  exact if_congr (crc_octets_iff _ _ _) rfl rfl

theorem FrameReceiver.takeGood_frame {payload : List Byte} (hlen : payload.length = low.toNat + 256 * high.toNat)
    (hmax : payload.length ≤ 1040) (c1 c2 : Byte) :
    (0xA5#8 :: (kind :: low :: high :: payload) ++ [c1, c2]).foldl FrameReceiver.takeGood .hunting
      = if c1 = (crcOf (kind :: low :: high :: payload) >>> 8).setWidth 8
            ∧ c2 = (crcOf (kind :: low :: high :: payload)).setWidth 8 then
          .good { kind := kind, length := payload.length, payload := payload.take 16 } else .faulty := by
  have split : 0xA5#8 :: (kind :: low :: high :: payload) ++ [c1, c2] = [0xA5#8, kind, low, high] ++ payload ++ [c1, c2] := rfl
  have short : ¬ 1040 < low.toNat + 256 * high.toNat := by omega
  rw [split, List.foldl_append, List.foldl_append, FrameReceiver.takeGood_header, if_neg short,
    FrameReceiver.takeGood_payloads kind low high payload [] (by simp [hlen]), List.nil_append,
    FrameReceiver.takeGood_crc kind low high hlen]

end Frame

/-- A length of at most 1040 is what its two octets say. -/
theorem length_octets {n : Nat} (h : n ≤ 1040) : n = (BitVec.ofNat 8 n).toNat + 256 * (BitVec.ofNat 8 (n / 256)).toNat := by
  simp only [BitVec.toNat_ofNat]
  omega

end Sys2Proof.Machine
end

section
/-! PROOF. The octets of the frames the part sends (R167, R206), field by field. -/

namespace Sys2Proof.Machine

/-- Octet `k` of a field, from its low octet on. -/
def fieldOctet (n k : Nat) : Byte := BitVec.ofNat 8 (n / 256 ^ k)

theorem bytes16_eq (n : Nat) : bytes16 n = [fieldOctet n 0, fieldOctet n 1] := by
  simp [bytes16, fieldOctet]

theorem bytes32_eq (n : Nat) : bytes32 n = [fieldOctet n 0, fieldOctet n 1, fieldOctet n 2, fieldOctet n 3] := by
  simp [bytes32, bytes16, fieldOctet, Nat.div_div_eq_div_mul]

/-- Lead, kind, length, payload and CRC (R165). -/
theorem PartFrame.octets_eq {m : Memory} {f : PartFrame} {payload : List Byte} {length : Nat} (h : f.payload m = payload)
    (hlen : payload.length = length) :
    f.octets m
      = 0xA5#8 :: (f.kindCode :: fieldOctet length 0 :: fieldOctet length 1 :: payload)
        ++ [(crcOf (f.kindCode :: fieldOctet length 0 :: fieldOctet length 1 :: payload) >>> 8).setWidth 8,
          (crcOf (f.kindCode :: fieldOctet length 0 :: fieldOctet length 1 :: payload)).setWidth 8] := by
  rw [PartFrame.octets, h, hlen, bytes16_eq]
  rfl

theorem PartFrame.payload_page (m : Memory) (address first count : Nat) :
    (PartFrame.page address first count).payload m
      = [fieldOctet first 0, fieldOctet first 1, fieldOctet first 2, fieldOctet first 3, fieldOctet count 0, fieldOctet count 1]
        ++ (List.range (32 * count)).map fun i => m.read8 (address + i) := by
  rw [PartFrame.payload, bytes32_eq, bytes16_eq, Memory.bytes_eq_map]
  rfl

theorem PartFrame.payload_opening (m : Memory) (branch day minute cut pages : Nat) :
    (PartFrame.opening branch day minute cut pages).payload m
      = [fieldOctet branch 0, fieldOctet branch 1, fieldOctet day 0, fieldOctet day 1, fieldOctet minute 0, fieldOctet minute 1,
          fieldOctet cut 0, fieldOctet cut 1, fieldOctet cut 2, fieldOctet cut 3, fieldOctet pages 0, fieldOctet pages 1] := by
  rw [PartFrame.payload, bytes32_eq, bytes16_eq, bytes16_eq, bytes16_eq, bytes16_eq]
  rfl

end Sys2Proof.Machine
end

section
/-! PROOF. OCTET_RECEIVED (R161, R163, R164), and the line's frames assembled. -/

namespace Sys2Proof.Machine

/-- The parity in force before the latest `changes` changes (R161). -/
theorem Line.parityAt_eq (l : Line) (now : Parity) (changes : Nat) :
    l.parityAt now changes
      = if changes = 0 then now else l.pastParity.getD (min changes l.pastParity.length - 1) now := by
  unfold Line.parityAt
  split
  case isTrue h =>
    rw [h, Nat.zero_min]
    rfl
  case isFalse h =>
    rcases hn : min changes l.pastParity.length with _ | k
    · have none : l.pastParity = [] := List.length_eq_zero_iff.1 (by omega)
      rw [none]
      rfl
    · rfl

section Octet

variable {l : Line} {p : Parity} {bits : List (BitVec 3)}

theorem Line.receive_rejected (h : sampleOctet p bits = none) :
    l.receive p bits = { l with waitHigh := false, pastParity := [] } := by
  rw [Line.receive, h]
  rfl

theorem Line.receive_joins {o : RxOctet} (h : sampleOctet p bits = some o) (hroom : l.queue.length < 4) :
    l.receive p bits = { l with waitHigh := o.framing, pastParity := [], queue := l.queue ++ [o] } := by
  rw [Line.receive, h]
  exact if_pos hroom

theorem Line.receive_loses {o : RxOctet} (h : sampleOctet p bits = some o) (hfull : 4 ≤ l.queue.length) :
    l.receive p bits = { l with receiver := l.receiver.overrun, waitHigh := o.framing, pastParity := [] } := by
  rw [Line.receive, h, ← Line.completes_lose]
  exact if_neg (Nat.not_lt.2 hfull)

end Octet

/-- Settles O54. -/
theorem sentFramesAreReceived : Obligations.SentFramesAreReceived := by
  refine ⟨?_, sampleOctet_levels, fun p bits => ?_, fun o => ⟨FrameReceiver.hunting_keeps, fun h p => ?_⟩,
    fun kind low high h => ?_, fun kind payload c1 c2 hmax => ?_, fun kind payload hmax => ?_, fun m => ?_,
    fun s bits changes taken => ?_⟩
  · refine ⟨rfl, fun bs b => ?_, by simp [crcOf, crcOctet, crcShift, crcStart]⟩
    rw [crcOf_append, crcOctet_feeds]
    rfl
  · intro high ones stop
    have reads (i : Nat) : bitTime bits i = high i := majority_eq _
    refine ⟨fun h => sampleOctet_rejected ((reads 0).trans h) p, fun h => ?_⟩
    refine ⟨_, sampleOctet_read ((reads 0).trans h) p, fun i hi => (dataBits_getLsbD bits hi).trans (reads _),
      congrArg (!·) (reads (stopBit p)), ?_, ?_, ?_⟩
    · rintro rfl
      rfl
    · rintro rfl
      simp only [parityMark_even, reads]
      rfl
    · rintro rfl
      simp only [parityMark_odd, reads]
      rfl
  · exact FrameReceiver.take_marked (h.imp_right .inl)
  · exact (FrameReceiver.takeGood_header kind low high).trans (if_pos h)
  · intro body hcrc
    exact (FrameReceiver.takeGood_frame kind _ _ (length_octets hmax) hmax c1 c2).trans (if_neg hcrc)
  · intro body crc octets
    exact (FrameReceiver.takeGood_frame kind _ _ (length_octets hmax) hmax _ _).trans (if_pos ⟨rfl, rfl⟩)
  · intro octet framed
    refine ⟨fun branch day minute cut pages => ?_, fun address first count => ?_, fun last => ?_⟩
    · exact PartFrame.octets_eq (PartFrame.payload_opening m branch day minute cut pages) rfl
    · exact PartFrame.octets_eq (PartFrame.payload_page m address first count) (by simp; omega)
    · exact PartFrame.octets_eq (bytes32_eq last) rfl
  · intro parity
    have received {l : Line} (h : s.line.receive parity bits = l) :
        exec (.octetReceived { bits := bits, changes := changes } taken) s = .next (s.withLine (l.takeOctets taken)) := by
      have inForce : s.line.parityAt s.settings.parity changes = parity := s.line.parityAt_eq _ _
      rw [← h, ← inForce]
      rfl
    refine ⟨fun o ho hroom => received (Line.receive_joins ho hroom), fun o ho hfull => ?_,
      fun h => received (Line.receive_rejected h)⟩
    intro marked
    have marks : s.line.receiver.overrun = marked := by
      cases hr : s.line.receiver <;> simp [marked, hr, FrameReceiver.overrun]
    rw [← marks]
    exact received (Line.receive_loses ho hfull)

end Sys2Proof.Machine
end

section
/-! PROOF. PRINT_TEXT and the slip request (R179 to R181). -/

namespace Sys2Proof.Machine

/-! ## The slip request (R179) -/

theorem Printer.enqueue_joins {p : Printer} (h : p.state ≠ .idle) (x : Slip) :
    p.enqueue x = { p with queue := p.queue ++ [x] } := if_neg h

theorem Printer.enqueue_starts {p : Printer} (h : p.state = .idle) (x : Slip) :
    p.enqueue x = { p with queue := p.queue ++ [x] }.start := if_pos h

theorem State.countPrinter_detached {s : State} (h : ¬ (s.desk.state = .opened ∨ s.desk.state = .halted)) (off : Nat) :
    s.countPrinter off = s := if_neg (mt s.attached_iff.1 h)

/-- The count read from desk memory is raised and written back, between the two writes of the group's change count. -/
theorem State.countPrinter_attached {s : State} (h : s.desk.state = .opened ∨ s.desk.state = .halted) (off : Nat) :
    let a := s.desk.anchor + offPrinter
    let field := s.desk.anchor + off
    let raised := (s.mem.read32 field + 1) % 4294967296
    s.countPrinter off
      = s.writeAll
          [{ addr := a, word := openingCount (s.mem.read16 a) }, { addr := field, word := raised % 65536 },
           { addr := field + 2, word := raised / 65536 },
           { addr := a, word := (openingCount (s.mem.read16 a) + 1) % 65536 }] := by
  intro a field raised
  have fits : raised / 65536 % 65536 = raised / 65536 := Nat.mod_eq_of_lt (by omega)
  have body : putWords field (words32 raised)
      = [{ addr := field, word := raised % 65536 }, { addr := field + 2, word := raised / 65536 }] := by
    simp only [putWords, words32, Nat.mod_mod, fits]
  refine (if_pos (s.attached_iff.2 h)).trans ?_
  rw [State.printerWrites, State.anchor32, wrap32, body]
  rfl

/-! ## PRINT_TEXT (R180, R181) -/

theorem textLines_eq_map (m : Memory) (a n : Nat) :
    textLines m a n = (List.range n).map fun i => (m.bytes (a + 24 * i) 24).map BitVec.toNat := by
  induction n generalizing a with
  | zero => rfl
  | succ n ih =>
    have next (i : Nat) : a + 24 + 24 * i = a + 24 * (i + 1) := by omega
    rw [textLines, ih, List.range_succ_eq_map, List.map_cons, List.map_map]
    simp only [next]
    rfl

section PrintText

variable {s : State} {o : Order} (ho : s.orderAt kindPrintText .owner = some o)
include ho

theorem exec_printText_limit (h : o.a = 0 ∨ 8 < o.a ∨ ¬ s.geometry.inWindow o.b (24 * o.a) = true) :
    exec .printText s = .next (s.finishOrder { outcome := .limit }) := by
  simp only [exec, execPrintText, ho]
  exact if_pos (h.imp_left fun h => by omega)

theorem exec_printText_requests (h1 : 1 ≤ o.a) (h8 : o.a ≤ 8) (hin : s.geometry.inWindow o.b (24 * o.a) = true) :
    exec .printText s
      = .next ((s.requestSlip (textSlip s.reading (textLines s.mem o.b o.a))).finishOrder
          { outcome := .done, count := if s.slipLost then 0 else o.a, slipLost := s.slipLost }) := by
  simp only [exec, execPrintText, ho]
  exact if_neg (not_or.2 ⟨by omega, not_or.2 ⟨by omega, not_not_intro hin⟩⟩)

end PrintText

/-- Settles O44. -/
theorem slipsAreRequested : Obligations.SlipsAreRequested := by
  refine ⟨fun s o ho => ?_, fun s x => ?_⟩
  · intro inside line slip
    have hslip : textSlip s.reading (textLines s.mem o.b o.a) = slip := by
      rw [textLines_eq_map]
      rfl
    refine ⟨exec_printText_limit ho, fun h1 h8 hin hroom => ?_, fun h1 h8 hin hfull => ?_⟩
    · have kept : s.slipLost = false := State.slipLost_room hroom
      rw [exec_printText_requests ho h1 h8 hin, hslip, kept]
      rfl
    · have lost : s.slipLost = true := decide_eq_true hfull
      rw [exec_printText_requests ho h1 h8 hin, hslip, lost]
      rfl
  · intro p a c odd lost
    refine ⟨fun hroom hbusy => ?_, fun hroom hidle => ?_, fun hfull hdesk => ?_, fun hfull hdesk => ?_⟩
    · rw [State.requestSlip_queued s x hroom, Printer.enqueue_joins hbusy]
    · rw [State.requestSlip_queued s x hroom, Printer.enqueue_starts hidle]
      rfl
    · rw [State.requestSlip_lost s x hfull, State.countPrinter_attached hdesk]
      rfl
    · have detached : ¬ (s.desk.state = .opened ∨ s.desk.state = .halted) := by
        rcases hdesk with h | h <;> rw [h] <;> decide
      rw [State.requestSlip_lost s x hfull, State.countPrinter_detached detached]

end Sys2Proof.Machine
end

section
/-! PROOF. An UNANCHORED desk neither reads nor writes desk memory (R194): a stop finds no work in progress, the commands that work
on desk memory's structures find nothing to do, and the others act on what does not hold it. -/

namespace Sys2Proof.Machine

/-- The outcomes of one command with the desk memory of `s` and with desk memory `m`: the same next state but for its memory,
which neither has changed. -/
def Blind (s : State) (m : Memory) (x y : Host.Outcome State Fault Refusal) : Prop :=
  ∃ t, x = .next t ∧ t.mem = s.mem ∧ y = .next (t.withMem m)

section Outcomes

variable {s : State} {m : Memory}

theorem Blind.next {t u : State} (ht : t.mem = s.mem) (hu : u = t.withMem m) : Blind s m (.next t) (.next u) :=
  ⟨t, rfl, ht, congrArg _ hu⟩

/-- Nothing is done, with either memory. -/
theorem Blind.same : Blind s m (.next s) (.next (s.withMem m)) := .next rfl rfl

theorem Blind.ite {c : Prop} [Decidable c] {x₁ y₁ x₂ y₂ : Host.Outcome State Fault Refusal} (h₁ : Blind s m x₁ y₁)
    (h₂ : Blind s m x₂ y₂) : Blind s m (if c then x₁ else x₂) (if c then y₁ else y₂) := by
  split
  · exact h₁
  · exact h₂

end Outcomes

/-! ## Works in progress: none -/

/-- Whatever works are named, none is in progress (R194). -/
theorem State.job_unanchored {s : State} (h : s.desk.state = .unanchored) (w : Work) : s.job w = {} := by
  simp [State.job, State.attached, h]

theorem State.broughtBy_unanchored {s : State} (h : s.desk.state = .unanchored) (made : List Work) (w : Work) :
    s.broughtBy made w = [] := by
  cases w <;> simp [State.broughtBy, State.attached, h]

theorem State.leaveEach_unanchored {s : State} (h : s.desk.state = .unanchored) (made : List Work)
    (works : List (Work × Nat)) : s.leaveEach made s works = s := by
  induction works generalizing made with
  | nil => rfl
  | cons x rest ih =>
    have left : s.leave {} x.2 = s := by simp [State.leave_none, State.writeAll, State.withMem]
    simp only [State.leaveEach, State.job_unanchored h, State.broughtBy_unanchored h, List.foldl_nil, left, ih, ite_self]

theorem State.interrupt_unanchored {s : State} (h : s.desk.state = .unanchored) (stopped : List (Work × Nat)) :
    s.interrupt stopped = s := State.leaveEach_unanchored h [] _

/-! ## A scan reads no memory -/

theorem State.wandArrival_mem (s : State) (i : Fin 4) (l : Label) : (s.wandArrival i l).mem = s.mem := by
  unfold State.wandArrival
  dsimp only
  split
  · rfl
  · split <;> rfl

theorem State.wandArrival_withMem (s : State) (m : Memory) (i : Fin 4) (l : Label) :
    (s.withMem m).wandArrival i l = (s.wandArrival i l).withMem m := by
  unfold State.wandArrival
  dsimp only [State.withMem_station, State.withMem_settings]
  split
  · rfl
  · split <;> rfl

theorem State.repeatCheck_mem (s : State) (i : Fin 4) (l : Label) : (s.repeatCheck i l).mem = s.mem := by
  unfold State.repeatCheck
  dsimp only
  split
  · rfl
  · exact State.wandArrival_mem _ i l

theorem State.repeatCheck_withMem (s : State) (m : Memory) (i : Fin 4) (l : Label) :
    (s.withMem m).repeatCheck i l = (s.repeatCheck i l).withMem m := by
  by_cases dropped : (s.station i).repeatTimer.isSome ∧ (s.station i).lastLabel = some (l.kind, l.number)
  · rw [State.repeatCheck_repeats dropped, State.repeatCheck_repeats (s := s.withMem m) dropped]
    rfl
  · rw [State.repeatCheck_passes dropped, State.repeatCheck_passes (s := s.withMem m) dropped]
    exact State.wandArrival_withMem (s.setStation i _) m i l

theorem execDecodeComplete_blind (s : State) (m : Memory) (wand : Fin 4) :
    Blind s m (execDecodeComplete wand s) (execDecodeComplete wand (s.withMem m)) := by
  unfold execDecodeComplete
  dsimp only [State.withMem_channel]
  split
  · split
    · exact .next rfl rfl
    · exact .next (State.repeatCheck_mem _ wand _) (State.repeatCheck_withMem (s.setChannel wand _) m wand _)
  · exact .same

theorem execToneStepEnd_blind (s : State) (m : Memory) (i : Fin 4) :
    Blind s m (execToneStepEnd i s) (execToneStepEnd i (s.withMem m)) := by
  unfold execToneStepEnd
  dsimp only [State.withMem_station]
  split
  · exact .same
  · exact .next rfl rfl

/-! ## What a still desk does without its memory -/

namespace State.still

theorem withMem {s : State} (h : s.still) (m : Memory) : (s.withMem m).still := h

theorem discardFrame_eq {s : State} (h : s.still) : s.discardFrame = (s.raise .lineError).resumeLine := by
  rw [State.discardFrame, State.count16, h.writeField]

theorem countReport_eq {s : State} (h : s.still) (off : Nat) : s.countReport off = s := h.writeField _ _ _

theorem dayChange_eq {s : State} (h : s.still) : s.dayChange = s.raise .dayChanged := by
  rw [State.dayChange, if_neg (by rw [h.1]; exact Bool.false_ne_true)]

theorem clockEvents_eq {s : State} (h : s.still) (old : Clock) :
    s.clockEvents old = s.raiseIf (decide (s.clock.day ≠ old.day)) .dayChanged := by
  have changed : (if s.clock.day = old.day then s else s.dayChange) = s.raiseIf (decide (s.clock.day ≠ old.day)) .dayChanged := by
    rw [h.dayChange_eq]
    by_cases hd : s.clock.day = old.day <;> simp [State.raiseIf, hd]
  have still : (s.raiseIf (decide (s.clock.day ≠ old.day)) .dayChanged).still := by
    unfold State.raiseIf
    split
    · exact h.raise .dayChanged
    · exact h
  simp only [State.clockEvents, changed, still.uploadMinute, ite_self]

theorem runTxn_eq {s : State} (h : s.still) (want : TxnKind → Bool) (plan : State → Txn → Plan) :
    s.runTxn want plan = .next s := by rw [State.runTxn, h.busyWith]

theorem runReport_eq {s : State} (h : s.still) (kind : Nat) : s.runReport kind = .next s := by
  rw [State.runReport, h.orderAt]
  exact h.runTxn_eq _ _

end State.still

section Still

variable {s : State} (h : s.still) (m : Memory)
include h

/-- A command that finds nothing to do in a still desk is blind. -/
theorem State.still.idle {f : State → Host.Outcome State Fault Refusal} (hf : ∀ u : State, u.still → f u = .next u) :
    Blind s m (f s) (f (s.withMem m)) := by
  rw [hf s h, hf (s.withMem m) h]
  exact .same

theorem execFrameDiscard_blind : Blind s m (execFrameDiscard s) (execFrameDiscard (s.withMem m)) := by
  unfold execFrameDiscard
  dsimp only [State.withMem_line]
  rw [h.discardFrame_eq, (h.withMem m).discardFrame_eq]
  split
  · exact .next rfl rfl
  · exact .same

theorem execFrameGapTimeout_blind : Blind s m (execFrameGapTimeout s) (execFrameGapTimeout (s.withMem m)) := by
  unfold execFrameGapTimeout
  dsimp only [State.withMem_line]
  rw [h.discardFrame_eq, (h.withMem m).discardFrame_eq]
  split
  · exact .next rfl rfl
  · exact .same

theorem execStrayFrame_blind : Blind s m (execStrayFrame s) (execStrayFrame (s.withMem m)) := by
  unfold execStrayFrame
  dsimp only [State.withMem_line]
  rw [h.countReport_eq, (h.withMem m).countReport_eq]
  split
  · exact .ite (.next rfl rfl) .same
  · exact .same

theorem execClockSecond_blind : Blind s m (execClockSecond s) (execClockSecond (s.withMem m)) := by
  have clock (u : State) (hu : u.still) : (u.withClock u.clock.tick).still := hu
  unfold execClockSecond
  rw [(clock s h).clockEvents_eq, (clock (s.withMem m) h).clockEvents_eq]
  exact .ite (.next (State.raiseIf_mem _ _ _) (State.raiseIf_withMem (s.withClock s.clock.tick) _ _ m).symm) .same

omit h in
theorem execWorklistWrite_blind (d : s.desk.state = .unanchored) (value : RegWord) :
    Blind s m (execWorklistWrite value s) (execWorklistWrite value (s.withMem m)) := by
  have lost (u : State) (hu : u.desk.state = .unanchored) :
      execWorklistWrite value u = if value.toNat = 0 then .next u else .next (u.raise .postLost) := by
    simp only [execWorklistWrite, hu, true_or, if_true]
  rw [lost s d, lost (s.withMem m) d]
  exact .ite .same (.next rfl rfl)

omit h in
theorem execPowerOn_blind (d : s.desk.state = .unanchored) (stopped : List (Work × Nat)) :
    Blind s m (execPowerOn stopped s) (execPowerOn stopped (s.withMem m)) := by
  unfold execPowerOn
  rw [State.interrupt_unanchored d, State.interrupt_unanchored (s := s.withMem m) d]
  exact .next rfl rfl

theorem execAnchorWrite_blind (d : s.desk.state = .unanchored) (value : RegWord) (stopped : List (Work × Nat)) :
    Blind s m (execAnchorWrite value stopped s) (execAnchorWrite value stopped (s.withMem m)) := by
  have empty (u : State) (hu : u.executor.slot = none) (a : Nat) : u.restart a
      = (u.restartBlocks.withExecutor (u.executor.restart (a == 0))).withDesk (u.desk.anchorWritten a) := by
    rw [State.restart, hu]
    rfl
  unfold execAnchorWrite
  rw [State.interrupt_unanchored d, State.interrupt_unanchored (s := s.withMem m) d, empty s (h.slot d),
    empty (s.withMem m) (h.slot d)]
  exact .next rfl rfl

/-- In an UNANCHORED desk every command does the same with any desk memory, and leaves it (R194). -/
theorem exec_blind (d : s.desk.state = .unanchored) (c : Instr) : Blind s m (exec c s) (exec c (s.withMem m)) := by
  have idles (hf : ∀ u : State, u.still → exec c u = .next u) :
      Blind s m (exec c s) (exec c (s.withMem m)) := h.idle m hf
  cases c with
  | powerOn stopped => exact execPowerOn_blind m d stopped
  | anchorWrite value stopped => exact execAnchorWrite_blind h m d value stopped
  | worklistWrite value => exact execWorklistWrite_blind m d value
  | noticeWrite _ => exact .ite (.next rfl rfl) .same
  | ceilingWrite _ => exact .next rfl rfl
  | stateWrite _ => exact .same
  | elementEnd _ _ => exact .next rfl rfl
  | quietZoneBegin _ _ => exact .next rfl rfl
  | decodeComplete wand => exact execDecodeComplete_blind s m wand
  | repeatTimerExpire _ => exact .next rfl rfl
  | toneStepEnd i => exact execToneStepEnd_blind s m i
  | tonePeriodEnd _ => exact .ite (.next rfl rfl) .same
  | clockSecond => exact execClockSecond_blind h m
  | strayFrame => exact execStrayFrame_blind h m
  | frameDiscard => exact execFrameDiscard_blind h m
  | frameGapTimeout => exact execFrameGapTimeout_blind h m
  | receiveQueueOverrun => exact .ite .same (.next rfl rfl)
  | octetReceived _ _ => exact .next rfl rfl
  | lineRdyChange _ => exact .ite .same (.next rfl rfl)
  | paperSensorChange _ => exact .ite .same (.next rfl rfl)
  | anchoringEnd =>
    have away (u : State) (hu : u.desk.state = .unanchored) : exec .anchoringEnd u = .next u :=
      if_neg (by rw [hu]; decide)
    rw [away s d, away (s.withMem m) d]
    exact .same
  | counterMirrorWrite | slateOutcomeWrite =>
    exact idles fun u hu => if_neg (by rw [hu.1]; exact Bool.false_ne_true)
  | outcomeBufferEnter i =>
    refine idles fun u hu => ?_
    obtain ⟨_, _, _, _, _, _, _, waiting, _⟩ := hu.station i
    simp only [exec, execOutcomeBufferEnter, waiting]
  | idleDeadlineExpire i =>
    refine idles fun u hu => ?_
    obtain ⟨_, _, _, _, _, deadline, _⟩ := hu.station i
    simp [exec, execIdleDeadlineExpire, deadline]
  | engineGrant => exact idles fun u hu => if_neg (by rw [hu.1]; exact fun x => Bool.false_ne_true x.1)
  | listStart =>
    refine idles fun u hu => ?_
    simp only [exec, execListStart, hu.running, hu.1]
    split <;> rfl
  | orderTakeUp => exact idles fun u hu => by simp only [exec, execOrderTakeUp, hu.running]
  | endList | setStationMode | modeChangeFinish | keyedLabel | keyedLabelEnter | reloadRules | reloadSettings | releasePages
  | printText | startUpload | abortUpload =>
    exact idles fun u hu => by
      simp only [exec, execEndList, execSetStationMode, execModeChangeFinish, execKeyedLabel, execKeyedLabelEnter,
        execReloadRules, execReloadSettings, execReleasePages, execPrintText, execStartUpload, execAbortUpload, hu.orderAt]
  | takenFrame | refusedFrame | noticeFrame | finishedFrame =>
    exact idles fun u hu => by
      simp only [exec, execTakenFrame, execRefusedFrame, execNoticeFrame, execFinishedFrame, hu.acceptedFrame]
  | frameSent => exact idles fun u hu => by simp only [exec, execFrameSent, hu.transmission]
  | replyTimeout | noticeTimeout | lineDownTimeout =>
    exact idles fun u hu => by
      simp [exec, execReplyTimeout, execNoticeTimeout, execLineDownTimeout, hu.upload, Upload.reset]
  | dotLineRendered => exact idles fun u hu => by simp [exec, execDotLineRendered, hu.queue]
  | dotLineStart | dotLineFed | paperTimerExpire =>
    exact idles fun u hu => by
      simp [exec, execDotLineStart, execDotLineFed, execPaperTimerExpire, hu.printer]
  | reportOverdue | reportBorrowerLoans | reportHoldShelf => exact idles fun u hu => hu.runReport_eq _
  | uploadStarted => exact idles fun u hu => by simp only [exec, execUploadStarted, hu.busyWith]
  | centerNotice => exact idles fun u hu => hu.runTxn_eq _ fun s t => planNotice s t t.notice
  | sessionOpen | sessionRefresh | noBorrower | wrongLabel | checkout | renewal | returnItem | borrowerInquiry | itemInquiry
  | formatTables | addBorrower | updateBorrower | removeBorrower | setBlock | clearBlock | payFine | adjustFine
  | declareLost | withdraw | release | setClock | placeHold | cancelHold | pagesReleased | daySweepStep
  | uploadEnded => exact idles fun u hu => hu.runTxn_eq _ _

end Still

/-- Settles O59: a quiet UNANCHORED desk is still, and the commands of a still desk are blind. -/
theorem unanchoredDeskIsBlind : Obligations.UnanchoredDeskIsBlind := by
  intro c s m quiet d
  have still : s.still := ⟨s.detached_iff.2 (.inl d), quiet⟩
  exact exec_blind still m d c

end Sys2Proof.Machine
end

section
/-! PROOF. The work list executor (R199 to R201): posts and list starts, the take-up of an order, the end of an order and of a list. -/

namespace Sys2Proof.Machine

/-! ## Posts (R199) -/

theorem State.post_attached {s : State} (h : s.attached = true) (a : Nat) :
    s.post a = if a % 32 ≠ 0 ∨ ¬ s.geometry.inWindow a 32 then s.listFault .postAddress a
      else s.withExecutor { s.executor with slot := some a } := if_pos h

theorem State.post_anchoring {s : State} (h : s.desk.state = .anchoring) (a : Nat) :
    s.post a = if a % 32 ≠ 0 then s.raise .memoryFault else s.withExecutor { s.executor with slot := some a } :=
  if_neg (by simp [State.attached, h])

theorem execWorklistWrite_lost {s : State} {v : RegWord} (hv : v.toNat ≠ 0)
    (h : s.desk.state = .unanchored ∨ s.executor.slot ≠ none) : execWorklistWrite v s = .next (s.raise .postLost) := by
  rw [execWorklistWrite, if_neg hv, if_pos (h.imp id Option.isSome_iff_ne_none.2)]

theorem execWorklistWrite_posts {s : State} {v : RegWord} (hv : v.toNat ≠ 0) (hdesk : s.desk.state ≠ .unanchored)
    (hslot : s.executor.slot = none) : execWorklistWrite v s = .next (s.post v.toNat) := by
  rw [execWorklistWrite, if_neg hv, if_neg (by simp [hdesk, hslot])]

theorem State.not_unanchored_of_attached {s : State} (h : s.desk.state = .opened ∨ s.desk.state = .halted) :
    s.desk.state ≠ .unanchored := by rcases h with h | h <;> rw [h] <;> decide

theorem execListStart_attached {s : State} {a : Nat} (hslot : s.executor.slot = some a) (hrun : s.executor.running = none)
    (h : s.attached = true) :
    execListStart s = if s.geometry.inWindow a 32 then .next (s.withExecutor (s.executor.begin a))
      else .next ((s.withExecutor { s.executor with slot := none }).listFault .postAddress a) := by
  simp only [execListStart, hslot, hrun, h, if_true]

/-- Settles O29. -/
theorem postsAndListStarts : Obligations.PostsAndListStarts := by
  intro s v a inside attached rejected post
  have hinside : s.geometry.inWindow a 32 = true ↔ inside := s.geometry.inWindow_iff a 32
  refine ⟨fun ha => if_pos ha, fun ha hdesk => execWorklistWrite_lost ha (.inl hdesk),
    fun ha hslot => execWorklistWrite_lost ha (.inr hslot), fun ha hslot => ⟨fun hdesk hodd => ?_, fun hdesk hbad => ?_,
      fun hdesk heven => ?_⟩, fun x hslot hrun hdesk => ⟨fun hin => ?_, fun hout => ?_⟩⟩
  · have posts := execWorklistWrite_posts ha (by rw [hdesk]; decide) hslot
    rwa [State.post_anchoring hdesk, if_pos hodd] at posts
  · have posts := execWorklistWrite_posts ha (State.not_unanchored_of_attached hdesk) hslot
    rwa [State.post_attached (s.attached_iff.2 hdesk), if_pos (hbad.imp id (mt hinside.1))] at posts
  · rcases hdesk with hdesk | ⟨hdesk, hin⟩
    · have posts := execWorklistWrite_posts ha (by rw [hdesk]; decide) hslot
      rwa [State.post_anchoring hdesk, if_neg (not_not_intro heven)] at posts
    · have posts := execWorklistWrite_posts ha (State.not_unanchored_of_attached hdesk) hslot
      rwa [State.post_attached (s.attached_iff.2 hdesk),
        if_neg (not_or.2 ⟨not_not_intro heven, not_not_intro (hinside.2 hin)⟩)] at posts
  · exact (execListStart_attached hslot hrun (s.attached_iff.2 hdesk)).trans (if_pos hin)
  · exact (execListStart_attached hslot hrun (s.attached_iff.2 hdesk)).trans (if_neg (Bool.eq_false_iff.1 hout))

/-! ## The take-up of an order (R200, R201) -/

section TakeUp

variable {s : State} {l : RunningList} (hdesk : s.desk.state = .opened ∨ s.desk.state = .halted)
  (hrun : s.executor.running = some l) (hfree : l.current = none)
include hdesk hrun hfree

/-- What ORDER_TAKE_UP finds when no order is taken up: a block outside the window, an END that never came, or an order. -/
theorem execOrderTakeUp_eq :
    execOrderTakeUp s =
      if ¬ s.geometry.inWindow l.address 32 then .next ((s.listFault .listWindow l.address).closeList .tooLong)
      else if 256 ≤ l.taken ∧ (Order.ofBlock (s.nextBlock l)).kind ≠ kindEnd then .next (s.closeList .tooLong)
      else .next (s.takeUp l (Order.ofBlock (s.nextBlock l))) := by
  have attached := s.attached_iff.2 hdesk
  rw [execOrderTakeUp, hrun]
  exact if_neg (by simp [hfree, attached])

end TakeUp

/-- The order taken up, before it ends or its owner begins. -/
def State.takenUp (s : State) (l : RunningList) (o : Order) : State :=
  s.withExecutor
    { s.executor with
      running := some
        { l with taken := l.taken + 1, current := some { order := o, wait := s.firstWait o, stamp := s.reading } }
      prefetched := if o.kind = kindEnd then none else s.prefetch l }

theorem State.takeUp_ends {s : State} {l : RunningList} {o : Order} {r : OrderOutcome} (h : s.takeUpOutcome l o = some r) :
    s.takeUp l o = (s.takenUp l o).finishOrder { outcome := r } := by
  simp only [State.takeUp, h]
  rfl

theorem State.takeUp_waits {s : State} {l : RunningList} {o : Order} (h : s.takeUpOutcome l o = none) :
    s.takeUp l o = s.takenUp l o := by
  simp only [State.takeUp, h]
  rfl

theorem Order.isReport_iff (o : Order) : o.isReport = true ↔ 23 ≤ o.kind ∧ o.kind ≤ 25 := by simp [Order.isReport]

theorem Order.isEngines_iff (o : Order) : o.isEngines = true ↔ (3 ≤ o.kind ∧ o.kind ≤ 14) ∨ o.kind = 16 ∨ o.kind = 17 := by
  simp only [Order.isEngines, Bool.or_eq_true, Bool.and_eq_true, decide_eq_true_eq, beq_iff_eq, or_assoc, kindPlaceHold,
    kindCancelHold]

theorem Order.runsHalted_iff (o : Order) : o.runsHalted = true ↔ o.kind = 0 ∨ o.kind = 15 ∨ (23 ≤ o.kind ∧ o.kind ≤ 25) := by
  simp only [Order.runsHalted, Bool.or_eq_true, beq_iff_eq, or_assoc, o.isReport_iff, kindEnd, kindReloadRules]

theorem State.firstWait_grant_iff (s : State) (o : Order) :
    s.firstWait o = .grant ↔ (3 ≤ o.kind ∧ o.kind ≤ 14) ∨ o.kind = 16 ∨ o.kind = 17 ∨
      (23 ≤ o.kind ∧ o.kind ≤ 25 ∧ s.desk.state = .opened) := by
  have waits : s.firstWait o = .grant ↔ o.isEngines = true ∨ (o.isReport = true ∧ s.desk.state = .opened) := by
    unfold State.firstWait
    split
    · next h => exact iff_of_true rfl h
    · next h => exact iff_of_false nofun h
  rw [waits, o.isEngines_iff, o.isReport_iff, or_assoc, or_assoc, and_assoc]

theorem State.firstWait_cases (s : State) (o : Order) : s.firstWait o = .grant ∨ s.firstWait o = .owner := by
  unfold State.firstWait
  split
  · exact .inl rfl
  · exact .inr rfl

section Outcome

variable (s : State) (l : RunningList) (o : Order)

theorem State.takeUpOutcome_skipped (h : l.stopped = true) (hk : o.kind ≠ 0) : s.takeUpOutcome l o = some .skipped :=
  if_pos ⟨h, hk⟩

theorem State.takeUpOutcome_badOrder (h : l.stopped = false) (hk : 25 < o.kind) :
    s.takeUpOutcome l o = some .badOrder := by simp [State.takeUpOutcome, h, hk]

theorem State.takeUpOutcome_halted (h : l.stopped = false) (hk : o.kind ≤ 25) (hs : s.desk.state = .halted)
    (ho : ¬ o.runsHalted = true) : s.takeUpOutcome l o = some .halted := by
  simp [State.takeUpOutcome, h, Nat.not_lt.2 hk, hs, Bool.not_eq_true _ ▸ ho]

theorem State.takeUpOutcome_none (h : l.stopped = false ∨ o.kind = 0) (hk : o.kind ≤ 25)
    (ho : s.desk.state = .opened ∨ o.runsHalted = true) : s.takeUpOutcome l o = none := by
  have going : ¬ (l.stopped = true ∧ o.kind ≠ kindEnd) := by
    rintro ⟨hs, hne⟩
    exact h.elim (fun hf => Bool.false_ne_true (hf.symm.trans hs)) hne
  have runs : ¬ (s.desk.state = .halted ∧ ¬ o.runsHalted = true) := by
    rintro ⟨hh, hn⟩
    exact ho.elim (fun h => by rw [h] at hh; cases hh) hn
  rw [State.takeUpOutcome, if_neg going, if_neg (Nat.not_lt.2 hk), if_neg runs]

end Outcome

/-- Settles O30. -/
theorem ordersAreTakenUp : Obligations.OrdersAreTakenUp := by
  intro s l hdesk hrun hfree o next stamp taken waits ended ofEngine inHalted
  have hexec := execOrderTakeUp_eq hdesk hrun hfree
  have hhalted : o.runsHalted = true ↔ inHalted := o.runsHalted_iff
  refine ⟨fun hout => hexec.trans (if_pos (Bool.eq_false_iff.1 hout)), fun hin hlong hk => ?_, fun hin hmore => ?_⟩
  · exact hexec.trans ((if_neg (not_not_intro hin)).trans (if_pos ⟨hlong, hk⟩))
  · have short : ¬ (256 ≤ l.taken ∧ o.kind ≠ 0) := by omega
    have takesUp : exec .orderTakeUp s = .next (s.takeUp l o) :=
      hexec.trans ((if_neg (not_not_intro hin)).trans (if_neg short))
    have ends {r : OrderOutcome} (h : s.takeUpOutcome l o = some r) : ended (s.firstWait o) r :=
      takesUp.trans (congrArg _ (State.takeUp_ends h))
    exact ⟨s.firstWait o, s.firstWait_grant_iff o, s.firstWait_cases o,
      fun hs hk => ends (s.takeUpOutcome_skipped l o hs hk), fun hs hk => ends (s.takeUpOutcome_badOrder l o hs hk),
      fun hs hk hd hn => ends (s.takeUpOutcome_halted l o hs hk hd (mt hhalted.1 hn)),
      fun hs hk hd => takesUp.trans
        (congrArg _ (State.takeUp_waits (s.takeUpOutcome_none l o hs hk (hd.imp id hhalted.2))))⟩

/-! ## The end of an order and of a list (R200, R201, R206) -/

theorem reasonCode_lt (x : Option Reason) : reasonCode x < 256 := by
  rcases x with _ | x
  · decide
  · exact x.code_lt

/-- The words of an order's end: reason and block set, result count, outcome with the mark of a lost slip. -/
theorem OrderResult.writes_eq (r : OrderResult) (block : Nat) :
    r.writes block =
      [{ addr := block + 2,
         word := (reasonCode r.reason + (if r.reason = some .borrowerBlocked then 256 * r.blocks.code else 0)) % 65536 },
       { addr := block + 8, word := (r.count % 4294967296).toNat % 65536 },
       { addr := block + 10, word := (r.count % 4294967296).toNat / 65536 },
       { addr := block, word := r.outcome.code + (if r.slipLost then 256 else 0) }] := by
  have hreason : bytePair (reasonCode r.reason) (if r.reason = some .borrowerBlocked then r.blocks.code else 0)
      = reasonCode r.reason + (if r.reason = some .borrowerBlocked then 256 * r.blocks.code else 0) := by
    have hcode := reasonCode_lt r.reason
    have hblocks := r.blocks.code_lt
    split
    · exact bytePair_eq hcode hblocks
    · exact bytePair_eq hcode (by decide)
  have hcount : (r.count % 4294967296).toNat / 65536 % 65536 = (r.count % 4294967296).toNat / 65536 := by omega
  have houtcome : (r.outcome.code + bitOf r.slipLost 8) % 65536 = r.outcome.code + (if r.slipLost then 256 else 0) := by
    have hcode : r.outcome.code < 256 := by cases r.outcome <;> decide
    unfold bitOf
    split <;> omega
  simp only [OrderResult.writes, putWords, words32, signed32, hreason, houtcome, hcount, Nat.mod_mod, List.cons_append,
    List.nil_append]

theorem State.orderAt_taken {s : State} {t : TakenOrder} {k : Nat} {w : OrderWait} (h : s.currentOrder = some t)
    (hk : t.order.kind = k) (hw : t.wait = w) : s.orderAt k w = some t.order := by
  simp only [State.orderAt, h, hk, hw, and_self, if_true]

theorem State.currentOrder_running {s : State} {l : RunningList} {t : TakenOrder} (hl : s.executor.running = some l)
    (ht : l.current = some t) : s.currentOrder = some t := by
  rw [State.currentOrder, Executor.current, hl]
  exact ht

/-- The writes of the list group at a close, word by word. -/
theorem State.listWrites_eq (s : State) (start : Nat) (status : ListStatus) :
    let a := s.desk.anchor + 0x40
    let completed := (s.mem.read32 (a + 8) + 1) % 4294967296
    let c := s.mem.read16 a
    let odd := if c % 2 = 0 then (c + 1) % 65536 else c
    s.listWrites start status =
      [{ addr := a, word := odd }, { addr := a + 2, word := status.code }, { addr := a + 4, word := start % 65536 },
       { addr := a + 6, word := start / 65536 % 65536 }, { addr := a + 8, word := completed % 65536 },
       { addr := a + 10, word := completed / 65536 }, { addr := a + 12, word := 0 }, { addr := a + 14, word := 0 },
       { addr := a, word := (odd + 1) % 65536 }] := by
  intro a completed c odd
  have hstatus : status.code % 65536 = status.code := by cases status <;> rfl
  have hcompleted : wrap32 (s.anchor32 (offList + 8) + 1) = completed := rfl
  have hhigh : completed / 65536 % 65536 = completed / 65536 := by omega
  have hgroup : s.listWrites start status = Machine.groupWrites s.mem a (putWords (a + 2)
      (status.code :: (words32 start ++ words32 completed ++ [0, 0]))) := by rw [← hcompleted]; rfl
  rw [hgroup]
  simp only [Machine.groupWrites, putWords, words32, hstatus, hhigh, Nat.mod_mod, List.cons_append, List.nil_append, Nat.zero_mod]
  rfl

/-- Settles O31. -/
theorem ordersAndListsEnd : Obligations.OrdersAndListsEnd := by
  refine ⟨fun s l t r hl ht => ?_, fun s l t hl ht hk hw => ?_, fun s l status hl => ?_⟩
  · intro count
    rw [s.finishOrder_eq r l t hl ht, r.writes_eq]
    rfl
  · simp only [exec, execEndList, State.orderAt_taken (k := kindEnd) (State.currentOrder_running hl ht) hk hw]
    rfl
  · intro a completed c odd
    simp only [State.closeList, hl, State.writeListClose, s.listWrites_eq]
    rfl

end Sys2Proof.Machine
end

section
/-! PROOF. The notice unit and the reads of the five registers (R193, R204, R206). -/

namespace Sys2Proof.Machine

/-! ## NOTICE (R204) -/

/-- The cause numbered `n` is pending and enabled (R204). -/
def NoticeUnit.shows (u : NoticeUnit) (n : Nat) : Prop := u.flags.getLsbD n = true ∧ n < u.ceiling

/-- One cause at a time: the first number is returned when it is shown, else the search goes on behind it. -/
theorem NoticeUnit.lowest_shown {u : NoticeUnit} {n : Nat} (k : Nat) (h : u.shows n) : u.lowest n (k + 1) = some n :=
  if_pos (Bool.and_eq_true_iff.2 ⟨h.1, decide_eq_true h.2⟩)

theorem NoticeUnit.lowest_hidden {u : NoticeUnit} {n : Nat} (k : Nat) (h : ¬ u.shows n) :
    u.lowest n (k + 1) = u.lowest (n + 1) k :=
  if_neg fun hb => h ((Bool.and_eq_true_iff.1 hb).imp id of_decide_eq_true)

theorem NoticeUnit.lowest_eq_some {u : NoticeUnit} {a : Nat} (ha : u.shows a) (k n : Nat) (hna : n ≤ a) (hak : a < n + k)
    (below : ∀ j, n ≤ j → j < a → ¬ u.shows j) : u.lowest n k = some a := by
  induction k generalizing n with
  | zero => omega
  | succ k ih =>
    rcases hna.eq_or_lt with rfl | hlt
    · exact lowest_shown k ha
    · rw [lowest_hidden k (below n le_rfl hlt)]
      exact ih (n + 1) hlt (by omega) fun j hj => below j (by omega)

theorem NoticeUnit.lowest_eq_none {u : NoticeUnit} (k n : Nat) (hidden : ∀ j, n ≤ j → j < n + k → ¬ u.shows j) :
    u.lowest n k = none := by
  induction k generalizing n with
  | zero => rfl
  | succ k ih =>
    rw [lowest_hidden k (hidden n le_rfl (by omega))]
    exact ih (n + 1) fun j hj hjk => hidden j (by omega) (by omega)

theorem NoticeUnit.clear_flag (u : NoticeUnit) (k : Nat) {n : Nat} (hn : n < 12) :
    (u.clear k).flags.getLsbD n = (u.flags.getLsbD n && decide (n ≠ k)) := by
  by_cases hnk : n = k
  · simp [NoticeUnit.clear, hnk]
  · simp [NoticeUnit.clear, hn, hnk]
    omega

theorem State.raise_flag (s : State) (c : Cause) {n : Nat} (hn : n < 12) :
    (s.raise c).notices.flags.getLsbD n = (s.notices.flags.getLsbD n || decide (n = c.number)) := by
  have hit : (1#12 <<< c.number).getLsbD n = decide (n = c.number) := by
    rw [Bool.eq_iff_iff]
    simp [hn]
    omega
  rw [← hit]
  exact BitVec.getLsbD_or

/-! ## STATE (R193, R206) -/

theorem DeskState.code_lt (d : DeskState) : d.code < 4 := by cases d <;> decide

theorem PrinterState.code_lt (p : PrinterState) : p.code < 4 := by cases p <;> decide

theorem UploadState.code_lt (u : UploadState) : u.code < 8 := by cases u <;> decide

/-- The fields of STATE, each in its place. -/
theorem State.readState_fields (s : State) :
    s.readState % 4 = s.desk.state.code ∧ (s.readState / 4 % 2 = 1 ↔ s.clock.isSet = true) ∧
      s.readState / 8 % 4 = s.printer.state.code ∧ s.readState / 32 % 8 = s.upload.state.code ∧
      (s.readState / 256 % 2 = 1 ↔ s.executor.running.isSome = true) ∧ s.readState / 512 % 128 = 0 ∧
      s.readState / 65536 = s.desk.reason.code := by
  have desk := s.desk.state.code_lt
  have printer := s.printer.state.code_lt
  have upload := s.upload.state.code_lt
  cases isSet : s.clock.isSet <;> cases runs : s.executor.running.isSome <;>
    simp only [State.readState, isSet, runs, bitOf, Bool.false_eq_true, if_true, if_false, iff_true, iff_false] <;> omega

/-- ANCHOR holds the low 24 bits of the value last written (R193). -/
theorem State.restart_anchor (s : State) (a : Nat) : (s.restart a).readAnchor = a := by
  obtain ⟨v, h⟩ := s.restart_eq a
  rw [h]
  change (s.desk.anchorWritten a).anchor = a
  unfold Desk.anchorWritten
  split
  · next h0 => exact h0.symm
  · rfl

/-- Settles O26. -/
theorem registersAct : Obligations.RegistersAct := by
  refine ⟨fun s v => ⟨fun hv => ?_, fun hv => ?_, fun hv => ?_, fun hv => ?_, rfl⟩, fun s => ?_, fun s => ?_⟩
  · exact ⟨_, if_pos hv, rfl, fun n hn => s.notices.clear_flag v.toNat hn⟩
  · exact if_neg (by omega)
  · simp only [exec, execCeilingWrite, Nat.min_eq_left hv]
  · simp only [exec, execCeilingWrite, Nat.min_eq_right hv.le]
  · refine ⟨fun n hn hshown hbelow => ?_, fun hnone => ?_, fun c n hn => s.raise_flag c hn⟩
    · have found : s.notices.lowest 0 12 = some n :=
        NoticeUnit.lowest_eq_some hshown 12 0 n.zero_le (by omega) fun k _ hk => hbelow k hk
      simp [State.readNotice, State.noticeOut, found]
    · have nothing : s.notices.lowest 0 12 = none := NoticeUnit.lowest_eq_none 12 0 fun j _ hj => hnone j (by omega)
      simp [State.readNotice, State.noticeOut, nothing]
  · obtain ⟨desk, isSet, printer, upload, runs, zero, reason⟩ := s.readState_fields
    refine ⟨rfl, rfl, fun h => ?_, fun a h => ?_, fun v stopped u hu => ?_, desk, isSet, printer, upload, ?_, zero, reason⟩
    · rw [State.readWorklist, h]
      rfl
    · rw [State.readWorklist, h]
      rfl
    · cases hu
      exact State.restart_anchor _ _
    · exact runs.trans Option.isSome_iff_exists

end Sys2Proof.Machine
end

section
/-! PROOF. The operand checks of a report, and what it does as a transaction in an OPEN desk and as the executor's own walk in a
HALTED one (R202). -/

namespace Sys2Proof.Machine

/-! ## The target -/

/-- Where a report that passes its checks writes: NEXT goes on at the running pointer (R202). -/
def reportAddress (s : State) (o : Order) : Nat := if o.reportMode = 2 then s.executor.pointer else o.target

/-- The operand checks of a report (R202). -/
def reportGood (s : State) (o : Order) : Prop :=
  o.capacity ≠ 0 ∧ o.reportMode ≤ 2 ∧ (o.reportMode = 2 → s.executor.pointer ≠ 0) ∧ reportAddress s o % 16 = 0 ∧
    s.geometry.inWindow (reportAddress s o) (16 * o.capacity) = true ∧ (o.kind = 23 → o.a ≤ 65535)

theorem reportTarget_good {s : State} {o : Order} (h : reportGood s o) : reportTarget s o = some (reportAddress s o) := by
  obtain ⟨hcapacity, hmode, hpointer, haligned, hin, hdays⟩ := h
  refine if_neg ?_
  rintro (h | h | ⟨h, hzero⟩ | h | h | ⟨h, hlong⟩)
  · exact hcapacity h
  · omega
  · exact hpointer h hzero
  · exact h haligned
  · exact h hin
  · exact absurd (hdays h) (by omega)

theorem reportTarget_bad {s : State} {o : Order} (h : ¬ reportGood s o) : reportTarget s o = none := by
  refine if_pos (by_contra fun passes => h ?_)
  simp only [not_or, not_and, not_not] at passes
  obtain ⟨hcapacity, hmode, hpointer, haligned, hin, hdays⟩ := passes
  exact ⟨hcapacity, Nat.not_lt.1 hmode, hpointer, haligned, hin, fun hk => Nat.not_lt.1 (hdays hk)⟩

/-! ## In an OPEN desk: a transaction -/

section Plans

variable {s : State} {t : Txn} {o : Order} (hk : t.kind = .order o)
include hk

theorem planReport_limit (h : ¬ reportGood s o) : planReport s t = orderLimit := by
  simp only [planReport, Txn.order_eq hk, reportTarget_bad h]
  rfl

theorem planReport_refused (h : reportGood s o) {r : Reason} (hg : t.gate .none true = some r) :
    planReport s t = { orderRefused r with pointer := reportPointer o (reportAddress s o) 0 } := by
  simp only [planReport, Txn.order_eq hk, reportTarget_good h, hg]
  rfl

theorem planReport_walks (h : reportGood s o) {st : Stamp} (ha : t.admitted st 0) :
    let run := reportRun s o st (reportAddress s o)
    planReport s t =
      { before := reportWrites (reportAddress s o) run.entries
        pointer := reportPointer o (reportAddress s o) run.entries.length
        fault := run.fault
        result := .order (if run.fault.isSome then { OrderResult.refused .deskHalted with count := run.entries.length }
          else run.result) } := by
  simp only [planReport, Txn.order_eq hk, reportTarget_good h, Txn.gate_none ha, Txn.at_admitted ha]

end Plans

/-- A report the engine has been granted. -/
theorem State.runReport_engaged {s : State} {t : Txn} {o : Order} (h : s.engaged t) (hk : t.kind = .order o)
    (hidle : s.orderAt o.kind .owner = none) : s.runReport o.kind = .next (s.carryOut t (planReport s t)) := by
  rw [State.runReport, hidle]
  exact State.runTxn_engaged h _ _ (by simp [hk, isOrder])

/-! ## In a HALTED desk: the executor's own walk -/

/-- A report the executor has taken up itself. -/
theorem State.runReport_taken {s : State} {k : TakenOrder} (h : s.currentOrder = some k) (hw : k.wait = .owner) :
    s.runReport k.order.kind = .next (s.reportHalted k.order k.stamp) := by
  rw [State.runReport, State.orderAt_taken h rfl hw, h]
  rfl

theorem State.reportHalted_limit {s : State} {o : Order} (h : ¬ reportGood s o) (stamp : Option Stamp) :
    s.reportHalted o stamp = s.finishOrder .limit := by
  simp only [State.reportHalted, reportTarget_bad h]

theorem State.reportHalted_unset {s : State} {o : Order} (h : reportGood s o) :
    s.reportHalted o none =
      (s.movePointer (reportPointer o (reportAddress s o) 0)).finishOrder (.refused .clockUnset) := by
  simp only [State.reportHalted, reportTarget_good h]

theorem State.reportHalted_walks {s : State} {o : Order} (h : reportGood s o) (st : Stamp) :
    let run := reportRun s o st (reportAddress s o)
    s.reportHalted o (some st) =
      ((s.writeAll (reportWrites (reportAddress s o) run.entries)).movePointer
        (reportPointer o (reportAddress s o) run.entries.length)).finishOrder
        (if run.fault.isSome then { outcome := .limit, count := run.entries.length } else run.result) := by
  simp only [State.reportHalted, reportTarget_good h]

end Sys2Proof.Machine
end

section
/-! PROOF. The records a report selects and the words of their entries (R64, R202, R206). -/

namespace Sys2Proof.Machine

/-! ## Where each walk begins -/

section Starts

variable {s : State} {o : Order} (st : Stamp) (a : Nat) (hitem : s.headerGood .item)
include hitem

theorem reportRun_overdue (hk : o.kind = 23) :
    reportRun s o st a = poolWalk s.tables (pickOverdue s.tables st o.a) a o.capacity { entries := [] } 0
      s.tables.itemHeader.capacity := by
  have touched : (Draft.start s.mem s.geometry).touch .item = .ok s.tables := hitem
  simp [reportRun, hk, kindReportBorrowerLoans, kindReportOverdue, touched, runOfFault, pure, Except.pure]

theorem reportRun_shelf (hk : o.kind = 25) :
    reportRun s o st a = shelfWalk s.tables (pickShelf s.tables) a o.capacity { entries := [] } none 0
      (s.tables.geometry.itemTable + 10) s.tables.itemHeader.shelfHead s.tables.itemHeader.shelfCount := by
  have touched : (Draft.start s.mem s.geometry).touch .item = .ok s.tables := hitem
  simp [reportRun, hk, kindReportBorrowerLoans, kindReportOverdue, touched, runOfFault, pure, Except.pure]

theorem reportRun_loans (hk : o.kind = 24) (hborrower : s.headerGood .borrower) {j : Nat}
    (hj : s.tables.lookup .borrower o.borrower = .ok (some j)) :
    reportRun s o st a = poolWalk s.tables (pickLoans j) a o.capacity { entries := [] } 0
      s.tables.itemHeader.capacity := by
  have touched : (Draft.start s.mem s.geometry).touch .borrower = .ok s.tables := hborrower
  have touched' : s.tables.touch .item = .ok s.tables := hitem
  simp [reportRun, hk, kindReportBorrowerLoans, touched, touched', hj, runOfFault, pure, Except.pure]

omit hitem in
theorem reportRun_unknown (hk : o.kind = 24) (hborrower : s.headerGood .borrower)
    (hj : s.tables.lookup .borrower o.borrower = .ok none) :
    reportRun s o st a = { entries := [], unknown := true } := by
  have touched : (Draft.start s.mem s.geometry).touch .borrower = .ok s.tables := hborrower
  simp [reportRun, hk, kindReportBorrowerLoans, touched, hj, runOfFault, pure, Except.pure]

end Starts

/-! ## A loan overdue -/

/-- The item number of an entry, in four words. -/
def entryNumber (n : Nat) : List Nat :=
  [n % 65536, n / 65536 % 65536, n / 4294967296 % 65536, n / 281474976710656 % 65536]

/-- REPORT_OVERDUE selects a loan due before the stamp, by `m` days at least (R202). -/
def overdueAt (st : Stamp) (m : Nat) (d : Draft) (i : Nat) : Prop :=
  let r := d.item i
  r.state = some .onLoan ∧ (r.due.day < st.day ∨ (r.due.day = st.day ∧ r.due.minute < st.minute)) ∧ r.due.day + m ≤ st.day

/-- An entry of REPORT_OVERDUE (R206). -/
def overdueEntry (b : Nat → BorrowerRecord) (d : Draft) (i : Nat) : List Nat :=
  entryNumber (d.item i).number ++
    [(b i).number % 65536, (b i).number / 65536 % 65536, (d.item i).due.day, (d.item i).due.minute]

section Picks

variable {start d : Draft} {i : Nat}

theorem pickOverdue_chosen {st : Stamp} {m : Nat} {b : Nat → BorrowerRecord} (h : overdueAt st m d i)
    (htouch : start.touch .borrower = .ok start) (hb : d.itemBorrower i = .ok (b i)) :
    pickOverdue start st m d i (d.item i) = .ok (some (overdueEntry b d i)) := by
  obtain ⟨hstate, hdue, hdays⟩ := h
  have later := (st.later_iff (d.item i).due).2 hdue
  have found : ((start.touch .borrower).bind fun _ => d.itemBorrower i) = .ok (b i) := by rw [htouch]; exact hb
  simp only [pickOverdue, if_pos (And.intro hstate (And.intro later hdays)), found, words64_eq, words32]
  rfl

theorem pickOverdue_passed {st : Stamp} {m : Nat} (h : ¬ overdueAt st m d i) :
    pickOverdue start st m d i (d.item i) = .ok none :=
  if_neg fun ⟨hstate, hlater, hdays⟩ => h ⟨hstate, (st.later_iff _).1 hlater, hdays⟩

/-! ## The loans of a borrower -/

/-- REPORT_BORROWER_LOANS selects the items ON_LOAN or LOST that name borrower record `j` (R202). -/
def loanOf (j : Nat) (d : Draft) (i : Nat) : Prop :=
  ((d.item i).state = some .onLoan ∨ (d.item i).state = some .lost) ∧ (d.item i).borrower = j

/-- An entry of REPORT_BORROWER_LOANS (R206). -/
def loanEntry (d : Draft) (i : Nat) : List Nat :=
  let r := d.item i
  entryNumber r.number ++
    [r.due.day, r.due.minute, (if r.state = some .onLoan then 2 else 4) + 256 * r.renewCount,
     (if r.hourLoan then 1 else 0) + (if r.clamped then 2 else 0)]

theorem pickLoans_chosen {j : Nat} (h : loanOf j d i) (hcount : (d.item i).renewCount < 256) :
    pickLoans j d i (d.item i) = .ok (some (loanEntry d i)) := by
  obtain ⟨hstate, hindex⟩ := h
  have state : bytePair (itemStateCode (d.item i).state) (d.item i).renewCount
      = (if (d.item i).state = some .onLoan then 2 else 4) + 256 * (d.item i).renewCount := by
    rcases hstate with h | h <;> rw [h] <;> exact bytePair_eq (by decide) hcount
  have flags : bytePair (bitOf (d.item i).hourLoan 0 + bitOf (d.item i).clamped 1) 0
      = (if (d.item i).hourLoan then 1 else 0) + (if (d.item i).clamped then 2 else 0) := by
    cases (d.item i).hourLoan <;> cases (d.item i).clamped <;> rfl
  rw [pickLoans, if_pos ⟨hstate, hindex⟩, state, flags, words64_eq]
  rfl

theorem pickLoans_passed {j : Nat} (h : ¬ loanOf j d i) : pickLoans j d i (d.item i) = .ok none := if_neg h

/-! ## The hold shelf -/

theorem pickShelf_chosen {r : ItemRecord} {b : BorrowerRecord} (htouch : start.touch .borrower = .ok start)
    (hb : d.holdBorrower i 0 r.head = .ok b) (hlength : r.queue.length < 256) :
    pickShelf start d i r
      = .ok (some (entryNumber r.number ++ [b.number % 65536, b.number / 65536 % 65536, r.deadline, r.queue.length])) := by
  have found : ((start.touch .borrower).bind fun _ => d.holdBorrower i 0 r.head) = .ok b := by rw [htouch]; exact hb
  have length : bytePair r.queue.length 0 = r.queue.length := bytePair_eq hlength (by decide)
  simp only [pickShelf, found, words64_eq, words32, length]
  rfl

end Picks

/-! ## Bounds of a record as read (R66) -/

theorem readQueue_length (m : Memory) (a n : Nat) : (readQueue m a n).length = n := by
  induction n generalizing a with
  | zero => rfl
  | succ n ih => rw [readQueue, List.length_cons, ih]

/-- The tables with the first entries written at the target (R202). -/
def State.tablesReported (s : State) (a capacity : Nat) (es : List (List Nat)) : Draft :=
  { s.tables with mem := s.tables.mem.apply (reportWrites a (es.take capacity)) }

section Reported

variable (s : State) (a capacity : Nat) (es : List (List Nat)) (i : Nat)

theorem State.tablesReported_renewCount : ((s.tablesReported a capacity es).item i).renewCount < 256 := BitVec.isLt _

theorem State.tablesReported_queue : ((s.tablesReported a capacity es).item i).queue.length < 256 := by
  change (readQueue _ _ (min _ 6)).length < 256
  rw [readQueue_length]
  omega

end Reported

/-! ## The walk of the hold shelf -/

/-- With no entry found the tables are as they stood. -/
theorem State.tablesReported_nil (s : State) (a capacity : Nat) : s.tablesReported a capacity [] = s.tables := by
  simp [State.tablesReported, reportWrites]

section Shelf

variable {d : Draft} {pick : ReportPick} {a capacity : Nat}

/-- A shelf walk at the end of the list, every record counted (R64). -/
theorem shelfWalk_end (r : ReportRun) {pred : Option Nat} (previous field : Nat)
    (htail : pred.getD Config.nullIndex = d.itemHeader.shelfTail) :
    shelfWalk d pick a capacity r pred previous field Config.nullIndex 0 = r := by
  simp [shelfWalk, shelfEnd, htail]

/-- A record of the list that passes the checks of R64 is added. -/
theorem shelfWalk_record {i : Nat} {e : List Nat} (r : ReportRun) (pred : Option Nat) {previous : Nat} (field n : Nat)
    (hi : i < d.itemHeader.capacity) (hcap : d.itemHeader.capacity ≤ 65534) (hinside : d.inside .item i = true)
    (hok : shelfRecordOk (d.item i) previous = true) (hpick : pick d i (d.item i) = .ok (some e)) :
    shelfWalk d pick a capacity r pred previous field i (n + 1) =
      if (r.add capacity e).truncated then r.add capacity e
      else shelfWalk (d.record a r.entries.length e) pick a capacity (r.add capacity e) (some i) (d.item i).deadline
        (d.address .item i + 26) (d.item i).shelfNext n := by
  have hnull : i ≠ Config.nullIndex := by
    have : Config.nullIndex = 65535 := rfl
    omega
  simp [shelfWalk, hnull, Nat.not_le.2 hi, hinside, hok, hpick]

end Shelf

section ShelfList

variable {s : State} {a capacity : Nat} {list : List Nat} {es : List (List Nat)}

/-- Record `k` of the list, as it is read with the entries before it written (R202). -/
def State.shelfRecord (s : State) (a capacity : Nat) (list : List Nat) (es : List (List Nat)) (k : Nat) : ItemRecord :=
  (s.tablesReported a capacity (es.take k)).item (list.getD k 0)

/-- Record `k` of the list passes its checks and gives entry `k` (R64, R202). -/
def State.givesEntry (s : State) (a capacity : Nat) (list : List Nat) (es : List (List Nat)) (k : Nat) : Prop :=
  let d := s.tablesReported a capacity (es.take k)
  let i := list.getD k 0
  let r := s.shelfRecord a capacity list es k
  i < s.tables.itemHeader.capacity ∧ d.inside .item i = true ∧ r.state = some .onHoldShelf ∧ r.queue ≠ [] ∧
    r.shelfNext = list.getD (k + 1) Config.nullIndex ∧ pickShelf s.tables d i r = .ok (some (es.getD k []))

/-- The tables after entry `k` is written, while there is room. -/
theorem State.tablesReported_record {k : Nat} (hk : k < es.length) (hroom : k < capacity) :
    (s.tablesReported a capacity (es.take k)).record a k (es.getD k []) = s.tablesReported a capacity (es.take (k + 1)) := by
  have before : (es.take k).take capacity = es.take k := List.take_of_length_le (by simp; omega)
  have after : (es.take (k + 1)).take capacity = es.take k ++ [es.getD k []] := by
    rw [List.take_of_length_le (by simp; omega), List.getD_eq_getElem _ _ hk, List.take_append_getElem]
  have length : (es.take k).length = k := List.length_take_of_le hk.le
  have written := s.tables.record_written a (es.take k) (es.getD k [])
  rw [length] at written
  rw [State.tablesReported, State.tablesReported, before, after]
  exact written

/-- The walk from record `k` of the list on, the entries before it written. -/
theorem shelfWalk_from (hcap : s.tables.itemHeader.capacity ≤ 65534) (hlength : es.length = list.length)
    (htail : s.tables.itemHeader.shelfTail = list.getLast?.getD Config.nullIndex)
    (hgives : ∀ k, k < list.length → s.givesEntry a capacity list es k)
    (hordered : ∀ k, k + 1 < list.length →
      (s.shelfRecord a capacity list es k).deadline ≤ (s.shelfRecord a capacity list es (k + 1)).deadline)
    (n : Nat) {k : Nat} (hk : k + n = list.length) (hroom : k ≤ capacity) (pred : Option Nat) (previous field : Nat)
    (hpred : pred.getD Config.nullIndex = (list.take k).getLast?.getD Config.nullIndex)
    (hprevious : k < list.length → previous ≤ (s.shelfRecord a capacity list es k).deadline) :
    shelfWalk (s.tablesReported a capacity (es.take k)) (pickShelf s.tables) a capacity { entries := es.take k } pred previous
        field (list.getD k Config.nullIndex) n
      = { entries := es.take capacity, truncated := decide (capacity < es.length) } := by
  induction n generalizing k pred previous field with
  | zero =>
    obtain rfl : k = list.length := hk
    rw [List.getD_eq_default _ _ le_rfl,
      shelfWalk_end _ _ _ (hpred.trans (by rw [List.take_length]; exact htail.symm)), ← hlength, List.take_length,
      List.take_of_length_le (hlength ▸ hroom), decide_eq_false (Nat.not_lt.2 (hlength ▸ hroom))]
  | succ n ih =>
    have hlt : k < list.length := by omega
    have hes : k < es.length := hlength.symm ▸ hlt
    have length : (es.take k).length = k := List.length_take_of_le hes.le
    obtain ⟨hindex, hinside, hstate, hqueue, hnext, hpick⟩ := hgives k hlt
    have hok : shelfRecordOk (s.shelfRecord a capacity list es k) previous = true := by
      simp only [shelfRecordOk, hstate, BEq.rfl, List.isEmpty_eq_false_iff.2 hqueue, Bool.not_false, Bool.true_and,
        decide_eq_true (hprevious hlt)]
    have walks := shelfWalk_record (d := s.tablesReported a capacity (es.take k)) (a := a) (capacity := capacity)
      { entries := es.take k } pred field n hindex hcap hinside hok hpick
    rw [List.getD_eq_getElem _ _ hlt, ← List.getD_eq_getElem _ 0 hlt, walks]
    rcases hroom.lt_or_eq with hmore | rfl
    · have added : ReportRun.add { entries := es.take k } capacity (es.getD k []) = { entries := es.take (k + 1) } := by
        rw [List.getD_eq_getElem _ _ hes, ← List.take_append_getElem hes]
        simp [ReportRun.add, length, hmore]
      have next : ((s.tablesReported a capacity (es.take k)).item (list.getD k 0)).shelfNext
          = list.getD (k + 1) Config.nullIndex := hnext
      rw [added, length, State.tablesReported_record hes hmore, next]
      refine ih (by omega) hmore _ _ _ ?_ fun h => hordered k h
      rw [List.getD_eq_getElem _ _ hlt, ← List.take_append_getElem hlt, List.getLast?_concat]
    · have full : ReportRun.add { entries := es.take k } k (es.getD k []) = { entries := es.take k, truncated := true } := by
        simp [ReportRun.add, length]
      rw [full, if_pos rfl, decide_eq_true hes]

end ShelfList

end Sys2Proof.Machine
end

section
/-! PROOF. The reports, assembled (R202, R206). -/

namespace Sys2Proof.Machine

/-- Which records a pool walk selects, record `i` as it is read with the entries before it written, and the entry of each (R202). -/
def State.selects (s : State) (a capacity : Nat) (chosen : Draft → Nat → Prop) (entry : Draft → Nat → List Nat)
    (es : Nat → Option (List Nat)) : Prop :=
  ∀ i, i < s.tables.itemHeader.capacity →
    let e := s.tablesReported a capacity ((List.range i).filterMap es)
    e.inside .item i = true ∧ (e.item i).state ≠ none ∧ (chosen e i → es i = some (entry e i)) ∧ (¬ chosen e i → es i = none)

/-- A pool walk that picks the records selected finds their entries (R202). -/
theorem poolWalk_selected {s : State} {a capacity : Nat} {chosen : Draft → Nat → Prop} {entry : Draft → Nat → List Nat}
    {es : Nat → Option (List Nat)} {pick : ReportPick} (hselects : s.selects a capacity chosen entry es)
    (hchosen : ∀ i, i < s.tables.itemHeader.capacity → es i ≠ none →
      let e := s.tablesReported a capacity ((List.range i).filterMap es)
      chosen e i → pick e i (e.item i) = .ok (some (entry e i)))
    (hpassed : ∀ e i, ¬ chosen e i → pick e i (e.item i) = .ok none) :
    let found := (List.range s.tables.itemHeader.capacity).filterMap es
    poolWalk s.tables pick a capacity { entries := [] } 0 s.tables.itemHeader.capacity
      = { entries := found.take capacity, truncated := decide (capacity < found.length) } := by
  refine poolWalksListTheMatches s.tables pick es a capacity _ fun i hi => ?_
  obtain ⟨hinside, hstate, hsome, hnone⟩ := hselects i hi
  refine ⟨hinside, hstate, ?_⟩
  by_cases h : chosen (s.tablesReported a capacity ((List.range i).filterMap es)) i
  · have hes := hsome h
    rw [hes]
    exact hchosen i hi (hes ▸ Option.some_ne_none _) h
  · rw [hnone h]
    exact hpassed _ _ h

/-- Settles O39. -/
theorem reportsAreWritten : Obligations.ReportsAreWritten := by
  intro s o c hc mode capacity a good pointer refused result
  have hrun : exec c s = s.runReport o.kind := by
    rcases hc with ⟨hk, rfl⟩ | ⟨hk, rfl⟩ | ⟨hk, rfl⟩ <;> rw [hk] <;> rfl
  refine ⟨fun t hengaged hk hidle => ?_, fun k hcurrent horder hw => ?_, fun st hitem => ⟨?_, ?_, ?_⟩⟩
  · have hexec : exec c s = .next (s.carryOut t (planReport s t)) := hrun.trans (State.runReport_engaged hengaged hk hidle)
    refine ⟨fun hbad => ?_, fun hok hhalted => ?_, fun hok hopen hunset => ?_, fun st hok ha => ?_⟩
    · rw [hexec, planReport_limit hk hbad]
      rfl
    · have gate : t.gate .none true = some .deskHalted := if_pos hhalted
      rw [hexec, planReport_refused hk hok gate]
      rfl
    · have gate : t.gate .none true = some .clockUnset := by simp [Txn.gate, hopen, hunset]
      rw [hexec, planReport_refused hk hok gate]
      rfl
    · intro r plan
      rw [hexec, planReport_walks hk hok ha]
      refine ⟨fun hnone => ?_, fun f hsome => ?_⟩
      · have sound : (reportRun s o st (reportAddress s o)).fault = none := hnone
        simp only [sound, State.carryOut]
        rfl
      · have faulty : (reportRun s o st (reportAddress s o)).fault = some f := hsome
        simp only [faulty]
        rfl
  · subst horder
    have hexec : exec c s = .next (s.reportHalted k.order k.stamp) := hrun.trans (State.runReport_taken hcurrent hw)
    refine ⟨fun hbad => ?_, fun hok hunset => ?_, fun st hok hstamp => ?_⟩
    · rw [hexec, State.reportHalted_limit hbad]
      rfl
    · rw [hexec, hunset, State.reportHalted_unset hok, State.movePointer_eq]
      rfl
    · intro r written
      rw [hexec, hstamp, State.reportHalted_walks hok st, State.movePointer_eq]
      refine ⟨fun hnone => ?_, fun hsome => ?_⟩
      · have sound : (reportRun s k.order st (reportAddress s k.order)).fault = none := hnone
        rw [sound]
        rfl
      · have faulty : (reportRun s k.order st (reportAddress s k.order)).fault.isSome = true :=
          Option.isSome_iff_ne_none.2 hsome
        rw [if_pos faulty]
        rfl
  · intro es b hk overdue hpool hborrowers
    have selects : s.selects a capacity (overdueAt st o.a) (overdueEntry b) es := hpool
    refine (reportRun_overdue st a hitem hk).trans
      (poolWalk_selected selects (fun i hi hes hdue => ?_) fun e i => pickOverdue_passed)
    obtain ⟨htouch, hb⟩ := hborrowers i hi hes
    exact pickOverdue_chosen hdue htouch hb
  · refine fun hk hborrower => ⟨reportRun_unknown st a hk hborrower, fun es j hj hpool => ?_⟩
    have selects : s.selects a capacity (loanOf j) loanEntry es := hpool
    exact (reportRun_loans st a hitem hk hborrower hj).trans
      (poolWalk_selected selects (fun i _ _ hloan => pickLoans_chosen hloan (s.tablesReported_renewCount a capacity _ i))
        fun e i => pickLoans_passed)
  · intro list es hk h visit read hhead htail hcount hcap hlength hgives
    have gives (k : Nat) (hlt : k < list.length) : s.givesEntry a capacity list es k := by
      obtain ⟨hindex, hinside, hstate, hqueue, -, hnext, htouch, b, hb, he⟩ := hgives k hlt
      refine ⟨hindex, hinside, hstate, hqueue, hnext, ?_⟩
      rw [he]
      exact pickShelf_chosen htouch hb (s.tablesReported_queue a capacity _ _)
    have ordered (k : Nat) (hlt : k + 1 < list.length) : (read k).deadline ≤ (read (k + 1)).deadline := by
      obtain ⟨-, -, -, -, hdeadline, -⟩ := hgives (k + 1) hlt
      exact hdeadline k.succ_pos
    have walk := shelfWalk_from hcap hlength htail gives ordered list.length (Nat.zero_add _) (Nat.zero_le _) none 0
      (s.tables.geometry.itemTable + 10) rfl fun _ => Nat.zero_le _
    have begins : s.tables.itemHeader.shelfHead = list.getD 0 Config.nullIndex := hhead
    have counted : s.tables.itemHeader.shelfCount = list.length := hcount.symm
    rw [← begins, ← counted, List.take_zero, s.tablesReported_nil] at walk
    exact (reportRun_shelf st a hitem hk).trans walk

end Sys2Proof.Machine
end
